-- ==== Sys2Proof/Word.lean ====
section
/-! DEFINITION. The word types of the T416: what the manual treats as bits is a bit vector, a node ID is a number below sixteen, and a line has one of two levels. -/

namespace Sys2Proof

/-- A byte of the local port (11_formats_and_encodings.md, R197). -/
abbrev Byte := BitVec 8

/-- An epoch number: an unsigned 32-bit count that wraps (00_scope.md, Conventions). -/
abbrev Epoch := BitVec 32

/-- A set of node IDs as it is reported: the bit of weight 2^k stands for ID k (R196). -/
abbrev Mask := BitVec 16

/-- A node ID, which is also a slot number: 0 to 15 (R81). -/
abbrev NodeId := Fin 16

/-- An oscillator class, 0 to 3 (R182, field 9). -/
abbrev OscClass := Fin 4

/-- The level of a line or pin. On MARK and WORD low is the asserted, dominant level (R58). -/
inductive Level where
  | low
  | high
  deriving DecidableEq, Repr

end Sys2Proof
end

