-- ==== Sys2Proof/Config.lean ====
section
/-! DEFINITION. What the manual leaves open for the whole part: the free values. -/

namespace Sys2Proof

/-- The free value behind every choice of order that the manual leaves open (log entry 4): which of
the events that different blocks post at one instant is stored first (R189), which of several pieces
of evidence confirmed by one rise comes first (R50), and whether a grid phase that falls exactly at
the instant of a search has already been taken (R166, R169). It has no body, so nothing can be
proved of its values; `State.freeCount` supplies a fresh argument each time. -/
opaque Config.freeChoice : Nat → Nat

end Sys2Proof
end

