-- ==== Sys2Proof/Syntax.lean ====
section
/-! DEFINITION. The commands of the T416: one constructor for each row of spec/opcode_table.json.

A command is one event at the part's boundary or on its own timescale. Two kinds of operand give time:
* an event from outside (an edge on a pin or line, a local port transaction) carries `dt`, the nominal
  oscillator time since the preceding command in units of 1/16 ns (R1);
* an event that the part's own timescale brings about (a phase point, the expiry of a timer) carries no
  time: the state says when it is due, and the command says that time has run to that instant.
See log entry 1. -/

namespace Sys2Proof

inductive Instr where
  /-- Power-on reset (R161). -/
  | powerOnReset
  /-- Assertion of the RESET pin (R18). -/
  | resetPin
  /-- Release of either reset, with the level of the four ID straps (R81). -/
  | resetRelease (straps : NodeId)
  /-- The site phase reaches 1,000,000,000 ns outside a replay (R4). -/
  | endOfEpoch
  /-- The site phase reaches 1,000,000,000 ns again, during a replay (R13). -/
  | replayEnd
  /-- Slot time k is raised (R6, R40). -/
  | slotTime (k : NodeId)
  /-- The node's own mark has lasted 8,000 ns (R40). -/
  | markRelease
  /-- 2,000 ns after the release of the node's own mark (R48). -/
  | heldLowTest
  /-- The end of the mark region is raised (R6, R90). -/
  | endOfMarkRegion
  /-- The temperature sample point is raised; `die` is the die temperature in 1/16 degree (R148). -/
  | temperatureSample (die : Int)
  /-- The talk window opening point is raised (R68). -/
  | talkWindowOpening
  /-- The talk window closing point is raised (R75). -/
  | talkWindowClosing
  /-- The solve point is raised (R122). -/
  | solvePoint
  /-- A transition of REFIN, rising or falling (R20). -/
  | refinTransition (dt : Nat) (rising : Bool)
  /-- The debounce time of the reference edge candidate ends (R20). -/
  | refinEdgeAccepted
  /-- The blanking timer has run its 500,000,000 ns (R21). -/
  | blankingEnd
  /-- REFVALID is deasserted (R36). -/
  | refvalidDeassert (dt : Nat)
  /-- REFVALID is asserted (R36). -/
  | refvalidAssert (dt : Nat)
  /-- A fall of MARK that the node does not make itself (R41). -/
  | markFall (dt : Nat)
  /-- MARK has stayed low for 2,000 ns (R41). -/
  | markEdgeAccept
  /-- A rise of MARK (R50). -/
  | markRise (dt : Nat)
  /-- MARK has been low for 1,000,000 ns (R51). -/
  | markStuck
  /-- MARK has been high for 1,000,000 ns while its line-fault flag is set (R53). -/
  | markRecovery
  /-- A fall of WORD that the node does not make itself (R61). -/
  | wordFall (dt : Nat)
  /-- A rise of WORD (R74). -/
  | wordRise (dt : Nat)
  /-- The idle timer reaches 48,000 ns (R59). -/
  | lineIdle
  /-- The bit just compared shows that arbitration is lost (R73). -/
  | arbitrationLoss
  /-- The bit just compared shows a payload collision (R74). -/
  | payloadCollision
  /-- The frame that has just arrived complete is the node's own (R76). -/
  | frameSent
  /-- The reception just ended is faulty (R64). -/
  | frameError
  /-- The frame that has just arrived is a sound CENSUS (R65, R66, R67). -/
  | censusReceived
  /-- The frame that has just arrived is a sound JOIN (R66, R67). -/
  | joinReceived
  /-- The frame that has just arrived is a sound LEAVE (R66, R67). -/
  | leaveReceived
  /-- WORD has been low for 1,000,000 ns (R77). -/
  | wordStuck
  /-- WORD has been high for 1,000,000 ns while its line-fault flag is set (R78). -/
  | wordRecovery
  /-- SUPPLY SENSE crosses a threshold and now stands at `millivolts` (R96). -/
  | supplySenseCrossing (dt : Nat) (millivolts : Nat)
  /-- The supply timer reaches the debounce time in NORMAL (R96). -/
  | supplyLow
  /-- The supply timer reaches the debounce time in LOW (R96). -/
  | supplyRestored
  /-- Generator g reaches its next start (R167). -/
  | generatorStart (g : Fin 4)
  /-- The pulse timer of generator g has counted the width (R167). -/
  | pulseEnd (g : Fin 4)
  /-- The INHIBIT pin changes to the given level, asserted or not (R171). -/
  | inhibitPinChange (dt : Nat) (asserted : Bool)
  /-- The INHIBIT pin has held its new level for 1,000 ns (R171). -/
  | filteredLevelChange
  /-- A fall of CSN (R177). -/
  | transactionStart (dt : Nat)
  /-- A rise of CSN with `bits` bits clocked in, fewer than eight (R177). -/
  | shortTransaction (dt : Nat) (bits : Nat)
  /-- A rise of CSN that ends a READ RESPONSE, `count` bytes having been clocked out (R179). -/
  | readResponse (dt : Nat) (count : Nat)
  /-- A rise of CSN that ends a SETUP with the payload bytes clocked in (R181). -/
  | setup (dt : Nat) (payload : List Byte)
  /-- A rise of CSN that ends a LOAD TABLE PAGE (R184). -/
  | loadTablePage (dt : Nat) (payload : List Byte)
  /-- A rise of CSN that ends a BEGIN (R185). -/
  | begin (dt : Nat)
  /-- A rise of CSN that ends a STATUS (R186). -/
  | status (dt : Nat)
  /-- A rise of CSN that ends a ROSTER (R186). -/
  | roster (dt : Nat)
  /-- A rise of CSN that ends a TABLE PAGE (R186). -/
  | tablePage (dt : Nat) (payload : List Byte)
  /-- A rise of CSN that ends an EVENTS (R192). -/
  | events (dt : Nat) (payload : List Byte)
  /-- A rise of CSN that ends a WITHDRAW (R187). -/
  | withdraw (dt : Nat)
  /-- A rise of CSN that ends a RESUME (R187). -/
  | resume (dt : Nat)
  /-- A rise of CSN that ends a TRIM GROUP (R165, R188). -/
  | trimGroup (dt : Nat) (payload : List Byte)
  /-- A rise of CSN that ends a CLEAR INHIBIT (R172, R188). -/
  | clearInhibit (dt : Nat)
  /-- A rise of CSN after a command byte that names no command (R177). -/
  | unknownCommand (dt : Nat) (code : Byte)
  /-- The assembly of a response ends (R178). -/
  | responseCompletion (dt : Nat)
  /-- The sample point of a bit on WORD (R58, R61). -/
  | wordSamplePoint
  /-- The end of a bit that the node sends, where its next bit starts (R58). -/
  | wordBitStart
  /-- The clock on OSCIN stops (R1). -/
  | oscinStop (dt : Nat)
  /-- The clock on OSCIN returns (R1). -/
  | oscinReturn
  deriving DecidableEq, Repr

end Sys2Proof
end

