-- ==== Sys2Proof/Decode.lean ====
section
/-! DEFINITION. The command that the bytes of a transaction on the local port select (R177, R197), and the command that a word spells: that of the transaction whose bytes it holds. -/

namespace Sys2Proof

/-- The command bytes that name a command: 00 to 0B (R197). -/
def namesCommand (code : Byte) : Bool := decide (code.toNat ≤ 0x0B)

/-- The command that a command byte and the bytes after it select (R197). In a READ RESPONSE as many bytes are clocked
out as are clocked in after the command byte (R177, R179). -/
def Instr.ofCommand (dt : Nat) (code : Byte) (payload : List Byte) : Instr :=
  match code.toNat with
  | 0x00 => .readResponse dt payload.length
  | 0x01 => .setup dt payload
  | 0x02 => .loadTablePage dt payload
  | 0x03 => .begin dt
  | 0x04 => .status dt
  | 0x05 => .roster dt
  | 0x06 => .tablePage dt payload
  | 0x07 => .events dt payload
  | 0x08 => .withdraw dt
  | 0x09 => .resume dt
  | 0x0A => .trimGroup dt payload
  | 0x0B => .clearInhibit dt
  | _ => .unknownCommand dt code

/-- The row that the rise of CSN stands for, after whole bytes and `rest` further bits have been clocked in: without
a whole byte no command byte was received, and bits beyond the last whole byte are discarded (R177). -/
def Instr.ofTransaction (dt : Nat) (bytes : List Byte) (rest : Fin 8) : Instr :=
  match bytes with
  | [] => .shortTransaction dt rest.val
  | code :: payload => .ofCommand dt code payload

/-- The whole bytes of a word of `nbits` bits, the first in the least significant bits. -/
def bytesOfWord (nbits w : Nat) : List Byte := (List.range (nbits / 8)).map (fun i => BitVec.ofNat 8 (w / 256 ^ i))

/-- The command that a word spells: no row of the table gives bits, so a word of none spells nothing, and any other
is taken as the bytes of a transaction on the local port, no time having passed before its rise of CSN (R177, R197, log
entry 27). -/
def decodeTableWord (nbits w : Nat) : Option Instr :=
  if nbits = 0 then none else some (.ofTransaction 0 (bytesOfWord nbits w) (Fin.ofNat 8 nbits))

end Sys2Proof
end

