-- ==== Sys2Proof/Machine/Arith.lean ====
section
/-! DEFINITION. The arithmetic the manual's rules share: folding, clamping, rounding, medians, reported quantities and byte order. -/

namespace Sys2Proof.Machine

open Sys2Proof

/-- One epoch of site phase, 1,000,000,000 ns, in 1/16 ns. -/
def epochTicks : Nat := 16000000000

/-- `n` ns in 1/16 ns. -/
def ns (n : Nat) : Nat := 16 * n

/-- The representative in (−500,000,000, +500,000,000] ns of a phase modulo one epoch, in 1/16 ns
(00_scope.md, Conventions). -/
def fold (x : Int) : Int :=
  let r := x % 16000000000
  if r > 8000000000 then r - 16000000000 else r

/-- The value nearest to `x` in the range `lo` to `hi` (Conventions: clamping). -/
def clampInt (lo hi x : Int) : Int := max lo (min hi x)

/-- A clamp to ±100,000,000 ppt, the range of every frequency correction (R3, R132, R133). -/
def clampPpt (x : Int) : Int := clampInt (-100000000) 100000000 x

/-- Division of natural numbers, rounded up. -/
def ceilDiv (a b : Nat) : Nat := (a + b - 1) / b

/-- A count that saturates. -/
def satAdd (limit x y : Nat) : Nat := min limit (x + y)

/-- One more, saturating at 65,535 (R46, R47, R64, R75, R120). -/
def satInc16 (x : Nat) : Nat := satAdd 65535 x 1

/-- A phase or offset in ns, rounded toward zero (R196). -/
def toNs (x : Int) : Int := Int.tdiv x 16

/-- A signed quantity as a 32-bit pattern, saturating at the ends of the range (R196). -/
def signed32 (x : Int) : BitVec 32 := BitVec.ofInt 32 (clampInt (-2147483648) 2147483647 x)

/-- The error bound in units of 4 ns, rounded up from fs and saturating at 65,535 (R196). -/
def reportBound (b : Nat) : Nat := min 65535 (ceilDiv b 4000000)

/-- The error bound in ns, rounded up and saturating at 2,147,483,647 (R139, R196). -/
def reportBoundNs (b : Nat) : Nat := min 2147483647 (ceilDiv b 1000000)

/-- Insertion into an ascending list. -/
def insertAsc (x : Int) : List Int → List Int
  | [] => [x]
  | y :: ys => if x ≤ y then x :: y :: ys else y :: insertAsc x ys

/-- The list in ascending order. -/
def sortAsc : List Int → List Int
  | [] => []
  | x :: xs => insertAsc x (sortAsc xs)

/-- The lower median: the middle value, or the lower of the two middle values (Conventions). -/
def lowerMedian (xs : List Int) : Int := (sortAsc xs).getD ((xs.length - 1) / 2) 0

/-- The sum of a list of integers. -/
def sumInt : List Int → Int
  | [] => 0
  | x :: xs => x + sumInt xs

/-- A list as a queue of bounded length: the new item is appended, the oldest leaving first. -/
def appendBounded {α : Type} (limit : Nat) (xs : List α) (x : α) : List α :=
  let ys := xs ++ [x]
  ys.drop (ys.length - limit)

/-- The sixteen IDs in ascending order. -/
def allIds : List NodeId := [0, 1, 2, 3, 4, 5, 6, 7, 8, 9, 10, 11, 12, 13, 14, 15]

/-- Whether a mask holds an ID (R196). -/
def maskHas (m : Mask) (k : NodeId) : Bool := m.getLsbD k.val

/-- The mask of a list of IDs (R196). -/
def maskOf : List NodeId → Mask
  | [] => 0
  | k :: ks => (1#16 <<< k.val) ||| maskOf ks

/-- The bytes of a number, most significant first (11, Bit and byte order). -/
def bytesBE : (count : Nat) → Nat → List Byte
  | 0, _ => []
  | count + 1, x => bytesBE count (x / 256) ++ [BitVec.ofNat 8 x]

/-- The number that bytes stand for, most significant first. -/
def natBE (bs : List Byte) : Nat := bs.foldl (fun acc b => acc * 256 + b.toNat) 0

/-- The bytes of a signed 32-bit number. -/
def bytesS32 (x : Int) : List Byte := bytesBE 4 (BitVec.ofInt 32 x).toNat

/-- The signed 32-bit number that four bytes stand for. -/
def intBE32 (bs : List Byte) : Int := (BitVec.ofNat 32 (natBE bs)).toInt

/-- A bit as 0 or 1 of a given weight in a flags byte. -/
def weight (b : Bool) (w : Nat) : Nat := if b then w else 0

/-- The bits of a number, most significant first; true is recessive (R58). -/
def bitsBE : (count : Nat) → Nat → List Bool
  | 0, _ => []
  | count + 1, x => bitsBE count (x / 2) ++ [x % 2 == 1]

/-- The number that bits stand for, most significant first. -/
def natOfBits (bs : List Bool) : Nat := bs.foldl (fun acc b => acc * 2 + b.toNat) 0

end Sys2Proof.Machine
end

