-- ==== Sys2Proof/Machine/State.lean ====
section
/-! DEFINITION. The state of the T416: one structure for each block, every item of each chapter's state table, the pins, the queue of waiting commands, and the state after reset.

Phases, times and offsets are whole numbers of 1/16 ns unless a field says otherwise (00_scope.md,
Conventions). An item that the manual defines as a function of other items is computed where it is read
and not stored twice: the site phase (`Timescale.sitePhase`), the mean temperature T (`TempUnit.mean`),
the own admitted mask (`Roster.ownMask`), the mark unit's mode (`MembershipState.mode`), and the output
pins (Flags.lean). -/

namespace Sys2Proof.Machine

open Sys2Proof

/-! ## Pins -/

/-- The pins and lines as the part sees them. They belong to the outside world: a reset leaves them. -/
structure Pins where
  /-- Whether the clock on OSCIN runs (R1). -/
  oscRunning : Bool
  /-- Whether the part is held in reset, from the assertion of either reset to its release (R1, R81). -/
  resetHeld : Bool
  /-- REFIN as synchronised to OSCIN: the level the qualifier takes (R19). -/
  refin : Level
  /-- The level on the REFIN pin itself. -/
  refinPin : Level
  /-- Whether REFVALID is asserted, as synchronised to OSCIN (R19, R36). -/
  refvalid : Bool
  /-- Whether the REFVALID pin itself is asserted. -/
  refvalidPin : Bool
  /-- The level of the MARK line (R41). -/
  mark : Level
  /-- The level of the WORD line (R58). -/
  word : Level
  /-- SUPPLY SENSE, in mV (R96). -/
  supply : Nat
  /-- Whether INHIBIT is asserted, that is high, as synchronised to OSCIN (R171). -/
  inhibit : Bool
  /-- Whether the INHIBIT pin itself is asserted. -/
  inhibitPin : Bool
  deriving DecidableEq, Repr

/-! ## The configuration record (R182, R183, R198) -/

/-- Invalid behaviour of a generator (R162). -/
inductive InvalidBehaviour where
  | low
  | high
  | run
  deriving DecidableEq, Repr

/-- A group of generators (R162). -/
inductive Group where
  | a
  | b
  deriving DecidableEq, Repr

/-- The eight settings of one generator (R162, R183). -/
structure GenSettings where
  enable : Bool
  /-- Period P, in microseconds. -/
  period : Nat
  /-- Phase offset O, in ns. -/
  offset : Nat
  /-- Width W, in ns. -/
  width : Nat
  inverted : Bool
  group : Group
  invalid : InvalidBehaviour
  skip : Nat
  deriving DecidableEq, Repr

/-- Four like things, one for each generator. -/
structure Quad (α : Type) where
  g0 : α
  g1 : α
  g2 : α
  g3 : α
  deriving DecidableEq, Repr

/-- Debounce setting of REFIN (R182, field 3). -/
inductive Debounce where
  | none
  | ns100
  | us1
  | us10
  deriving DecidableEq, Repr

/-- Inhibit mode (R182, field 23). -/
inductive InhibitMode where
  | latched
  | follow
  deriving DecidableEq, Repr

/-- An accepted configuration record, field by field in the order of R182. -/
structure Settings where
  refFitted : Bool
  /-- The selected edge of REFIN is the falling one. -/
  edgeFalling : Bool
  debounce : Debounce
  useRefvalid : Bool
  /-- Qualification count Q. -/
  qualCount : Nat
  /-- Miss limit M. -/
  missLimit : Nat
  /-- Window half-width, in microseconds. -/
  halfWidth : Nat
  /-- Reference offset setting, in ns. -/
  refOffset : Int
  cls : OscClass
  /-- S_anchor, ns per epoch. -/
  slewAnchor : Nat
  /-- S_borrow, ns per epoch. -/
  slewBorrow : Nat
  /-- S_coast, ns per epoch. -/
  slewCoast : Nat
  /-- Dispute threshold, ns. -/
  dispute : Nat
  /-- Step threshold, ns. -/
  stepLimit : Nat
  /-- Lock threshold, ns. -/
  lockLimit : Nat
  /-- Holdover budget, ns. -/
  budget : Nat
  /-- Reference uncertainty, ns. -/
  refUncertainty : Nat
  /-- First-member count, epochs. -/
  firstMember : Nat
  admission : Mask
  /-- Supply low threshold, mV. -/
  supplyLow : Nat
  /-- Supply high threshold, mV. -/
  supplyHigh : Nat
  /-- Supply debounce time, ms. -/
  supplyDebounce : Nat
  inhibitMode : InhibitMode
  /-- Snapshot postscaler N. -/
  snapPostscaler : Nat
  /-- Snapshot skip K. -/
  snapSkip : Nat
  gens : Quad GenSettings
  deriving DecidableEq, Repr

/-! ## Timescale unit (01_site_timescale_and_epoch.md) -/

/-- The stamp of an instant (R8): epoch number and site phase. -/
structure Stamp where
  epoch : Epoch
  phase : Nat
  deriving DecidableEq, Repr

/-- The fixed phase points of an epoch (R6). -/
inductive PhasePoint where
  | slot (k : NodeId)
  | endOfMark
  | temperature
  | talkOpen
  | talkClose
  | solve
  deriving DecidableEq, Repr

/-- A group offset: current value and target, in ns (R164). -/
structure GroupOffset where
  current : Int
  target : Int
  deriving DecidableEq, Repr

/-- State of the timescale unit. The site phase is the reading of `base`, `tau` and the rate. -/
structure Timescale where
  /-- Site phase at which the running epoch or replay began: 0, a forward step s, or the start of a replay. -/
  base : Nat
  /-- Nominal oscillator time since then, in 1/16 ns (R1). -/
  tau : Nat
  /-- Length L of the epoch in nominal oscillator time (R2). -/
  len : Nat
  epoch : Epoch
  /-- F in effect, ppt. -/
  f : Int
  /-- c in effect, 1/16 ns. -/
  c : Int
  pendF : Option Int
  pendC : Option Int
  /-- F carry K. -/
  carry : Int
  pendStep : Option Int
  pendAdopt : Option Epoch
  /-- Whether a replay is in progress (R13). -/
  replay : Bool
  /-- The step-began flag (R14). -/
  stepBegan : Bool
  groupA : GroupOffset
  groupB : GroupOffset
  /-- The fixed points already raised or passed in this epoch (R6). -/
  raised : List PhasePoint
  deriving DecidableEq, Repr

/-! ## Reference qualifier (02_reference_input_and_qualification.md) -/

inductive RefState where
  | absent
  | probation
  | qualified
  | disputed
  deriving DecidableEq, Repr

/-- An entry of the reference ring or of the outlier list: interval index, offset r, reduced offset u. -/
structure RefEntry where
  index : Epoch
  r : Int
  u : Int
  deriving DecidableEq, Repr

/-- The record of the interval in progress. -/
structure IntervalRecord where
  accepted : Bool
  outlierSeen : Bool
  offset : Option Int
  deriving DecidableEq, Repr

/-- A selected transition that awaits its debounce time: its stamp, the tally W at its stamp (R22, R23)
and the elapsed site time since it. -/
structure RefCandidate where
  stamp : Stamp
  tally : Int
  age : Nat
  deriving DecidableEq, Repr

structure RefUnit where
  state : RefState
  probCount : Nat
  missCount : Nat
  /-- Oldest first. -/
  outliers : List RefEntry
  /-- Oldest first. -/
  ring : List RefEntry
  /-- The correction tally W as it stood when the running epoch or replay began (R22). -/
  tally : Int
  /-- Interval index, modulo 2^32. -/
  interval : Epoch
  record : IntervalRecord
  candidate : Option RefCandidate
  /-- Blanking timer: elapsed site time remaining. -/
  blanking : Option Nat
  deriving DecidableEq, Repr

/-! ## Mark unit (03_the_mark_train.md) -/

inductive MarkMode where
  | idle
  | opened
  | windowed
  deriving DecidableEq, Repr

/-- What one slot of a capture set, or the early holding, reads (R44). -/
inductive SlotReading where
  | none
  | one (m : Int)
  | contested
  deriving DecidableEq, Repr

structure CaptureSet where
  epoch : Epoch
  slots : Vector SlotReading 16
  deriving DecidableEq, Repr

/-- The own echo record (R48). -/
structure OwnEcho where
  asserted : Bool
  /-- MARK was already low just before the assertion. -/
  lowBefore : Bool
  stamp : Option Stamp
  heldLow : Bool
  deriving DecidableEq, Repr

/-- Causes of conflict evidence (R93). -/
inductive Cause where
  | lowAtAssert
  | heldLow
  | otherEdge
  | frameOwnId
  | payloadCollision
  deriving DecidableEq, Repr

/-- The evidence record of the open capture set. Every pending piece waits on the low period in progress. -/
structure Evidence where
  reported : Bool
  pending : List Cause
  deriving DecidableEq, Repr

/-- A fall that awaits the glitch limit. -/
structure MarkCandidate where
  stamp : Stamp
  age : Nat
  /-- Reading of the high-time measure at the fall (R42). -/
  highBefore : Nat
  /-- A boundary proper has come since the fall (R44). -/
  crossed : Bool
  deriving DecidableEq, Repr

/-- An own-window edge of ID 0 in the early range, held for the next capture set (R49): whether the low
period it began still lasts, or has ended with a rise. -/
inductive EarlyOwn where
  | none
  | lasting
  | ended
  deriving DecidableEq, Repr

structure MarkUnit where
  /-- Elapsed site time of the own mark remaining, while driving. -/
  drive : Option Nat
  /-- The 2,000 ns watch after the release: time remaining. -/
  heldWatch : Option Nat
  candidate : Option MarkCandidate
  highTime : Option Nat
  capture : Option CaptureSet
  early : SlotReading
  earlyOwn : EarlyOwn
  echo : OwnEcho
  evidence : Evidence
  strayCount : Nat
  contestedCount : Nat
  strayEpoch : Option Epoch
  fault : Bool
  lowTimer : Option Nat
  recovery : Option Nat
  deriving DecidableEq, Repr

/-! ## Frame unit (04_word_frames_and_arbitration.md) -/

inductive LeaveReason where
  | command
  | supply
  | conflict
  deriving DecidableEq, Repr

/-- The timing states (07, table of 7.1). -/
inductive TimingState where
  | free
  | acquiring
  | anchored
  | borrowing
  | coasting
  | alone
  deriving DecidableEq, Repr

/-- An observation: peer ID and offset in 1/16 ns (R195). -/
structure Observation where
  peer : NodeId
  offset : Int
  deriving DecidableEq, Repr

/-- The declared fields that a CENSUS alone carries (R69). The bound is in units of 4 ns. -/
structure Declared where
  timing : TimingState
  overBudget : Bool
  bound : Nat
  mask : Mask
  deriving DecidableEq, Repr

/-- A frame, field by field (R195), without start bit and CRC. -/
inductive Frame where
  | leave (sender : NodeId) (epoch : Epoch) (reason : LeaveReason)
  | census (sender : NodeId) (epoch : Epoch) (cls : OscClass) (declared : Declared) (obs : List Observation)
  | join (sender : NodeId) (epoch : Epoch) (cls : OscClass) (obs : List Observation)
  deriving DecidableEq, Repr

inductive Receiver where
  | waitingIdle
  | ready
  /-- A fall has been taken as the start of a start bit; its sample point is still to come (R61). -/
  | starting
  | receiving
  deriving DecidableEq, Repr

inductive Transmitter where
  | quiet
  | arbitrating
  | sending
  deriving DecidableEq, Repr

/-- Which frame of the transmit slot is in flight. -/
inductive InFlight where
  | talk
  | leave
  deriving DecidableEq, Repr

/-- Error kinds of a faulty reception (R63, R65). -/
inductive ErrorKind where
  | crc
  | format
  | truncated
  | epoch
  deriving DecidableEq, Repr

/-- What a reception has come to, at the instant it ends and until the row that disposes of it:
a fault found (with the sender ID where it had been taken), or a frame arrived complete. -/
inductive Receipt where
  | faulty (kind : ErrorKind) (subject : Option NodeId)
  | arrived (frame : Frame) (crcGood : Bool)
  deriving DecidableEq, Repr

/-- A talk frame dropped by a payload collision, with its returned flag set (R74, R77): its content,
whether the talk window has closed since, and whether a LEAVE has been requested or the membership
state has left JOINING and MEMBER since. -/
structure ReturnedTalk where
  frame : Frame
  windowClosed : Bool
  void : Bool
  deriving DecidableEq, Repr

/-- A LEAVE dropped by a payload collision, with its returned flag set: whether the membership state
has left WITHDRAWN for LISTEN since. -/
structure ReturnedLeave where
  reason : LeaveReason
  void : Bool
  deriving DecidableEq, Repr

structure FrameUnit where
  windowOpen : Bool
  talk : Option Frame
  leave : Option LeaveReason
  inFlight : Option InFlight
  tx : Transmitter
  /-- The bits on the line of the frame in flight, stuff bits included; true is recessive. -/
  txBits : List Bool
  txPos : Nat
  /-- Elapsed site time in the bit being sent; present while a bit is held. -/
  txAge : Option Nat
  /-- The level read at the sample point of the bit being sent, once taken. -/
  txRead : Option Level
  /-- Whether the transmitter pulls WORD low. -/
  txDriving : Bool
  rx : Receiver
  /-- Bits taken so far, start bit first, stuff bits removed; true is recessive. -/
  rxBits : List Bool
  /-- Consecutive recessive bits on the line up to the last bit taken. -/
  rxRun : Nat
  /-- The reception in progress is of a frame that has arrived as the node's own (R76). -/
  rxOwn : Bool
  /-- Elapsed site time to the receiver's next sample point. -/
  toSample : Nat
  receipt : Option Receipt
  idleTimer : Option Nat
  /-- Pending evidence of cause PAYLOAD_COLLISION, on the low period in progress. -/
  collision : Bool
  returnedTalk : Option ReturnedTalk
  returnedLeave : Option ReturnedLeave
  /-- The membership state has left WITHDRAWN for LISTEN while the LEAVE was in flight. -/
  leaveVoid : Bool
  crcErrors : Nat
  formatErrors : Nat
  truncatedErrors : Nat
  epochErrors : Nat
  unsent : Nat
  errorEpoch : Option Epoch
  fault : Bool
  lowTimer : Option Nat
  recovery : Option Nat
  deriving DecidableEq, Repr

/-! ## Membership unit (05_membership.md) -/

inductive MembershipState where
  | unconfigured
  | listen
  | apart
  | aligning
  | joining
  | member
  | withdrawn
  | conflict
  deriving DecidableEq, Repr

inductive FrameKind where
  | leave
  | census
  | join
  deriving DecidableEq, Repr

/-- An entry of the frame record (R85). -/
structure FrameNote where
  sender : NodeId
  kind : FrameKind
  epoch : Epoch
  anchored : Bool
  deriving DecidableEq, Repr

/-- The newest train start: its stamp and its lowest ID m (R86). -/
structure TrainStart where
  stamp : Stamp
  lowest : NodeId
  deriving DecidableEq, Repr

/-- A CENSUS sender of the join record, and whether its mask lists the node ID (R91). -/
structure JoinNote where
  sender : NodeId
  lists : Bool
  deriving DecidableEq, Repr

structure Membership where
  nodeId : NodeId
  state : MembershipState
  /-- COMMAND stands in the withdraw-reason set. -/
  reasonCommand : Bool
  /-- SUPPLY stands in the withdraw-reason set. -/
  reasonSupply : Bool
  quietCount : Nat
  heard : Bool
  /-- Open frame record, ascending by sender. -/
  frameRecord : List FrameNote
  closedRecord : List FrameNote
  trainStart : Bool
  /-- Coarse offsets, oldest first. -/
  history : List Int
  newest : Option TrainStart
  aligningCount : Nat
  emptyCount : Nat
  /-- CENSUS senders of the join record, ascending. -/
  joinSenders : List JoinNote
  /-- A good CENSUS or JOIN was delivered in the epoch in progress. -/
  joinHeard : Bool
  joinCounter : Nat
  joinQuiet : Nat
  evidenceThis : Bool
  evidenceLast : Bool
  adoptionOutstanding : Bool
  /-- The supply state is LOW. -/
  supplyIsLow : Bool
  supplyTimer : Nat
  deriving DecidableEq, Repr

/-! ## Roster (06_the_roster.md) -/

inductive EntryState where
  | heard
  | admitted
  | suspect
  deriving DecidableEq, Repr

inductive SuspectCause where
  | censusMiss
  | markMiss
  | deviation
  deriving DecidableEq, Repr

inductive SampleKind where
  | twoWay
  | oneWay
  deriving DecidableEq, Repr

structure Sample where
  epoch : Epoch
  offset : Int
  kind : SampleKind
  deriving DecidableEq, Repr

/-- The frame received flag of an entry. -/
inductive Received where
  | none
  | census
  | join
  | mismatched
  deriving DecidableEq, Repr

structure Entry where
  id : NodeId
  state : EntryState
  cause : Option SuspectCause
  goodRun : Nat
  censusMiss : Nat
  markMiss : Nat
  deviation : Nat
  restore : Nat
  mismatch : Nat
  mismatchPosted : Bool
  cls : OscClass
  declared : Option Declared
  lastEpoch : Epoch
  /-- Path delay d. -/
  delay : Option Int
  /-- Phase ring, oldest first. -/
  ring : List Sample
  received : Received
  marked : Bool
  sampled : Bool
  deriving DecidableEq, Repr

/-- This-epoch columns of a row of the epoch difference table: D and whether ANCHORED was declared. -/
structure DiffColumns where
  diff : Epoch
  anchored : Bool
  deriving DecidableEq, Repr

/-- A row of the epoch difference table (R115). -/
structure DiffRow where
  id : NodeId
  now : Option DiffColumns
  runDiff : Epoch
  runCount : Nat
  deriving DecidableEq, Repr

structure Roster where
  /-- Ascending by ID. -/
  entries : List Entry
  openingMask : Option Mask
  /-- The full-posted set, no repeats. -/
  fullPosted : List NodeId
  /-- Rows that hold anything, ascending by ID. -/
  diffs : List DiffRow
  adoptionOutstanding : Bool
  deriving DecidableEq, Repr

/-! ## Solver (07_ensemble_solution_and_timing_states.md) -/

/-- The targets of ACQUIRING. -/
inductive Target where
  | anchored
  | borrowing
  | coasting
  deriving DecidableEq, Repr

structure Solver where
  timing : TimingState
  target : Option Target
  validTime : Bool
  stateHeld : Nat
  lockCount : Nat
  /-- Steer F, ppt. -/
  steerF : Int
  /-- Trim, ppt. -/
  trim : Int
  /-- Holdover anchor H, ppt. -/
  anchorH : Int
  lastE : Option Int
  /-- Error bound B, fs. -/
  bound : Nat
  /-- Growth rate R, as per epoch. -/
  rate : Nat
  growthClass : OscClass
  growthN : Nat
  overBudget : Bool
  timeValid : Bool
  disputeCount : Nat
  undisputeCount : Nat
  selfExcluded : Bool
  split : Bool
  /-- IDs of the candidate set formed at the last solve, less entries removed since. -/
  lastC : List NodeId
  /-- IDs of the anchored set formed at the last solve, less entries removed since. -/
  lastA : List NodeId
  deriving DecidableEq, Repr

/-! ## Temperature unit (08_temperature_learning.md) -/

/-- A bin: learned value in ppt and count. -/
structure TempBin where
  value : Int
  count : Nat
  deriving DecidableEq, Repr

inductive PredSource where
  | bin
  | neighbour
  | frozen
  deriving DecidableEq, Repr

structure TempUnit where
  /-- Die samples in 1/16 degree, oldest first. -/
  samples : List Int
  excursion : Bool
  table : Vector TempBin 80
  lastF : Int
  frozen : Option Int
  deriving DecidableEq, Repr

/-! ## Generator unit (09_output_generators.md) -/

inductive RunState where
  | disabled
  | holding
  | skipping
  | running
  deriving DecidableEq, Repr

/-- A next start: a site phase in whole ns, in the current epoch or in the next. -/
structure NextStart where
  phase : Int
  nextEpoch : Bool
  deriving DecidableEq, Repr

/-- A running pulse timer, and whether the pulse is shown (R163). -/
structure Pulse where
  remaining : Nat
  shown : Bool
  deriving DecidableEq, Repr

structure Generator where
  run : RunState
  skip : Nat
  next : Option NextStart
  pulse : Option Pulse
  deriving DecidableEq, Repr

structure GenUnit where
  gens : Quad Generator
  timeValid : Bool
  /-- The inhibit state is IN_FORCE. -/
  inForce : Bool
  /-- The filtered pin level is asserted. -/
  filtered : Bool
  filterTimer : Option Nat
  deriving DecidableEq, Repr

/-! ## Local port (10_local_port.md) -/

/-- Event kinds, in the order of R189. -/
inductive EventKind where
  | refQualified | refLost | refStep | refDisputed | refUndisputed | stateChange | overBudget
  | selfExcluded | anchorSplit | peerAdmitted | peerSuspect | peerRestored | peerRemoved | rosterFull
  | rosterMismatch | membershipChange | ensembleFar | joinTimeout | conflict | epochAdopted
  | censusUnsent | frameError | strayMark | lineFault | supplyLow | supplyRestored | tempRange
  | inhibit | snapshot
  deriving DecidableEq, Repr

/-- The blocks that post events: those of one block keep their order among one instant's events (R189). -/
inductive Lane where
  | qualifier | mark | frame | membership | roster | solver | temperature | generator | port
  deriving DecidableEq, Repr

/-- An event posted within the step in progress and not yet offered to the queue. -/
structure Posting where
  lane : Lane
  epoch : Epoch
  kind : EventKind
  subject : Option NodeId
  value : Option (BitVec 32)
  /-- A block whose events posted before this one are stored before it (R143). -/
  after : Option Lane
  deriving DecidableEq, Repr

/-- An event record (R189). -/
structure EventRecord where
  seq : BitVec 16
  epoch : Epoch
  kind : EventKind
  subject : Option NodeId
  value : Option (BitVec 32)
  deriving DecidableEq, Repr

/-- Result codes (R180). -/
inductive ResultCode where
  | ok
  | refusedState
  | refusedValue
  | unknown
  deriving DecidableEq, Repr

/-- A response: the command byte it answers, result code, field index, payload (R178, R179). -/
structure Response where
  command : Byte
  code : ResultCode
  field : Nat
  payload : List Byte
  deriving DecidableEq, Repr

/-- The response slot (R178). -/
inductive Slot where
  | empty
  | pending (r : Response)
  | ready (r : Response)
  deriving DecidableEq, Repr

structure Port where
  record : Option Settings
  /-- A transaction in progress, with the response slot as it stood at the fall of CSN (R179). -/
  transaction : Option Slot
  slot : Slot
  /-- Oldest first. -/
  queue : List EventRecord
  nextSeq : BitVec 16
  lost : Nat
  snapSkip : Nat
  snapPost : Nat
  /-- What SDO carries in the transaction in progress, or carried in the last one to end: none where it
  stands released (R177), else the bytes that a READ RESPONSE drives. -/
  sdo : Option (List Byte)
  /-- Events posted within the step in progress, oldest first; empty between steps (the model's own). -/
  outbox : List Posting
  deriving DecidableEq, Repr

/-! ## The whole machine -/

structure State where
  pins : Pins
  ts : Timescale
  ref : RefUnit
  mark : MarkUnit
  frame : FrameUnit
  mem : Membership
  roster : Roster
  solver : Solver
  temp : TempUnit
  gen : GenUnit
  port : Port
  /-- How many free values have been used (the model's own; log entry 4). -/
  freeCount : Nat
  /-- The commands that are waiting, first in, first out. -/
  pending : List Instr
  deriving DecidableEq, Repr

/-- Why a command stops the part: there is no such reason. Every command of the table has an effect that
the manual gives, so this type has no constructor and no step can answer `fault`. -/
inductive Fault where
  deriving DecidableEq, Repr

/-- Why a step has no meaning. -/
inductive Refusal where
  /-- A command whose meaning is not written; raised by Dispatch alone, and safe: nothing can be proved
  of such a command. No arm raises it. -/
  | notModelled (mnemonic : String)
  deriving DecidableEq, Repr

/-! ## Reset values -/

/-- R18. -/
def Timescale.reset : Timescale :=
  { base := 0, tau := 0, len := 16000000000, epoch := 0, f := 0, c := 0, pendF := none, pendC := none,
    carry := 0, pendStep := none, pendAdopt := none, replay := false, stepBegan := false,
    groupA := ⟨0, 0⟩, groupB := ⟨0, 0⟩, raised := [] }

/-- R38. -/
def RefUnit.reset : RefUnit :=
  { state := .absent, probCount := 0, missCount := 0, outliers := [], ring := [], tally := 0,
    interval := 0, record := ⟨false, false, none⟩, candidate := none, blanking := none }

/-- R56. -/
def MarkUnit.reset : MarkUnit :=
  { drive := none, heldWatch := none, candidate := none, highTime := none, capture := none,
    early := .none, earlyOwn := .none, echo := ⟨false, false, none, false⟩, evidence := ⟨false, []⟩,
    strayCount := 0, contestedCount := 0, strayEpoch := none, fault := false, lowTimer := none,
    recovery := none }

/-- R80. -/
def FrameUnit.reset : FrameUnit :=
  { windowOpen := false, talk := none, leave := none, inFlight := none, tx := .quiet, txBits := [],
    txPos := 0, txAge := none, txRead := none, txDriving := false, rx := .waitingIdle, rxBits := [],
    rxRun := 0, rxOwn := false, toSample := 0, receipt := none, idleTimer := none, collision := false,
    returnedTalk := none, returnedLeave := none, leaveVoid := false, crcErrors := 0, formatErrors := 0,
    truncatedErrors := 0, epochErrors := 0, unsent := 0, errorEpoch := none, fault := false,
    lowTimer := none, recovery := none }

/-- R98. The node ID is sampled at the release; until then it is 0 (log entry 3). -/
def Membership.reset : Membership :=
  { nodeId := 0, state := .unconfigured, reasonCommand := false, reasonSupply := false,
    quietCount := 0, heard := false, frameRecord := [], closedRecord := [], trainStart := false,
    history := [], newest := none, aligningCount := 0, emptyCount := 0, joinSenders := [],
    joinHeard := false, joinCounter := 0, joinQuiet := 0, evidenceThis := false, evidenceLast := false,
    adoptionOutstanding := false, supplyIsLow := false, supplyTimer := 0 }

/-- R119. -/
def Roster.reset : Roster :=
  { entries := [], openingMask := none, fullPosted := [], diffs := [], adoptionOutstanding := false }

/-- R147. The growth class and count that go with R = 0 are 0 (log entry 3). -/
def Solver.reset : Solver :=
  { timing := .free, target := none, validTime := false, stateHeld := 0, lockCount := 0, steerF := 0,
    trim := 0, anchorH := 0, lastE := none, bound := 1000000000000000, rate := 0, growthClass := 0,
    growthN := 0, overBudget := false, timeValid := false, disputeCount := 0, undisputeCount := 0,
    selfExcluded := false, split := false, lastC := [], lastA := [] }

/-- The temperature table after power-on reset (R161). -/
def TempUnit.clearTable : Vector TempBin 80 := Vector.replicate 80 ⟨0, 0⟩

/-- R161, with the table given: cleared by power-on reset, kept by the RESET pin. -/
def TempUnit.reset (table : Vector TempBin 80) : TempUnit :=
  { samples := [], excursion := false, table := table, lastF := 0, frozen := none }

/-- R176. -/
def GenUnit.reset : GenUnit :=
  { gens := ⟨⟨.disabled, 0, none, none⟩, ⟨.disabled, 0, none, none⟩, ⟨.disabled, 0, none, none⟩,
      ⟨.disabled, 0, none, none⟩⟩,
    timeValid := false, inForce := false, filtered := false, filterTimer := none }

/-- R194. -/
def Port.reset : Port :=
  { record := none, transaction := none, slot := .empty, queue := [], nextSeq := 0, lost := 0,
    snapSkip := 0, snapPost := 0, sdo := none, outbox := [] }

/-- The inputs as the model takes them at power-on (log entry 3): the clock runs, both open-drain lines
stand at their pulled-up level, and every other input is inactive or 0. -/
def Pins.atPowerOn : Pins :=
  { oscRunning := true, resetHeld := true, refin := .low, refinPin := .low, refvalid := false
    refvalidPin := false, mark := .high, word := .high, supply := 0, inhibit := false, inhibitPin := false }

/-- The part after power-on reset (R18, R38, R56, R80, R98, R119, R147, R161, R176, R194), with the
reset still asserted: RESET_RELEASE opens epoch 0 (R81). -/
def State.reset : State :=
  { pins := Pins.atPowerOn, ts := Timescale.reset, ref := RefUnit.reset, mark := MarkUnit.reset,
    frame := FrameUnit.reset, mem := Membership.reset, roster := Roster.reset,
    solver := Solver.reset, temp := TempUnit.reset TempUnit.clearTable, gen := GenUnit.reset,
    port := Port.reset, freeCount := 0, pending := [] }

/-- What every meaning answers. -/
abbrev Result := Host.Outcome State Fault Refusal

end Sys2Proof.Machine
end

