-- ==== Sys2Proof/Machine/Ops.lean ====
section
/-! DEFINITION. The operations every block shares: settings in force, time and timers, stamps and phase points, free choices, and the posting and storing of events. -/

namespace Sys2Proof.Machine

open Sys2Proof

/-! ## Settings and states every block reads -/

/-- The record of an unconfigured node, read by nothing that has an effect before BEGIN. -/
def Settings.blank : Settings :=
  let g : GenSettings := ⟨false, 1000000, 0, 50, false, .a, .low, 0⟩
  { refFitted := false, edgeFalling := false, debounce := .none, useRefvalid := false, qualCount := 4,
    missLimit := 1, halfWidth := 1, refOffset := 0, cls := 0, slewAnchor := 1, slewBorrow := 1,
    slewCoast := 1, dispute := 50, stepLimit := 1000, lockLimit := 20, budget := 200,
    refUncertainty := 0, firstMember := 4, admission := 0, supplyLow := 0, supplyHigh := 1,
    supplyDebounce := 1, inhibitMode := .latched, snapPostscaler := 1, snapSkip := 0,
    gens := ⟨g, g, g, g⟩ }

/-- The accepted configuration record (R181, R185). -/
def State.cfg (s : State) : Settings := s.port.record.getD Settings.blank

/-- Whether BEGIN has been taken since the last reset (R83, R185). -/
def State.begun (s : State) : Bool := s.mem.state != .unconfigured

/-- Whether the part's clock runs: OSCIN runs and no reset is held (R1). -/
def State.running (s : State) : Bool := s.pins.oscRunning && !s.pins.resetHeld

/-- The mark unit's mode follows from the membership state (R39). -/
def MembershipState.mode : MembershipState → MarkMode
  | .unconfigured | .withdrawn | .conflict => .idle
  | .listen | .apart => .opened
  | .aligning | .joining | .member => .windowed

/-- JOINING and MEMBER: the states that mark and talk (R40, R68). -/
def MembershipState.active : MembershipState → Bool
  | .joining | .member => true
  | .unconfigured | .listen | .apart | .aligning | .withdrawn | .conflict => false

/-- LISTEN and APART: the states that listen (R84 to R87). -/
def MembershipState.listening : MembershipState → Bool
  | .listen | .apart => true
  | .unconfigured | .aligning | .joining | .member | .withdrawn | .conflict => false

/-- One of four like things. -/
def Quad.get {α : Type} (q : Quad α) (i : Fin 4) : α :=
  match i with
  | 0 => q.g0
  | 1 => q.g1
  | 2 => q.g2
  | 3 => q.g3

/-- Replaces one of four like things. -/
def Quad.set {α : Type} (q : Quad α) (i : Fin 4) (x : α) : Quad α :=
  match i with
  | 0 => { q with g0 := x }
  | 1 => { q with g1 := x }
  | 2 => { q with g2 := x }
  | 3 => { q with g3 := x }

/-- Replaces each of four like things, by a function of it and its partner. -/
def Quad.zipMap {α β : Type} (f : α → β → β) (p : Quad α) (q : Quad β) : Quad β :=
  ⟨f p.g0 q.g0, f p.g1 q.g1, f p.g2 q.g2, f p.g3 q.g3⟩

/-- Replaces each of four like things, by a function of it and its two partners. -/
def Quad.zip3Map {α β γ : Type} (f : α → β → γ → γ) (p : Quad α) (q : Quad β) (r : Quad γ) : Quad γ :=
  ⟨f p.g0 q.g0 r.g0, f p.g1 q.g1 r.g1, f p.g2 q.g2 r.g2, f p.g3 q.g3 r.g3⟩

/-! ## The capture set (R54) -/

/-- What a reader gets for slot k: NONE with no set open, and for the node's own slot at all times (R54). -/
def State.readSlot (k : NodeId) (s : State) : SlotReading :=
  match s.mark.capture with
  | some c => if k = s.mem.nodeId then .none else c.slots.get k
  | none => .none

/-- Whether a slot reading is ONE (R54). -/
def SlotReading.isOne : SlotReading → Bool
  | .one _ => true
  | .none | .contested => false

/-! ## The site phase (R1, R2, R12, R13) -/

/-- Site phase gained for a nominal oscillator time, numerator of the rate: one second of site phase per
L of oscillator time, or, in a replay, per 1,000,000,000 − F × 0.001 ns (R1, R13). -/
def Timescale.rateNum (t : Timescale) : Nat := if t.replay then 1000000000000 else epochTicks

/-- Denominator of the rate. -/
def Timescale.rateDen (t : Timescale) : Nat := if t.replay then (1000000000000 - t.f).toNat else t.len

/-- The site phase after nominal oscillator time `tau`, truncated to 1/16 ns (R1). -/
def Timescale.phaseAfter (t : Timescale) (tau : Nat) : Nat := t.base + tau * t.rateNum / t.rateDen

/-- The site phase (R1). -/
def Timescale.sitePhase (t : Timescale) : Nat := t.phaseAfter t.tau

/-- The least nominal oscillator time at which the site phase has reached `phase`. -/
def Timescale.tauFor (t : Timescale) (phase : Nat) : Nat := ceilDiv ((phase - t.base) * t.rateDen) t.rateNum

/-- The nominal oscillator time at which the epoch or replay ends (R2, R12, R13). -/
def Timescale.tauEnd (t : Timescale) : Nat := t.tauFor epochTicks

/-- The phase the epoch's corrections have added since it opened, at the present site phase (R22). -/
def Timescale.gain (t : Timescale) (phase : Nat) : Int :=
  if t.replay then Int.tdiv (t.f * ((phase : Int) - t.base)) 1000000000000
  else Int.tdiv ((16000000000 - (t.len : Int)) * ((phase : Int) - t.base)) 16000000000

/-- The correction tally W at this instant (R22). -/
def State.tallyNow (s : State) : Int := fold (s.ref.tally + s.ts.gain s.ts.sitePhase)

/-- The stamp of this instant (R8). -/
def State.stampNow (s : State) : Stamp := ⟨s.ts.epoch, s.ts.sitePhase⟩

/-! ## Elapsed site time (R9): every timer runs on by the site phase gained -/

/-- A timer that counts down to 0. -/
def ageDown (d : Nat) (t : Option Nat) : Option Nat := t.map (· - d)

/-- A timer that counts up to a limit. -/
def ageUp (limit d : Nat) (t : Option Nat) : Option Nat := t.map (satAdd limit · d)

/-- R20, R21. -/
def RefUnit.age (d : Nat) (r : RefUnit) : RefUnit :=
  { r with candidate := r.candidate.map (fun c => { c with age := c.age + d })
           blanking := ageDown d r.blanking }

/-- R40 to R42, R48, R51, R53. -/
def MarkUnit.age (d : Nat) (m : MarkUnit) : MarkUnit :=
  { m with drive := ageDown d m.drive
           heldWatch := ageDown d m.heldWatch
           candidate := m.candidate.map (fun c => { c with age := c.age + d })
           highTime := ageUp (ns 1000000000) d m.highTime
           lowTimer := ageUp (ns 1000000) d m.lowTimer
           recovery := ageUp (ns 1000000) d m.recovery }

/-- The idle timer runs while WORD is high and through the first 2,000 ns of a low; a low that lasts
2,000 ns stops it (R59). -/
def idleAge (d : Nat) (low idle : Option Nat) : Option Nat :=
  match low with
  | none => ageUp (ns 48000) d idle
  | some l => if l + d < ns 2000 then ageUp (ns 48000) d idle else none

/-- R58, R59, R61, R77, R78. -/
def FrameUnit.age (d : Nat) (f : FrameUnit) : FrameUnit :=
  { f with txAge := ageUp (ns 4000) d f.txAge
           toSample := f.toSample - d
           idleTimer := idleAge d f.lowTimer f.idleTimer
           lowTimer := ageUp (ns 1000000) d f.lowTimer
           recovery := ageUp (ns 1000000) d f.recovery }

/-- The condition under which the supply timer runs (R96). -/
def supplyRuns (cfg : Settings) (isLow : Bool) (supply : Nat) : Bool :=
  if isLow then decide (cfg.supplyHigh < supply) else decide (supply < cfg.supplyLow)

/-- The supply debounce time in 1/16 ns (R96). -/
def Settings.debounceTicks (cfg : Settings) : Nat := ns (1000000 * cfg.supplyDebounce)

/-- R96: the monitor runs from BEGIN. -/
def State.ageSupply (s : State) (d : Nat) : Nat :=
  if s.begun && supplyRuns s.cfg s.mem.supplyIsLow s.pins.supply then
    satAdd s.cfg.debounceTicks s.mem.supplyTimer d
  else s.mem.supplyTimer

/-- R167. -/
def Generator.age (d : Nat) (g : Generator) : Generator :=
  { g with pulse := g.pulse.map (fun p => { p with remaining := p.remaining - d }) }

/-- R167, R171. -/
def GenUnit.age (d : Nat) (u : GenUnit) : GenUnit :=
  { u with gens := ⟨u.gens.g0.age d, u.gens.g1.age d, u.gens.g2.age d, u.gens.g3.age d⟩
           filterTimer := ageUp (ns 1000) d u.filterTimer }

/-- Elapsed site time `d` passes (R9). -/
def State.age (d : Nat) (s : State) : State :=
  { s with ref := s.ref.age d
           mark := s.mark.age d
           frame := s.frame.age d
           mem.supplyTimer := s.ageSupply d
           gen := s.gen.age d }

/-- The oscillator's nominal time in the epoch becomes `tau`, and every timer runs on with it. -/
def State.setTau (tau : Nat) (s : State) : State :=
  { s.age (s.ts.phaseAfter tau - s.ts.sitePhase) with ts.tau := tau }

/-- Nominal oscillator time `dt` passes (R1). The end of the epoch is an event of its own, so time
stands just before it until that event is given (log entry 9). -/
def State.advance (dt : Nat) (s : State) : State :=
  if s.running then s.setTau (max s.ts.tau (min (s.ts.tau + dt) (s.ts.tauEnd - 1))) else s

/-- Time runs to the instant at which the site phase reaches `phase`. -/
def State.runTo (phase : Nat) (s : State) : State := s.setTau (max s.ts.tau (s.ts.tauFor phase))

/-- Whether an event due after `r` more of elapsed site time comes before the end of the epoch. One that falls exactly
at the end comes after the boundary proper, at the same instant (the model's choice, log entry 36). -/
def State.dueWithin (r : Nat) (s : State) : Bool :=
  s.running && decide (s.ts.sitePhase + r < epochTicks)

/-- The expiry of a timer with `r` remaining: time runs to it, and `f` happens. A timer that does not
run, or that runs past the end of the epoch, does not expire now, and nothing happens (log entry 1). -/
def State.atExpiry (remaining : Option Nat) (f : State → State) (s : State) : State :=
  match remaining with
  | some r => if s.dueWithin r then f (s.runTo (s.ts.sitePhase + r)) else s
  | none => s

/-- Time remaining to the limit of a timer that counts up. -/
def toLimit (limit : Nat) (t : Option Nat) : Option Nat := t.map (limit - ·)

/-! ## Phase points (R6) -/

/-- The site phase of a fixed point, in 1/16 ns (R6). -/
def PhasePoint.phase : PhasePoint → Nat
  | .slot k => ns (62500 * k.val)
  | .endOfMark => ns 1000000
  | .temperature => ns 1500000
  | .talkOpen => ns 2000000
  | .talkClose => ns 800000000
  | .solve => ns 900000000

/-- Every fixed point. -/
def allPoints : List PhasePoint :=
  allIds.map .slot ++ [.endOfMark, .temperature, .talkOpen, .talkClose, .solve]

/-- Whether a point is still to be raised: the clock runs, no replay is in progress, the point has been
neither raised nor passed in this epoch, and the site phase has not run beyond it (R6, R12, R13). -/
def State.pointDue (p : PhasePoint) (s : State) : Bool :=
  s.running && !s.ts.replay && !s.ts.raised.contains p && decide (s.ts.tau ≤ s.ts.tauFor p.phase)

/-- Time runs to a fixed point, which counts as raised (R6). -/
def State.raise (p : PhasePoint) (s : State) : State :=
  { s.runTo p.phase with ts.raised := p :: s.ts.raised }

/-- The raising of a fixed point, where it is due, and the work `f` of the blocks at it (R6). -/
def State.atPoint (p : PhasePoint) (f : State → State) (s : State) : State :=
  if s.pointDue p then f (s.raise p) else s

/-! ## Free choices (log entry 4) -/

/-- A free number, with the state in which it has been used. -/
def State.freeNat (s : State) : Nat × State :=
  (Config.freeChoice s.freeCount, { s with freeCount := s.freeCount + 1 })

/-- One of a list of alternatives: the only one, or a free choice among several. -/
def State.choose {α : Type} (first : α) (rest : List α) (s : State) : α × State :=
  match rest with
  | [] => (first, s)
  | _ :: _ =>
    let (n, s) := s.freeNat
    ((first :: rest).getD (n % (rest.length + 1)) first, s)

/-! ## Events (R189, R190) -/

/-- A block posts an event (R189): it carries the epoch number of this instant (R17). With `after`, it is
stored after the events that block has posted before it at this instant. -/
def State.postAfter (after : Option Lane) (lane : Lane) (kind : EventKind) (subject : Option NodeId)
    (value : Option (BitVec 32)) (s : State) : State :=
  { s with port.outbox := s.port.outbox ++ [⟨lane, s.ts.epoch, kind, subject, value, after⟩] }

/-- An event bound by its own block's order alone (R189). -/
def State.post (lane : Lane) (kind : EventKind) (subject : Option NodeId) (value : Option (BitVec 32))
    (s : State) : State :=
  s.postAfter none lane kind subject value

/-- An event with a signed value in its own units (R196). -/
def State.postInt (lane : Lane) (kind : EventKind) (subject : Option NodeId) (value : Int) (s : State) :
    State :=
  s.post lane kind subject (some (signed32 value))

/-- The two newest postings change places or do not: the choice is free, where no rule orders the two events
of one occurrence (R139, log entry 4). -/
def State.eitherOrder (s : State) : State :=
  match s.port.outbox.reverse with
  | q :: p :: older =>
    let (swap, s) := s.choose false [true]
    if swap then { s with port.outbox := (p :: q :: older).reverse } else s
  | _ => s

/-- An event is offered to the queue: stored as the newest record, or lost to a full queue (R189, R190). -/
def State.offer (p : Posting) (s : State) : State :=
  if s.port.queue.length < 32 then
    { s with port.queue := s.port.queue ++ [⟨s.port.nextSeq, p.epoch, p.kind, p.subject, p.value⟩]
             port.nextSeq := s.port.nextSeq + 1 }
  else { s with port.lost := satAdd 255 s.port.lost 1 }

/-- Whether an older posting of the block that this one must follow still waits. -/
def Posting.waits (older : List Lane) (p : Posting) : Bool :=
  match p.after with
  | some lane => older.contains lane
  | none => false

/-- The lanes whose oldest posting may be stored next, each once; `older` holds the lanes of the postings
passed so far. -/
def lanesOf : List Posting → (older : List Lane) → List Lane
  | [], _ => []
  | p :: ps, older =>
    if older.contains p.lane || p.waits older then lanesOf ps (p.lane :: older)
    else p.lane :: lanesOf ps (p.lane :: older)

/-- The postings less the first of a lane. -/
def dropFirst (lane : Lane) : List Posting → List Posting
  | [] => []
  | p :: ps => if p.lane = lane then ps else p :: dropFirst lane ps

/-- The posting offered next: the first of some lane. With several lanes waiting, which one is free,
because events that different blocks post at one instant may be stored in either order (R189). -/
def State.nextPosting (p : Posting) (ps : List Posting) (s : State) : Posting × List Posting × State :=
  match lanesOf (p :: ps) [] with
  | [] => (p, ps, s)
  | l :: ls =>
    let (lane, s) := s.choose l ls
    (((p :: ps).find? (fun q => q.lane = lane)).getD p, dropFirst lane (p :: ps), s)

/-- Offers the postings of a step to the queue; `fuel` is their number. -/
def settleLoop : (fuel : Nat) → State → State
  | 0, s => s
  | fuel + 1, s =>
    match s.port.outbox with
    | [] => s
    | p :: ps =>
      let (q, rest, s) := s.nextPosting p ps
      settleLoop fuel ({ s with port.outbox := rest }.offer q)

/-- The end of a step: every event posted within it is offered to the queue (R189). -/
def State.settle (s : State) : State := settleLoop s.port.outbox.length s

/-! ## Transactions of the local port (R177, R178) -/

/-- The rise of CSN: time runs on, and a transaction in progress ends and takes its command, SDO having stood
released; READ RESPONSE alone drives it, and says so in `f`. With no transaction in progress there is no rise to
take a command at (R177, R194). -/
def State.atRise (dt : Nat) (f : State → State) (s : State) : State :=
  let s := s.advance dt
  match s.port.transaction with
  | none => s
  | some _ => f { s with port.transaction := none, port.sdo := none }

/-- A command taken: its response is being assembled, whatever the slot held (R178). -/
def State.respond (command : Byte) (code : ResultCode) (field : Nat) (payload : List Byte) (s : State) :
    State :=
  { s with port.slot := .pending ⟨command, code, field, payload⟩ }

end Sys2Proof.Machine
end

