-- ==== Sys2Proof/Machine/Mark.lean ====
section
/-! DEFINITION. The mark unit (03_the_mark_train.md): the node's own mark, capture windows, contested and stray edges, pending evidence, changes of mode and the capture set at a boundary. Its commands are in MarkLine.lean. -/

namespace Sys2Proof.Machine

open Sys2Proof

/-- Values of the CONFLICT event (R93). -/
def Cause.code : Cause → Int
  | .lowAtAssert => 0
  | .heldLow => 1
  | .otherEdge => 2
  | .frameOwnId => 3
  | .payloadCollision => 4

/-! ## The line and the node's own mark (R40, R41, R48) -/

/-- MARK falls (R41, R42, R51): the fall becomes the edge candidate, and the low timer starts. A fall before BEGIN
becomes no candidate, so that it is accepted in no mode (the model's choice, log entry 33). -/
def State.markFalls (s : State) : State :=
  let s := { s with pins.mark := .low }
  if s.begun then
    { s with mark := { s.mark with candidate := some ⟨s.stampNow, 0, s.mark.highTime.getD 0, false⟩
                                   lowTimer := some 0, recovery := none } }
  else s

/-- Evidence of a cause becomes pending on the low period in progress; a second piece of one cause adds
nothing (R49). -/
def Evidence.add (cause : Cause) (e : Evidence) : Evidence :=
  if e.pending.contains cause then e else { e with pending := e.pending ++ [cause] }

/-- Evidence is found: with a capture set open and the line-fault flag clear (R49, R52). -/
def MarkUnit.find (cause : Cause) (m : MarkUnit) : MarkUnit :=
  if m.capture.isSome && !m.fault then { m with evidence := m.evidence.add cause } else m

/-- The own echo record at an assertion (R48), not filled during a line fault (R52). -/
def MarkUnit.fillEcho (line : Level) (stamp : Stamp) (m : MarkUnit) : MarkUnit :=
  if m.capture.isSome && !m.fault then
    match line with
    | .high => { m with echo := ⟨true, false, some stamp, false⟩ }
    | .low => { m with echo := ⟨true, true, none, false⟩ }
  else m

/-- The node asserts its mark (R40, R48): 8,000 ns low; a line that was high falls, and one that was low
already is evidence LOW_AT_ASSERT (R49). -/
def State.assertMark (s : State) : State :=
  let s := { s with mark := { s.mark.fillEcho s.pins.mark s.stampNow with drive := some (ns 8000) } }
  match s.pins.mark with
  | .high => s.markFalls
  | .low => { s with mark := s.mark.find .lowAtAssert }

/-- The node releases MARK and watches it for 2,000 ns (R40, R48). -/
def MarkUnit.release (m : MarkUnit) : MarkUnit :=
  { m with drive := none, heldWatch := some (ns 2000) }

/-- The test at the end of the watch (R48, R49): MARK still low sets the held-low result, which is evidence
HELD_LOW. -/
def MarkUnit.heldLowTest (line : Level) (m : MarkUnit) : MarkUnit :=
  let m := { m with heldWatch := none }
  if line = .low ∧ m.echo.asserted ∧ m.fault = false then
    { m with echo := { m.echo with heldLow := true } }.find .heldLow
  else m

/-! ## Attribution (R44 to R47) -/

/-- The start of the early range of slot 0 (R44). -/
def earlyStart : Nat := ns 999975000

/-- The slot in whose window a site phase lies, outside the early range (R44). -/
def slotAt (phase : Nat) : Option NodeId :=
  let k := (phase + ns 25000) / ns 62500
  if h : k < 16 then
    if (phase + ns 25000) % ns 62500 < ns 50000 then some ⟨k, h⟩ else none
  else none

/-- The capture of a slot: the phase less the slot time (R44). -/
def captureOf (phase : Nat) (k : NodeId) : Int := (phase : Int) - ns (62500 * k.val)

/-- A reading after one more edge: NONE, ONE, CONTESTED (R44, R46). -/
def SlotReading.take (m : Int) : SlotReading → SlotReading
  | .none => .one m
  | .one _ | .contested => .contested

/-- Whether one more edge makes a reading contested, which raises the contested count (R46). -/
def MarkUnit.countContest (before : SlotReading) (m : MarkUnit) : MarkUnit :=
  if before.isOne then { m with contestedCount := satInc16 m.contestedCount } else m

/-- An edge in the early range of slot 0, before the boundary that opens its epoch (R44): into the early
holding, or, for a node of ID 0, kept as an own-window edge of the next set (R49, log entry 12). -/
def MarkUnit.takeEarly (own : NodeId) (phase : Nat) (m : MarkUnit) : MarkUnit :=
  if own = 0 then { m with earlyOwn := if m.earlyOwn = .ended then .ended else .lasting }
  else { m.countContest m.early with early := m.early.take ((phase : Int) - 16000000000) }

/-- An edge in the window of slot k of the open set (R44, R46, R49). -/
def MarkUnit.takeSlot (own k : NodeId) (capture : Int) (m : MarkUnit) : MarkUnit :=
  if k = own then m.find .otherEdge
  else match m.capture with
    | none => m
    | some c =>
      { m.countContest (c.slots.get k) with
        capture := some { c with slots := c.slots.set k.val ((c.slots.get k).take capture) k.isLt } }

/-- A stray edge (R47). -/
def State.strayEdge (phase : Nat) (s : State) : State :=
  let s := { s with mark.strayCount := satInc16 s.mark.strayCount }
  if s.mark.strayEpoch = some s.ts.epoch then s
  else { s with mark.strayEpoch := some s.ts.epoch }.postInt .mark .strayMark none (toNs phase)

/-- An accepted edge in WINDOWED mode, other than the own echo (R44). An edge accepted after the boundary
proper that followed its fall is judged by its stamp. With no set open, only the early range is taken (R39). An edge of
the early range that fell while OPEN, crossed the boundary proper, and is accepted in WINDOWED, entered since, with no set
open is passed over: R39 names the early holding for it, and R44 the slot 0 of a set that has not opened (the model's
choice, log entry 37). -/
def State.attribute (c : MarkCandidate) (s : State) : State :=
  let phase := c.stamp.phase
  let own := s.mem.nodeId
  if earlyStart ≤ phase then
    if c.crossed then
      if s.mark.capture.isSome then
        { s with mark := s.mark.takeSlot own 0 ((phase : Int) - 16000000000) }
      else s
    else { s with mark := s.mark.takeEarly own phase }
  else if s.mark.capture.isNone then s
  else if c.crossed then s.strayEdge phase
  else match slotAt phase with
    | some k => { s with mark := s.mark.takeSlot own k (captureOf phase k) }
    | none => s.strayEdge phase

/-- Whether an accepted edge is the own echo (R49). -/
def MarkUnit.isEcho (c : MarkCandidate) (m : MarkUnit) : Bool := decide (m.echo.stamp = some c.stamp)

/-! ## Changes of membership state (R39, R40) -/

/-- What is discarded on a change out of WINDOWED (R39). -/
def MarkUnit.leaveWindowed (m : MarkUnit) : MarkUnit :=
  { m with capture := none, early := .none, earlyOwn := .none, echo := ⟨false, false, none, false⟩
           evidence := ⟨false, []⟩ }

/-- The mark unit learns of a change of membership state (R39, R40): a mark in progress is released when
the state leaves JOINING and MEMBER. -/
def MarkUnit.stateChange (old new : MembershipState) (m : MarkUnit) : MarkUnit :=
  let m := if old.active && !new.active && m.drive.isSome then m.release else m
  if old.mode = .windowed ∧ new.mode ≠ .windowed then m.leaveWindowed else m

/-- The mark unit at BEGIN (R39, R42, R56). -/
def MarkUnit.begin (line : Level) (m : MarkUnit) : MarkUnit :=
  match line with
  | .high => { m with highTime := some 0 }
  | .low => { m with lowTimer := some 0 }

/-! ## The boundary (R43, R45) -/

/-- A set with every slot NONE. -/
def emptySlots : Vector SlotReading 16 := Vector.replicate 16 .none

/-- The mark unit's work at a boundary proper (R43, R45): in WINDOWED mode a new set for the new epoch
number, the early holding moved into its slot 0 unless a forward step was applied; the echo and evidence
records afresh; an own-window edge of ID 0 whose low period still lasts becomes pending (R49), whatever step the
boundary applied (log entry 12). -/
def MarkUnit.boundary (mode : MarkMode) (epoch : Epoch) (forward : Bool) (m : MarkUnit) : MarkUnit :=
  let m := { m with candidate := m.candidate.map (fun c => { c with crossed := true }) }
  match mode with
  | .idle | .opened => m
  | .windowed =>
    let early : SlotReading := if forward then .none else m.early
    let pending : List Cause := if m.earlyOwn = .lasting ∧ m.fault = false then [.otherEdge] else []
    { m with capture := some ⟨epoch, emptySlots.set 0 early⟩
             early := .none
             earlyOwn := if m.earlyOwn = .ended ∧ m.fault = false then .ended else .none
             echo := ⟨false, false, none, false⟩
             evidence := ⟨false, pending⟩ }

/-! ## A stuck line (R51) -/

/-- The mark unit's own work at the declaration of a stuck line (R51). An own-window edge of ID 0 that waits for its
set to open is dropped with the early holding and the pending evidence, though its own low period has ended and the line
may recover before the set opens: R51 does not name it (the model's choice, log entry 12). -/
def MarkUnit.stuck (m : MarkUnit) : MarkUnit :=
  { m with fault := true
           capture := m.capture.map (fun c => { c with slots := emptySlots })
           early := .none
           earlyOwn := .none
           evidence := { m.evidence with pending := [] }
           highTime := none }

end Sys2Proof.Machine
end

