-- ==== Sys2Proof/Machine/Frame.lean ====
section
/-! DEFINITION. The frame unit (04_word_frames_and_arbitration.md, 11.1): the frame codec, the transmit slot, starting a frame, the receiver's bits, and the error counts. Its commands are in WordLine.lean. -/

namespace Sys2Proof.Machine

open Sys2Proof

/-! ## Codes of frame fields (R195) -/

/-- Codes of the timing states, as CENSUS carries them (07, table of 7.1). -/
def TimingState.code : TimingState → Nat
  | .free => 0
  | .acquiring => 1
  | .anchored => 2
  | .borrowing => 3
  | .coasting => 4
  | .alone => 5

/-- The timing state a code names; 6 and 7 name none. -/
def TimingState.ofCode : Nat → Option TimingState
  | 0 => some .free
  | 1 => some .acquiring
  | 2 => some .anchored
  | 3 => some .borrowing
  | 4 => some .coasting
  | 5 => some .alone
  | _ + 6 => none

/-- Codes of the reasons of a LEAVE; also the values of PEER_REMOVED (R110). -/
def LeaveReason.code : LeaveReason → Nat
  | .command => 1
  | .supply => 2
  | .conflict => 3

/-- The reason a code names; 0 names none. -/
def LeaveReason.ofCode : Nat → Option LeaveReason
  | 1 => some .command
  | 2 => some .supply
  | 3 => some .conflict
  | _ => none

/-- Codes of the frame kinds; 3 is a FORMAT error. -/
def FrameKind.code : FrameKind → Nat
  | .leave => 0
  | .census => 1
  | .join => 2

def Frame.kind : Frame → FrameKind
  | .leave _ _ _ => .leave
  | .census _ _ _ _ _ => .census
  | .join _ _ _ _ => .join

def Frame.sender : Frame → NodeId
  | .leave k _ _ | .census k _ _ _ _ | .join k _ _ _ => k

/-- The epoch number the frame carries. -/
def Frame.epoch : Frame → Epoch
  | .leave _ e _ | .census _ e _ _ _ | .join _ e _ _ => e

/-! ## Sending: bits, CRC and stuffing (R58, R60, R62, R195) -/

/-- An observation: peer ID, 4 bits; offset, signed 20 bits (R195). -/
def Observation.bits (o : Observation) : List Bool :=
  bitsBE 4 o.peer.val ++ bitsBE 20 (BitVec.ofInt 20 o.offset).toNat

/-- The payload of a frame (R195). -/
def Frame.payloadBits : Frame → List Bool
  | .leave _ _ r => bitsBE 2 r.code
  | .census _ _ c d obs =>
    bitsBE 3 d.timing.code ++ bitsBE 2 c.val ++ [d.overBudget] ++ bitsBE 16 d.bound ++
      bitsBE 16 d.mask.toNat ++ bitsBE 4 obs.length ++ obs.flatMap Observation.bits
  | .join _ _ c obs => bitsBE 2 c.val ++ bitsBE 4 obs.length ++ obs.flatMap Observation.bits

/-- The bits the CRC covers: from the kind through the payload (R62). -/
def Frame.body (f : Frame) : List Bool :=
  bitsBE 2 f.kind.code ++ bitsBE 4 f.sender.val ++ bitsBE 32 f.epoch.toNat ++ f.payloadBits

/-- One bit of the CRC (R62, 11.1). -/
def crcStep (r : BitVec 16) (b : Bool) : BitVec 16 :=
  if r.msb != b then (r <<< 1) ^^^ 0x1021#16 else r <<< 1

/-- The CRC of a string of bits: polynomial x^16 + x^12 + x^5 + 1, starting at all ones, not inverted (R62). -/
def crcOf (bits : List Bool) : BitVec 16 := bits.foldl crcStep 0xFFFF#16

/-- A frame before stuffing: the dominant start bit, the body, the CRC (R58). -/
def Frame.bits (f : Frame) : List Bool := false :: f.body ++ bitsBE 16 (crcOf f.body).toNat

/-- Stuffing (R60): a dominant bit after every run of eight recessive bits, provided more bits follow.
`run` is the run so far. -/
def stuff : (run : Nat) → List Bool → List Bool
  | _, [] => []
  | _, false :: bs => false :: stuff 0 bs
  | run, true :: bs =>
    if 7 ≤ run ∧ bs ≠ [] then true :: false :: stuff 0 bs else true :: stuff (run + 1) bs

/-- The bits of a frame on the line (R60). -/
def Frame.lineBits (f : Frame) : List Bool := stuff 0 f.bits

/-! ## Receiving: fields, checks and the frame (R61 to R63) -/

/-- The number in a field of `width` bits that starts at bit `at_`; the start bit is bit 0. -/
def fieldOf (bits : List Bool) (at_ width : Nat) : Nat := natOfBits ((bits.drop at_).take width)

/-- What the bits taken so far come to (R63). -/
inductive Progress where
  | going
  | fault (kind : ErrorKind)
  | complete
  deriving DecidableEq, Repr

/-- A frame of expected length `len` (R63). -/
def lengthCheck (bits : List Bool) (len : Nat) : Progress :=
  if bits.length < len then .going else .complete

/-- The checks of R63 on the bits taken so far, start bit first; each field is judged once it is whole. -/
def progressOf (bits : List Bool) : Progress :=
  if bits.length < 3 then .going
  else match fieldOf bits 1 2 with
    | 0 =>
      if bits.length < 41 then .going
      else if (LeaveReason.ofCode (fieldOf bits 39 2)).isNone then .fault .format
      else lengthCheck bits 57
    | 1 =>
      if bits.length < 42 then .going
      else if (TimingState.ofCode (fieldOf bits 39 3)).isNone then .fault .format
      else if bits.length < 81 then .going
      else if 8 < fieldOf bits 77 4 then .fault .format
      else lengthCheck bits (97 + 24 * fieldOf bits 77 4)
    | 2 =>
      if bits.length < 45 then .going else lengthCheck bits (61 + 24 * fieldOf bits 41 4)
    | _ => .fault .format

/-- `n` observations from bit `at_` on (R195). -/
def observationsOf (bits : List Bool) (at_ : Nat) : (n : Nat) → List Observation
  | 0 => []
  | n + 1 =>
    ⟨Fin.ofNat 16 (fieldOf bits at_ 4), (BitVec.ofNat 20 (fieldOf bits (at_ + 4) 20)).toInt⟩ ::
      observationsOf bits (at_ + 24) n

/-- The frame that complete bits hold (R195). The checks of R63 have passed, so every code names its thing. -/
def frameOf (bits : List Bool) : Frame :=
  let sender : NodeId := Fin.ofNat 16 (fieldOf bits 3 4)
  let epoch : Epoch := BitVec.ofNat 32 (fieldOf bits 7 32)
  match fieldOf bits 1 2 with
  | 0 => .leave sender epoch ((LeaveReason.ofCode (fieldOf bits 39 2)).getD .command)
  | 1 =>
    .census sender epoch (Fin.ofNat 4 (fieldOf bits 42 2))
      { timing := (TimingState.ofCode (fieldOf bits 39 3)).getD .free
        overBudget := fieldOf bits 44 1 == 1
        bound := fieldOf bits 45 16
        mask := BitVec.ofNat 16 (fieldOf bits 61 16) }
      (observationsOf bits 81 (fieldOf bits 77 4))
  | _ =>
    .join sender epoch (Fin.ofNat 4 (fieldOf bits 39 2)) (observationsOf bits 45 (fieldOf bits 41 4))

/-- Whether complete bits pass the CRC check (R62). -/
def crcPasses (bits : List Bool) : Bool :=
  let covered := (bits.drop 1).take (bits.length - 17)
  (crcOf covered).toNat == fieldOf bits (bits.length - 16) 16

/-- The sender ID as received, where the ID field has been taken complete (R64). -/
def senderTaken (bits : List Bool) : Option NodeId :=
  if bits.length < 7 then none else some (Fin.ofNat 16 (fieldOf bits 3 4))

/-- A bit level on the line as the receiver takes it; true is recessive, high (R58). -/
def recessive : Level → Bool
  | .high => true
  | .low => false

/-- The receiver stops taking bits: a fault has been found (R63). -/
def FrameUnit.fail (kind : ErrorKind) (f : FrameUnit) : FrameUnit :=
  { f with receipt := some (.faulty kind (senderTaken f.rxBits)), rx := .waitingIdle, rxBits := [], rxRun := 0
           rxOwn := false }

/-- What a frame that has arrived complete comes to: a sound one that has arrived as the node's own is not judged
(R76). -/
def FrameUnit.arrivedAs (f : FrameUnit) : Option Receipt :=
  let good := crcPasses f.rxBits
  if f.rxOwn && good then none else some (.arrived (frameOf f.rxBits) good)

/-- A bit that is no stuff bit joins those taken, and the checks follow (R61 to R63). -/
def FrameUnit.takeBit (b : Bool) (f : FrameUnit) : FrameUnit :=
  let f := { f with rxBits := f.rxBits ++ [b], rxRun := if b then f.rxRun + 1 else 0, toSample := ns 4000 }
  match progressOf f.rxBits with
  | .going => f
  | .fault kind => f.fail kind
  | .complete =>
    { f with receipt := f.arrivedAs, rx := .waitingIdle, rxBits := [], rxRun := 0, rxOwn := false }

/-- The receiver's sample point (R60, R61): the start bit is found or was a spike; a stuff bit is removed,
or found missing; any other bit is taken. -/
def FrameUnit.receiverSample (level : Level) (f : FrameUnit) : FrameUnit :=
  match f.rx with
  | .waitingIdle | .ready => f
  | .starting =>
    match level with
    | .high => { f with rx := .ready }
    | .low => { f with rx := .receiving, rxBits := [false], rxRun := 0, rxOwn := false, toSample := ns 4000 }
  | .receiving =>
    if 8 ≤ f.rxRun then
      match level with
      | .high => f.fail .truncated
      | .low => { f with rxRun := 0, toSample := ns 4000 }
    else f.takeBit (recessive level)

/-! ## The transmitter -/

/-- The level the transmitter drives in the bit being sent: true is recessive. -/
def FrameUnit.txBit (f : FrameUnit) : Bool := f.txBits.getD f.txPos true

/-- A mismatch has been read in the bit being sent: recessive driven, dominant read (R73, R74). -/
def FrameUnit.mismatch (f : FrameUnit) : Bool := f.txBit && decide (f.txRead = some .low)

/-- The bit being sent is the last of the frame. -/
def FrameUnit.atLastBit (f : FrameUnit) : Bool := decide (f.txPos + 1 = f.txBits.length)

/-- The sender's sample point (R58, R73): the level is read, and after the last ID bit, the line reading
as driven, the transmitter is SENDING. -/
def FrameUnit.senderSample (level : Level) (f : FrameUnit) : FrameUnit :=
  let f := { f with txRead := some level }
  if f.tx = .arbitrating ∧ f.txPos = 6 ∧ f.mismatch = false then { f with tx := .sending } else f

/-- The transmitter lets the line go and holds no bit. -/
def FrameUnit.release (f : FrameUnit) : FrameUnit :=
  { f with tx := .quiet, txBits := [], txPos := 0, txAge := none, txRead := none, txDriving := false
           inFlight := none }

/-- Whether the line is idle, with the line-fault flag clear (R59, R61): the receiver, READY since idle was
found, has seen no more than a fall whose 2,000 ns still run. -/
def FrameUnit.idle (f : FrameUnit) : Bool :=
  decide (f.idleTimer = some (ns 48000)) && !f.fault &&
    (decide (f.rx = .ready) || decide (f.rx = .starting))

/-- Whether the receiver is READY: the line is idle, the line-fault flag is clear, and no fall has been taken
as the start of a start bit (R61). Idle reached at this very instant counts, before its own row is given. -/
def FrameUnit.readyNow (f : FrameUnit) : Bool :=
  decide (f.idleTimer = some (ns 48000)) && !f.fault &&
    (decide (f.rx = .ready) || decide (f.rx = .waitingIdle))

/-- The receiver takes a fall as the start of a start bit (R61). -/
def FrameUnit.startBit (f : FrameUnit) : FrameUnit :=
  { f with rx := .starting, rxBits := [], rxRun := 0, rxOwn := false, toSample := ns 2000 }

/-- The receiver takes a fall as a bit start: of a start bit where it is READY, of the bit in progress within
a frame (R61). A receiver that was READY on a line no longer idle waits for idle (R59). -/
def FrameUnit.takeFall (f : FrameUnit) : FrameUnit :=
  if f.readyNow then f.startBit
  else match f.rx with
    | .starting | .receiving => { f with toSample := ns 2000 }
    | .ready | .waitingIdle => { f with rx := .waitingIdle }

/-- WORD falls (R59, R61, R77): the low timer starts, and the receiver takes the fall. -/
def State.wordFalls (s : State) : State :=
  let s := { s with pins.word := .low }
  if s.begun then { s with frame := { s.frame.takeFall with lowTimer := some 0, recovery := none } } else s

/-- The node pulls WORD low: a line that was high falls. -/
def State.pullWord (s : State) : State :=
  let s := { s with frame.txDriving := true }
  match s.pins.word with
  | .high => s.wordFalls
  | .low => s

/-- The LEAVE pending, where its range is open: outside the mark region (R72). It carries the current epoch
number (R71). -/
def State.startableLeave (s : State) : Option (InFlight × Frame) :=
  if ns 1000000 ≤ s.ts.sitePhase then
    s.frame.leave.map (fun r => (.leave, .leave s.mem.nodeId s.ts.epoch r))
  else none

/-- The pending frame whose range is open, with what is in flight when it starts (R72): the talk frame
while the talk window is open, else the LEAVE. -/
def State.startable (s : State) : Option (InFlight × Frame) :=
  match s.frame.talk with
  | some f => if s.frame.windowOpen then some (.talk, f) else s.startableLeave
  | none => s.startableLeave

/-- A frame starts (R72): ARBITRATING, the start bit driven. A READY receiver takes the node's own start
bit as the start of a reception even where the line is low already. -/
def State.startFrame (what : InFlight) (f : Frame) (s : State) : State :=
  let s := { s with frame := { s.frame with inFlight := some what, tx := .arbitrating, txBits := f.lineBits
                                            txPos := 0, txAge := some 0, txRead := none } }
  let s := s.pullWord
  match s.frame.rx with
  | .ready => { s with frame := s.frame.startBit }
  | .waitingIdle | .starting | .receiving => s

/-- A pending frame starts if everything R72 asks for holds at this instant (log entry 17). -/
def State.tryStart (s : State) : State :=
  if s.frame.tx = .quiet ∧ s.frame.txAge = none ∧ s.frame.idle then
    match s.startable with
    | some (what, f) => s.startFrame what f
    | none => s
  else s

/-! ## Errors and dropped frames (R64, R75) -/

/-- Codes of the error kinds in FRAME_ERROR (R64). -/
def ErrorKind.code : ErrorKind → Int
  | .crc => 0
  | .format => 1
  | .truncated => 2
  | .epoch => 3

/-- The error count of a kind rises by one (R64). -/
def FrameUnit.countError (kind : ErrorKind) (f : FrameUnit) : FrameUnit :=
  match kind with
  | .crc => { f with crcErrors := satInc16 f.crcErrors }
  | .format => { f with formatErrors := satInc16 f.formatErrors }
  | .truncated => { f with truncatedErrors := satInc16 f.truncatedErrors }
  | .epoch => { f with epochErrors := satInc16 f.epochErrors }

/-- A faulty reception is counted, and posted once in an epoch (R64). -/
def State.frameFault (kind : ErrorKind) (subject : Option NodeId) (s : State) : State :=
  let s := { s with frame := s.frame.countError kind }
  if s.frame.errorEpoch = some s.ts.epoch then s
  else { s with frame.errorEpoch := some s.ts.epoch }.postInt .frame .frameError subject kind.code

/-- The value of CENSUS_UNSENT: 1 for CENSUS, 2 for JOIN (R75). -/
def unsentCode (f : Frame) : Int :=
  match f.kind with
  | .census => 1
  | .join | .leave => 2

/-- A talk frame is dropped unsent (R75). -/
def State.dropUnsent (f : Frame) (s : State) : State :=
  { s with frame.unsent := satInc16 s.frame.unsent }.postInt .frame .censusUnsent none (unsentCode f)

/-! ## Changes of membership state and LEAVE requests (R68, R71, R77) -/

/-- A talk frame that is pending and not in flight is discarded, and one that waits to be returned will
not be (R68, R71, R77). -/
def FrameUnit.discardTalk (f : FrameUnit) : FrameUnit :=
  { f with talk := if f.inFlight = some .talk then f.talk else none
           returnedTalk := f.returnedTalk.map (fun r => { r with void := true }) }

/-- A LEAVE that has not started is discarded on the return to LISTEN; one in flight goes on (R71, R77). -/
def FrameUnit.discardLeave (f : FrameUnit) : FrameUnit :=
  { f with leave := if f.inFlight = some .leave then f.leave else none
           leaveVoid := decide (f.inFlight = some .leave)
           returnedLeave := f.returnedLeave.map (fun r => { r with void := true }) }

/-- The frame unit learns of a change of membership state (R68, R71). On every entry to WITHDRAWN a talk frame that is
not in flight goes: nothing but a LEAVE starts there (R95). -/
def FrameUnit.stateChange (old new : MembershipState) (f : FrameUnit) : FrameUnit :=
  let f := if (old.active && !new.active) || decide (new = .withdrawn) then f.discardTalk else f
  if old = .withdrawn ∧ new = .listen then f.discardLeave else f

/-- The talk window has opened at this very instant. -/
def State.talkOpensNow (s : State) : Bool :=
  s.frame.windowOpen && decide (s.ts.tau = s.ts.tauFor PhasePoint.talkOpen.phase)

/-- A talk frame that has started at the instant of the talk window opening, at which a LEAVE is now requested, has not
started after all: the epoch carries none, whichever of the two is taken first (R71). -/
def State.withoutTalkStart (s : State) : FrameUnit :=
  if s.talkOpensNow ∧ s.frame.inFlight = some .talk then s.frame.release else s.frame

/-- The membership unit requests a LEAVE (R71). In place of a talk frame whose start falls away with the request the
LEAVE starts, at the same instant (R72). -/
def State.requestLeave (reason : LeaveReason) (s : State) : State :=
  { s with frame := { s.withoutTalkStart.discardTalk with leave := some reason, leaveVoid := false } }.tryStart

/-- The frame unit at BEGIN (R57). -/
def FrameUnit.begin (word : Level) (f : FrameUnit) : FrameUnit :=
  match word with
  | .high => { f with rx := .waitingIdle, windowOpen := false, idleTimer := some 0 }
  | .low => { f with rx := .waitingIdle, windowOpen := false, lowTimer := some 0 }

end Sys2Proof.Machine
end

