-- ==== Sys2Proof/Machine/Timescale.lean ====
section
/-! DEFINITION. The timescale unit's requests and the opening of an epoch (01_site_timescale_and_epoch.md): hand-overs, step and adoption requests, the boundary proper and the start of a replay; and the command OSCIN_STOP. -/

namespace Sys2Proof.Machine

open Sys2Proof

/-- A hand-over of F and c, taken at once (R3): each is brought into its range and becomes pending. `c` is
in 1/16 ns. -/
def State.handOver (f c : Int) (s : State) : State :=
  { s with ts.pendF := some (clampPpt f), ts.pendC := some (clampInt (-32000) 32000 c) }

/-- A step request (R10): taken, folded, while time-valid is low; refused while it is high. -/
def State.requestStep (step : Int) (s : State) : State :=
  if s.solver.timeValid then s else { s with ts.pendStep := some (fold step) }

/-- An adoption request, taken at any time (R15). -/
def State.requestAdoption (number : Epoch) (s : State) : State :=
  { s with ts.pendAdopt := some number }

/-- A group offset moves toward its target by at most 100 ns (R164). -/
def GroupOffset.moved (g : GroupOffset) : GroupOffset :=
  { g with current := g.current + clampInt (-100) 100 (g.target - g.current) }

/-- The F term of an epoch and the carry it leaves (R2). -/
def fTerm (f carry : Int) : Int × Int :=
  let total := f * 16 + carry
  (Int.tdiv total 1000, Int.tmod total 1000)

/-- What a boundary event reports (R5). -/
structure BoundaryEvent where
  /-- The number the epoch would otherwise have taken, where an adoption was applied. -/
  adoptedOver : Option Epoch
  /-- The step applied, where one was. -/
  step : Option Int
  /-- A pending step was discarded. -/
  discarded : Bool
  /-- The moves of the two group offsets. -/
  deltaA : Int
  deltaB : Int
  deriving DecidableEq, Repr

/-- The boundary proper's work on the timescale unit, steps 1 to 5 of R5. `forward` is the forward step
applied within it (R12); `began` is the new step-began flag (R14). Points below the forward step are
passed, and so count as raised (R12). -/
def Timescale.openEpoch (t : Timescale) (forward : Option Nat) (began : Bool) : Timescale :=
  let f := t.pendF.getD t.f
  let c := t.pendC.getD 0
  let (term, carry) := fTerm f t.carry
  let start := forward.getD 0
  { t with epoch := t.pendAdopt.getD t.epoch + 1
           pendAdopt := none
           f := f
           c := c
           pendF := none
           pendC := none
           carry := carry
           len := (16000000000 - term - c).toNat
           base := start
           tau := 0
           replay := false
           stepBegan := began
           groupA := t.groupA.moved
           groupB := t.groupB.moved
           raised := allPoints.filter (fun p => decide (p.phase < start)) }

/-- The report of a boundary that took the timescale from `t` to its new epoch (R5, step 6). -/
def Timescale.eventOf (t : Timescale) (step : Option Int) (discarded : Bool) : BoundaryEvent :=
  { adoptedOver := t.pendAdopt.map (fun _ => t.epoch + 1)
    step := step
    discarded := discarded
    deltaA := t.groupA.moved.current - t.groupA.current
    deltaB := t.groupB.moved.current - t.groupB.current }

/-- Time runs to the end of the epoch or replay, and the correction tally takes the whole gain (R22). The
site phase is then 1,000,000,000 ns exactly; the caller opens an epoch or a replay. -/
def State.runToEnd (s : State) : State :=
  let tally := fold (s.ref.tally + s.ts.gain epochTicks)
  let s' := s.age (epochTicks - s.ts.sitePhase)
  { s' with ref.tally := tally }

/-- A backward step starts a replay (R13): the site phase is set back, the epoch number stays, the tally jumps by the
step (R22), and the early holding is emptied (R45). -/
def State.startReplay (step : Int) (s : State) : State :=
  { s with ts := { s.ts with base := (16000000000 + step).toNat, tau := 0, replay := true, pendStep := none }
           ref.tally := fold (s.ref.tally + step)
           mark.early := .none }

/-- OSCIN_STOP (R1): from this instant neither the site phase nor elapsed site time advances. -/
def execOscinStop (dt : Nat) (s : State) : Result :=
  .next { s.advance dt with pins.oscRunning := false }

end Sys2Proof.Machine
end

