-- ==== Sys2Proof/Machine/Roster.lean ====
section
/-! DEFINITION. The roster (06_the_roster.md): entries, samples, ageing, masks, epoch differences, clears, and its work at a boundary. -/

namespace Sys2Proof.Machine

open Sys2Proof

/-! ## Entries and masks (R99 to R101, R111) -/

/-- The entry of an ID. -/
def Roster.find (k : NodeId) (r : Roster) : Option Entry := r.entries.find? (fun e => e.id = k)

/-- Replaces the entry of the same ID. -/
def replaceEntry (e : Entry) (xs : List Entry) : List Entry := xs.map (fun x => if x.id = e.id then e else x)

/-- Places an entry in ascending ID order. -/
def insertEntry (e : Entry) : List Entry → List Entry
  | [] => [e]
  | x :: xs => if e.id < x.id then e :: x :: xs else x :: insertEntry e xs

/-- Whether an entry counts in the own admitted mask (R111). -/
def EntryState.inMask : EntryState → Bool
  | .admitted | .suspect => true
  | .heard => false

/-- The own admitted mask (R111). -/
def Roster.ownMask (r : Roster) : Mask := maskOf ((r.entries.filter (fun e => e.state.inMask)).map (·.id))

/-- A new entry, before its first frame is taken (R100). -/
def Entry.new (k : NodeId) (cls : OscClass) (now : Epoch) : Entry :=
  { id := k, state := .heard, cause := none, goodRun := 0, censusMiss := 0, markMiss := 0, deviation := 0
    restore := 0, mismatch := 0, mismatchPosted := false, cls := cls, declared := none, lastEpoch := now
    delay := none, ring := [], received := .none, marked := false, sampled := false }

/-- The solver's last sets, less entries the roster no longer holds (R143). -/
def Solver.forget (gone : NodeId → Bool) (v : Solver) : Solver :=
  { v with lastC := v.lastC.filter (fun k => !gone k), lastA := v.lastA.filter (fun k => !gone k) }

/-- A clear of the roster (R99): no event is posted, and an adoption outstanding is kept. -/
def State.clearRoster (s : State) : State :=
  { s with roster := { s.roster with entries := [], openingMask := none, fullPosted := [], diffs := [] }
           solver := s.solver.forget (fun k => decide (k ≠ s.mem.nodeId)) }

/-- An entry is removed (R106, R108, R110), and the full-posted set is emptied (R101). -/
def State.dropEntry (k : NodeId) (s : State) : State :=
  { s with roster := { s.roster with entries := s.roster.entries.filter (fun e => e.id ≠ k), fullPosted := [] }
           solver := s.solver.forget (fun j => decide (j = k)) }

/-! ## Frames and samples (R100 to R104) -/

/-- What a good frame records in its sender's entry (R102). -/
def Entry.record (f : Frame) (now : Epoch) (e : Entry) : Entry :=
  match f with
  | .census _ _ cls d _ => { e with cls := cls, declared := some d, lastEpoch := now, received := .census }
  | .join _ _ cls _ => { e with cls := cls, lastEpoch := now, received := .join }
  | .leave _ _ _ => e

/-- A sample joins a ring (R104): it replaces one of the same epoch number. -/
def placeSample (ring : List Sample) (x : Sample) : List Sample :=
  match ring.getLast? with
  | some last => if last.epoch = x.epoch then ring.dropLast ++ [x] else appendBounded 16 ring x
  | none => [x]

/-- The observations a frame carries. -/
def Frame.observations : Frame → List Observation
  | .census _ _ _ _ obs | .join _ _ _ obs => obs
  | .leave _ _ _ => []

/-- The sample formed at a frame's arrival, from the sender's slot and the frame's observation of this
node (R103). -/
def Entry.takeSample (own : NodeId) (slot : SlotReading) (f : Frame) (now : Epoch) (e : Entry) : Entry :=
  match slot with
  | .none | .contested => e
  | .one m =>
    match f.observations.find? (fun o => o.peer = own), e.delay with
    | some o, _ =>
      { e with delay := some (Int.tdiv (m + o.offset) 2)
               ring := placeSample e.ring ⟨now, Int.tdiv (o.offset - m) 2, .twoWay⟩
               sampled := true }
    | none, some d => { e with ring := placeSample e.ring ⟨now, d - m, .oneWay⟩, sampled := true }
    | none, none => e

/-- An entry takes a good CENSUS or JOIN of its ID (R102, R103). -/
def State.entryTakes (f : Frame) (s : State) (e : Entry) : Entry :=
  (e.record f s.ts.epoch).takeSample s.mem.nodeId (s.readSlot f.sender) f s.ts.epoch

/-- The class a frame declares. -/
def Frame.cls : Frame → OscClass
  | .census _ _ c _ _ | .join _ _ c _ => c
  | .leave _ _ _ => 0

/-- A sender without an entry (R100, R101): an entry is created where every condition holds, and a full
roster posts ROSTER_FULL once. -/
def State.offerEntry (f : Frame) (s : State) : State :=
  let k := f.sender
  if maskHas s.cfg.admission k && (s.readSlot k).isOne then
    if s.roster.entries.length < 8 then
      { s with roster.entries := insertEntry (s.entryTakes f (.new k f.cls s.ts.epoch)) s.roster.entries }
    else if s.roster.fullPosted.contains k then s
    else { s with roster.fullPosted := s.roster.fullPosted ++ [k] }.post .roster .rosterFull (some k) none
  else s

/-! ## The epoch difference table (R115) -/

/-- Enters this-epoch columns in a row, rows ascending by ID. -/
def enterRow (k : NodeId) (c : DiffColumns) : List DiffRow → List DiffRow
  | [] => [⟨k, some c, 0, 0⟩]
  | r :: rs =>
    if k = r.id then { r with now := some c } :: rs
    else if k < r.id then ⟨k, some c, 0, 0⟩ :: r :: rs
    else r :: enterRow k c rs

/-- A CENSUS or mismatch notice is entered in the table, while MEMBER (R115). -/
def State.noteDifference (k : NodeId) (frameEpoch : Epoch) (timing : TimingState) (s : State) : State :=
  if s.mem.state = .member then
    { s with roster.diffs := enterRow k ⟨frameEpoch - s.ts.epoch, decide (timing = .anchored)⟩ s.roster.diffs }
  else s

/-- A good CENSUS is entered in the table; a JOIN is not (R115). -/
def State.noteFrame (f : Frame) (s : State) : State :=
  match f with
  | .census k e _ d _ => s.noteDifference k e d.timing
  | .join _ _ _ _ | .leave _ _ _ => s

/-- The roster takes a good CENSUS or JOIN (R100, R102, R103, R115). -/
def State.rosterTakes (f : Frame) (s : State) : State :=
  let s := match s.roster.find f.sender with
    | some e => { s with roster.entries := replaceEntry (s.entryTakes f e) s.roster.entries }
    | none => s.offerEntry f
  s.noteFrame f

/-- The roster takes a good LEAVE (R110). -/
def State.rosterLeave (k : NodeId) (reason : LeaveReason) (s : State) : State :=
  match s.roster.find k with
  | some _ =>
    ({ s with roster.diffs := s.roster.diffs.filter (fun r => r.id ≠ k) }.dropEntry k).postInt .roster
      .peerRemoved (some k) reason.code
  | none => s

/-- What a mismatch notice does to its sender's entry (R114). -/
def Entry.notice (now : Epoch) (e : Entry) : Entry :=
  { e with lastEpoch := now
           received := match e.received with
             | .none | .mismatched => .mismatched
             | .census => .census
             | .join => .join }

/-- The roster takes a mismatch notice (R114, R115). -/
def State.rosterNotice (k : NodeId) (frameEpoch : Epoch) (timing : TimingState) (s : State) : State :=
  let s := match s.roster.find k with
    | some e => { s with roster.entries := replaceEntry (e.notice s.ts.epoch) s.roster.entries }
    | none => s
  s.noteDifference k frameEpoch timing

/-! ## The solve-point exchange (R105 to R109, R113) -/

/-- The solver's verdicts (R109, R130). -/
inductive Verdict where
  | excluded
  | included
  | within
  | outside
  | notJudged
  deriving DecidableEq, Repr

/-- Step 1 of the exchange: the mark captured flags (R105). -/
def State.rosterMarks (s : State) : State :=
  { s with roster.entries := s.roster.entries.map (fun e =>
      if (s.readSlot e.id).isOne then { e with marked := true } else e) }

/-- A SUSPECT entry of cause DEVIATION (R109, R130). -/
def Entry.deviant (e : Entry) : Bool := decide (e.state = .suspect) && decide (e.cause = some .deviation)

/-- A verdict applied (R109). -/
def Entry.applyVerdict (v : Verdict) (e : Entry) : Entry :=
  match v with
  | .excluded => { e with deviation := satAdd 8 e.deviation 1 }
  | .included => { e with deviation := 0 }
  | .within => { e with restore := satAdd 8 e.restore 1 }
  | .outside => { e with restore := 0 }
  | .notJudged => if e.deviant then { e with restore := 0 } else e

/-- What the ageing of an entry comes to: the entry or its removal, and the event of the step (R105). -/
structure Aged where
  entry : Option Entry
  event : Option (EventKind × Option Int)
  deriving DecidableEq, Repr

/-- An entry that this epoch leaves in its state. -/
def Aged.stays (e : Entry) : Aged := ⟨some e, none⟩

/-- Whether the epoch brought a frame (R106 to R108, R114). -/
def Entry.framed (e : Entry) : Bool := e.received != .none

/-- The counts set to 0 on admission and on a return to ADMITTED (R106, R108). -/
def Entry.freshCounts (e : Entry) : Entry :=
  { e with goodRun := 0, censusMiss := 0, markMiss := 0, deviation := 0, restore := 0 }

/-- A HEARD entry (R106). -/
def Entry.ageHeard (e : Entry) : Aged :=
  if e.framed && e.marked then
    let e := { e with goodRun := e.goodRun + 1, censusMiss := 0 }
    if 4 ≤ e.goodRun then
      ⟨some { e.freshCounts with state := .admitted, mismatch := 0 }, some (.peerAdmitted, none)⟩
    else .stays e
  else
    let e := { e with goodRun := 0, censusMiss := e.censusMiss + 1 }
    if 4 ≤ e.censusMiss then ⟨none, some (.peerRemoved, some 0)⟩ else .stays e

/-- Values of PEER_SUSPECT (R107). -/
def SuspectCause.code : SuspectCause → Int
  | .censusMiss => 0
  | .markMiss => 1
  | .deviation => 2

/-- The miss counts of an ADMITTED entry (R107). -/
def Entry.countMisses (e : Entry) : Entry :=
  match e.framed, e.marked with
  | true, true => { e with censusMiss := 0, markMiss := 0 }
  | true, false => { e with censusMiss := 0, markMiss := satAdd 3 e.markMiss 1 }
  | false, true => { e with censusMiss := e.censusMiss + 1, markMiss := 0 }
  | false, false => { e with censusMiss := e.censusMiss + 1 }

/-- The cause for which an ADMITTED entry becomes SUSPECT, where one holds (R107). -/
def Entry.suspicion (e : Entry) : Option SuspectCause :=
  if 3 ≤ e.censusMiss then some .censusMiss
  else if 3 ≤ e.markMiss then some .markMiss
  else if 8 ≤ e.deviation then some .deviation
  else none

/-- An ADMITTED entry (R107). -/
def Entry.ageAdmitted (e : Entry) : Aged :=
  let e := e.countMisses
  match e.suspicion with
  | some c =>
    ⟨some { e with state := .suspect, cause := some c, goodRun := 0, restore := 0 },
      some (.peerSuspect, some c.code)⟩
  | none => .stays e

/-- The good-run count of a SUSPECT entry (R108). -/
def Entry.countGood (e : Entry) : Entry :=
  if e.cause = some .deviation then e
  else { e with goodRun := if e.framed && e.marked then e.goodRun + 1 else 0 }

/-- Whether a SUSPECT entry returns to ADMITTED (R108). -/
def Entry.cleared (e : Entry) : Bool :=
  if e.cause = some .deviation then decide (8 ≤ e.restore) else decide (2 ≤ e.goodRun)

/-- A SUSPECT entry (R108). -/
def Entry.ageSuspect (e : Entry) : Aged :=
  let e := { e with censusMiss := if e.framed then 0 else e.censusMiss + 1 }
  if 8 ≤ e.censusMiss then ⟨none, some (.peerRemoved, some 0)⟩
  else
    let e := e.countGood
    if e.cleared then ⟨some { e.freshCounts with state := .admitted, cause := none }, some (.peerRestored, none)⟩
    else .stays e

/-- Step 5 of the exchange for one entry (R105). -/
def Entry.age (e : Entry) : Aged :=
  match e.state with
  | .heard => e.ageHeard
  | .admitted => e.ageAdmitted
  | .suspect => e.ageSuspect

/-- Two masks compared, the bits of both nodes themselves ignored (R113). -/
def masksAgree (own k : NodeId) (x y : Mask) : Bool := decide (x ||| maskOf [own, k] = y ||| maskOf [own, k])

/-- The declared mask an entry is compared on at step 6: ADMITTED, with a CENSUS this epoch (R113). -/
def Entry.comparable (e : Entry) : Option Mask :=
  if e.state = .admitted ∧ e.received = .census then e.declared.map (·.mask) else none

/-- Step 6 for one entry (R113): the entry, and the value of ROSTER_MISMATCH where it is posted. -/
def Entry.compareMasks (own : NodeId) (opening : Option Mask) (e : Entry) : Entry × Option (BitVec 32) :=
  match opening, e.comparable with
  | some x, some y =>
    if masksAgree own e.id x y then ({ e with mismatch := 0, mismatchPosted := false }, none)
    else
      let e := { e with mismatch := satAdd 8 e.mismatch 1 }
      if 8 ≤ e.mismatch ∧ e.mismatchPosted = false then
        ({ e with mismatchPosted := true }, some (BitVec.ofNat 32 (x.toNat * 65536 + y.toNat)))
      else (e, none)
  | _, _ => (e, none)

/-- The state event of an entry, posted (R105). -/
def State.postAged (k : NodeId) (event : Option (EventKind × Option Int)) (s : State) : State :=
  match event with
  | some (kind, v) => s.post .roster kind (some k) (v.map signed32)
  | none => s

/-- The mismatch event of an entry, posted (R113). -/
def State.postMismatch (k : NodeId) (value : Option (BitVec 32)) (s : State) : State :=
  match value with
  | some v => s.post .roster .rosterMismatch (some k) (some v)
  | none => s

/-- Steps 5 and 6 for one entry, its events in order (R105). -/
def State.ageEntry (e : Entry) (s : State) : State :=
  match e.age.entry with
  | none => (s.dropEntry e.id).postAged e.id e.age.event
  | some e' =>
    let (e'', mismatch) := e'.compareMasks s.mem.nodeId s.roster.openingMask
    ({ s with roster.entries := replaceEntry e'' s.roster.entries }.postAged e.id e.age.event).postMismatch
      e.id mismatch

/-- Steps 4 to 6 of the exchange (R105). -/
def State.rosterAge (verdicts : NodeId → Verdict) (s : State) : State :=
  let judged := s.roster.entries.map (fun e => e.applyVerdict (verdicts e.id))
  judged.foldl (fun s e => s.ageEntry e) { s with roster.entries := judged }

/-! ## Epoch numbers (R115, R116) -/

/-- The run of a row after this epoch (R115). -/
def DiffRow.run (r : DiffRow) : DiffRow :=
  match r.now with
  | none => { r with runCount := 0 }
  | some c =>
    if c.diff = 0 then { r with runCount := 0 }
    else if c.diff = r.runDiff ∧ 1 ≤ r.runCount then { r with runCount := satAdd 3 r.runCount 1 }
    else { r with runDiff := c.diff, runCount := 1 }

/-- Whether a row's sender declared ANCHORED this epoch (R116). -/
def DiffRow.anchored (r : DiffRow) : Bool :=
  match r.now with
  | some c => c.anchored
  | none => false

/-- The difference the roster adopts, where R116 has one: toward the lowest-ID anchored sender, or, where
none declared ANCHORED, toward the lowest-ID sender below the node's own ID. -/
def adoptedDifference (own : NodeId) (rows : List DiffRow) : Option Epoch :=
  match rows.find? DiffRow.anchored with
  | some r => if r.runCount = 3 then some r.runDiff else none
  | none =>
    match rows.find? (fun r => r.now.isSome) with
    | some r => if r.id < own ∧ r.runCount = 3 then some r.runDiff else none
    | none => none

/-- Step 7 of the exchange (R115, R116), with the timing state after this solve. -/
def State.rosterNumbers (s : State) : State :=
  if s.mem.state = .member then
    let s := { s with roster.diffs := s.roster.diffs.map DiffRow.run }
    if s.roster.adoptionOutstanding ∨ s.solver.timing = .anchored then s
    else match adoptedDifference s.mem.nodeId s.roster.diffs with
      | some d => { s.requestAdoption (s.ts.epoch + d) with roster.adoptionOutstanding := true }
      | none => s
  else s

/-- Step 8 of the exchange (R105): the this-epoch flags and columns, and the opening mask. -/
def Roster.clearEpoch (r : Roster) : Roster :=
  { r with entries := r.entries.map (fun e => { e with received := .none, marked := false, sampled := false })
           diffs := (r.diffs.map (fun d => { d with now := none })).filter (fun d => d.runCount != 0)
           openingMask := none }

/-- Steps 4 to 8 of the exchange, on the solver's verdicts (R105). -/
def State.rosterComplete (verdicts : NodeId → Verdict) (s : State) : State :=
  let s := (s.rosterAge verdicts).rosterNumbers
  { s with roster := s.roster.clearEpoch }

/-! ## The boundary (R104, R117) -/

/-- Epoch numbers of an entry moved by an adoption (R104). -/
def Entry.rebase (shift : Epoch) (e : Entry) : Entry :=
  { e with lastEpoch := e.lastEpoch + shift
           ring := e.ring.map (fun x => { x with epoch := x.epoch + shift }) }

/-- An adoption outstanding is posted at its boundary (R117): the runs are emptied, EPOCH_ADOPTED carries the
number the epoch would otherwise have taken. -/
def State.rosterAdopted (other : Epoch) (s : State) : State :=
  let emptied := (s.roster.diffs.map (fun r => { r with runCount := 0 })).filter (fun r => r.now.isSome)
  ({ s with roster := { s.roster with adoptionOutstanding := false, diffs := emptied } }).post .roster
    .epochAdopted none (some other)

/-- The roster's work at a boundary proper (R104, R117). -/
def State.rosterBoundary (ev : BoundaryEvent) (s : State) : State :=
  match ev.adoptedOver with
  | none => s
  | some other =>
    let s := { s with roster.entries := s.roster.entries.map (Entry.rebase (s.ts.epoch - other)) }
    if s.roster.adoptionOutstanding then s.rosterAdopted other else s

end Sys2Proof.Machine
end

