-- ==== Sys2Proof/Machine/Generator.lean ====
section
/-! DEFINITION. The generator unit (09_output_generators.md): the pulse grid, pulse starts and ends, run states, the boundary, the inhibit state, and the four commands of the unit. -/

namespace Sys2Proof.Machine

open Sys2Proof

/-- The period P in ns (R162). -/
def GenSettings.periodNs (g : GenSettings) : Int := 1000 * (g.period : Int)

/-- The offset of a group (R164). -/
def Timescale.groupOffset (t : Timescale) : Group → GroupOffset
  | .a => t.groupA
  | .b => t.groupB

/-- The first phase of the grid at or after 0, in ns (R166). -/
def GenSettings.firstGrid (g : GenSettings) (offset : Int) : Int := (g.offset + offset) % g.periodNs

/-- The first grid phase not below `least`, in ns (R166). -/
def GenSettings.gridFrom (g : GenSettings) (offset : Int) (least : Nat) : Int :=
  let first := g.firstGrid offset
  let periods := ceilDiv ((least : Int) - first).toNat g.periodNs.toNat
  first + g.periodNs * periods

/-- The search for the next start (R166): the first grid phase still to be raised in this epoch, or else
the first of the next epoch. `taken` says whether a grid phase at this very instant counts as taken. In
a replay no grid phase of the epoch is still to be raised. -/
def searchStart (t : Timescale) (g : GenSettings) (taken : Bool) : NextStart :=
  let offset := (t.groupOffset g.group).current
  let least := if taken then t.sitePhase / 16 + 1 else ceilDiv t.sitePhase 16
  let found := g.gridFrom offset least
  if t.replay || decide (1000000000 ≤ found) then ⟨g.firstGrid offset, true⟩ else ⟨found, false⟩

/-- Whether the present instant is a grid phase, so that the order of the two events is open (R169). -/
def onGrid (t : Timescale) (g : GenSettings) : Bool :=
  decide (t.sitePhase % 16 = 0) &&
    decide (g.gridFrom (t.groupOffset g.group).current (t.sitePhase / 16) = ((t.sitePhase / 16 : Nat) : Int))

/-- A phase in ns of the current epoch, or, from 1,000,000,000 on, of the next (R167, R168). -/
def NextStart.at (phase : Int) : NextStart :=
  if 1000000000 ≤ phase then ⟨phase - 1000000000, true⟩ else ⟨phase, false⟩

/-- A pulse starts (R167): the timer takes W, and the next start is one period after the scheduled
instant. The pulse is shown unless inhibit is in force (R163, R173). -/
def Generator.start (set : GenSettings) (inForce : Bool) (scheduled : Int) (g : Generator) : Generator :=
  { g with pulse := some ⟨ns set.width, !inForce⟩, next := some (.at (scheduled + set.periodNs)) }

/-- A generator becomes RUNNING, its next start searched afresh (R169). -/
def Generator.becomeRunning (t : Timescale) (set : GenSettings) (taken : Bool) (g : Generator) : Generator :=
  { g with run := .running, skip := 0, next := some (searchStart t set taken) }

/-! ## BEGIN and time-valid (R162, R169) -/

/-- Run state at BEGIN (R162, R169). -/
def Generator.begin (t : Timescale) (taken : Bool) (set : GenSettings) (_ : Generator) : Generator :=
  let off : Generator := ⟨.disabled, 0, none, none⟩
  if !set.enable then off
  else match set.invalid with
    | .run => off.becomeRunning t set (onGrid t set && taken)
    | .low | .high => { off with run := .holding }

/-- Time-valid rises (R169). -/
def Generator.rise (t : Timescale) (taken : Bool) (set : GenSettings) (g : Generator) : Generator :=
  match g.run with
  | .holding =>
    if set.skip = 0 then g.becomeRunning t set (onGrid t set && taken)
    else { g with run := .skipping, skip := set.skip }
  | .disabled | .skipping | .running => g

/-- Time-valid falls (R169). -/
def Generator.fall (set : GenSettings) (g : Generator) : Generator :=
  match g.run with
  | .skipping => { g with run := .holding, skip := 0 }
  | .running =>
    match set.invalid with
    | .run => g
    | .low | .high => { g with run := .holding, next := none, pulse := none }
  | .disabled | .holding => g

/-- A free choice for each generator, whether a grid phase at this very instant counts as taken (R166, R169, log
entry 4): one bit of a free number for each. -/
def takenBits (n : Nat) : Quad Bool := ⟨n.testBit 0, n.testBit 1, n.testBit 2, n.testBit 3⟩

/-- The unit takes a new level of time-valid from the solver (R120, R169). A rise that falls on a grid phase of a
generator may be taken before or after it (R169): the choice is free for each generator. -/
def State.genTimeValid (level : Bool) (s : State) : State :=
  if !s.begun then s
  else if level then
    let (n, s) := s.freeNat
    { s with gen.timeValid := true
             gen.gens := (takenBits n).zip3Map (Generator.rise s.ts) s.cfg.gens s.gen.gens }
  else
    { s with gen.timeValid := false
             gen.gens := s.cfg.gens.zipMap Generator.fall s.gen.gens }

/-! ## The boundary (R168, R169) -/

/-- A RUNNING generator at a boundary that applied no forward step (R168): its next start moves into the
current epoch, then by δ. One moved below 0 has already been reached and starts its pulse at once. -/
def Generator.move (set : GenSettings) (inForce : Bool) (delta : Int) (g : Generator) : Generator :=
  match g.next with
  | none => g
  | some n =>
    if n.phase + delta < 0 then g.start set inForce (n.phase + delta)
    else { g with next := some (.at (n.phase + delta)) }

/-- One generator at a boundary proper (R168, R169). `t` is the timescale with the new epoch open. -/
def Generator.boundary (t : Timescale) (forward inForce : Bool) (deltaA deltaB : Int)
    (set : GenSettings) (g : Generator) : Generator :=
  match g.run with
  | .running =>
    if forward then { g with next := some (searchStart t set false) }
    else g.move set inForce (match set.group with | .a => deltaA | .b => deltaB)
  | .skipping => if 1 < g.skip then { g with skip := g.skip - 1 } else g.becomeRunning t set false
  | .disabled | .holding => g

/-- The generator unit's work at a boundary proper (R168, R169, R170). -/
def State.genBoundary (forward : Bool) (deltaA deltaB : Int) (s : State) : State :=
  if s.begun then
    { s with gen.gens := s.cfg.gens.zipMap (Generator.boundary s.ts forward s.gen.inForce deltaA deltaB) s.gen.gens }
  else s

/-! ## Inhibit (R171 to R173) -/

/-- Every pulse in progress is no longer shown (R163, R173). -/
def GenUnit.hidePulses (u : GenUnit) : GenUnit :=
  let hide (g : Generator) : Generator := { g with pulse := g.pulse.map (fun p => { p with shown := false }) }
  { u with gens := ⟨hide u.gens.g0, hide u.gens.g1, hide u.gens.g2, hide u.gens.g3⟩ }

/-- Inhibit begins: IN_FORCE, pulses in progress are cut, INHIBIT with value 1 (R171, R173). -/
def State.inhibitBegins (s : State) : State :=
  ({ s with gen := { s.gen.hidePulses with inForce := true } }).postInt .generator .inhibit none 1

/-- Inhibit ends: CLEAR, INHIBIT with value 0 (R171). Pulses that are running were not shown. -/
def State.inhibitEnds (s : State) : State :=
  ({ s with gen.inForce := false }).postInt .generator .inhibit none 0

/-- The filtered pin level becomes `level` (R171). -/
def State.filteredBecomes (level : Bool) (s : State) : State :=
  let s := { s with gen.filtered := level, gen.filterTimer := none }
  if level then (if s.gen.inForce then s else s.inhibitBegins)
  else if s.gen.inForce && decide (s.cfg.inhibitMode = .follow) then s.inhibitEnds
  else s

/-- The unit at BEGIN (R162, R171): run states, time-valid as the solver holds it, and the filtered level
taken from the pin with no filter time. The pin is taken as synchronised to OSCIN: where OSCIN stands still and INHIBIT
has changed since it stopped, the level last synchronised is taken, not the one at the pin (the model's choice, log
entry 8). -/
def State.genBegin (s : State) : State :=
  let (n, s) := s.freeNat
  let s := { s with gen.gens := (takenBits n).zip3Map (Generator.begin s.ts) s.cfg.gens s.gen.gens
                    gen.timeValid := s.solver.timeValid
                    gen.filtered := s.pins.inhibit
                    gen.filterTimer := none }
  if s.pins.inhibit then s.inhibitBegins else s

/-! ## The commands -/

/-- Time remaining to a generator's next start in the current epoch, if it is to be reached now (R167). -/
def State.toStart (s : State) (i : Fin 4) : Option Nat :=
  match (s.gen.gens.get i).run, (s.gen.gens.get i).next with
  | .running, some n =>
    if n.nextEpoch || s.ts.replay then none else some (ns n.phase.toNat - s.ts.sitePhase)
  | _, _ => none

/-- The pulse of generator `i` starts at its next start (R167). -/
def State.startPulse (i : Fin 4) (s : State) : State :=
  match (s.gen.gens.get i).next with
  | none => s
  | some n =>
    { s with gen.gens := s.gen.gens.set i
               ((s.gen.gens.get i).start (s.cfg.gens.get i) s.gen.inForce n.phase) }

/-- GENERATOR_START (R167): a RUNNING generator reaches its next start. -/
def execGeneratorStart (i : Fin 4) (s : State) : Result :=
  .next (s.atExpiry (s.toStart i) (State.startPulse i))

/-- PULSE_END (R167): the pulse timer has counted W, and the timer is idle. -/
def execPulseEnd (i : Fin 4) (s : State) : Result :=
  .next (s.atExpiry ((s.gen.gens.get i).pulse.map (·.remaining))
    (fun s => { s with gen.gens := s.gen.gens.set i { s.gen.gens.get i with pulse := none } }))

/-- The synchronised level of INHIBIT becomes `asserted` (R171). From BEGIN, the filter timer starts when it stands
at a level other than the filtered one, and stops when it is back at it. -/
def State.inhibitTaken (asserted : Bool) (s : State) : State :=
  if s.pins.inhibit = asserted then s
  else
    let s := { s with pins.inhibit := asserted }
    if s.begun then { s with gen.filterTimer := if asserted = s.gen.filtered then none else some 0 }
    else s

/-- INHIBIT_PIN_CHANGE (R171). While OSCIN stands still the pin alone changes (log entry 8). -/
def execInhibitPinChange (dt : Nat) (asserted : Bool) (s : State) : Result :=
  let s := { s.advance dt with pins.inhibitPin := asserted }
  .next (if s.pins.oscRunning then s.inhibitTaken asserted else s)

/-- FILTERED_LEVEL_CHANGE (R171): the pin has held a new level for 1,000 ns. -/
def execFilteredLevelChange (s : State) : Result :=
  .next (s.atExpiry (toLimit (ns 1000) s.gen.filterTimer)
    (fun s => s.filteredBecomes s.pins.inhibit)).settle

end Sys2Proof.Machine
end

