-- ==== Sys2Proof/Machine/Temperature.lean ====
section
/-! DEFINITION. The temperature unit (08_temperature_learning.md): samples, T and its bin, the excursion flag, learning, prediction, the frozen value, and the TEMPERATURE_SAMPLE command. -/

namespace Sys2Proof.Machine

open Sys2Proof

/-- The mean temperature T in 1/16 degree (R149); absent while the list is empty. -/
def TempUnit.mean (t : TempUnit) : Option Int :=
  match t.samples with
  | [] => none
  | xs => some (Int.tdiv (sumInt xs) xs.length)

/-- Whether T lies in the table's range, −50 °C up to but not including 110 °C (R149). -/
def tempInRange (x : Int) : Bool := decide (-800 ≤ x ∧ x ≤ 1759)

/-- The bin of T, clamped to 0 to 79 (R149). -/
def binOf (x : Int) : Nat := (clampInt 0 79 (Int.fdiv (x + 800) 32)).toNat

/-- A bin of the table. -/
def TempUnit.bin (t : TempUnit) (i : Nat) : TempBin := t.table[i]?.getD ⟨0, 0⟩

/-- The learned value of bin `i` when it has a count of 8 or more and so predicts (R154). -/
def TempUnit.predicts (t : TempUnit) (i : Nat) : Option Int :=
  if 8 ≤ (t.bin i).count then some (t.bin i).value else none

/-- The nearest predicting bin at a distance of 1 to 10, the lower first at equal distance (R154). -/
def TempUnit.neighbour (t : TempUnit) (b : Nat) : List Nat → Option Int
  | [] => none
  | d :: ds =>
    match (if d ≤ b then t.predicts (b - d) else none) with
    | some v => some v
    | none =>
      match (if b + d < 80 then t.predicts (b + d) else none) with
      | some v => some v
      | none => t.neighbour b ds

/-- The prediction P(T) and its source (R154). -/
def TempUnit.predict (t : TempUnit) : Int × PredSource :=
  let fallback := (t.frozen.getD t.lastF, PredSource.frozen)
  match t.mean with
  | none => fallback
  | some x =>
    match t.predicts (binOf x) with
    | some v => (v, .bin)
    | none =>
      match t.neighbour (binOf x) [1, 2, 3, 4, 5, 6, 7, 8, 9, 10] with
      | some v => (v, .neighbour)
      | none => fallback

/-- Holdover begins (R155): the steer F is recorded as the last F, and the frozen value becomes the
prediction then in effect. -/
def State.holdoverBegins (steer : Int) (s : State) : State :=
  let s := { s with temp.lastF := steer }
  { s with temp.frozen := some s.temp.predict.1 }

/-- A learned sample changes its bin by the count before the update (R153). -/
def TempBin.learn (x : Int) (b : TempBin) : TempBin :=
  if b.count < 255 then
    let n := b.count + 1
    ⟨if b.count = 0 then x else b.value + Int.tdiv (x - b.value) n, n⟩
  else ⟨b.value + Int.tdiv (x - b.value) 256, 255⟩

/-- The solver's hand-over (R152, R157): F is recorded, and learned into the bin of T when every
condition holds. -/
def State.tempHandOver (f c slewLimit : Int) (s : State) : State :=
  let s := { s with temp.lastF := f }
  let settled := (s.solver.timing = .anchored ∨ s.solver.timing = .borrowing) ∧ 16 ≤ s.solver.stateHeld ∧
    (c.natAbs : Int) < slewLimit ∧ s.ts.stepBegan = false ∧ s.mem.supplyIsLow = false
  match s.temp.mean with
  | none => s
  | some x =>
    if settled ∧ tempInRange x then
      { s with temp.table := s.temp.table.setIfInBounds (binOf x) ((s.temp.bin (binOf x)).learn f) }
    else s

/-- The excursion flag after a new T (R150). -/
def State.judgeRange (s : State) : State :=
  match s.temp.mean with
  | none => s
  | some x =>
    if tempInRange x then { s with temp.excursion := false }
    else if s.temp.excursion then s
    else
      let s := { s with temp.excursion := true }
      if s.begun then s.postInt .temperature .tempRange none x else s

/-- The unit at BEGIN (R150): an excursion in progress becomes visible. -/
def State.tempBegin (s : State) : State :=
  match s.temp.excursion, s.temp.mean with
  | true, some x => s.postInt .temperature .tempRange none x
  | _, _ => s

/-- A die temperature sample is taken (R148): the sensor reads from −64 °C to +160 °C. -/
def State.takeSample (die : Int) (s : State) : State :=
  ({ s with temp.samples := appendBounded 8 s.temp.samples (clampInt (-1024) 2560 die) }).judgeRange

/-- TEMPERATURE_SAMPLE (R148), in every membership state. -/
def execTemperatureSample (die : Int) (s : State) : Result :=
  .next (s.atPoint .temperature (State.takeSample die)).settle

end Sys2Proof.Machine
end

