-- ==== Sys2Proof/Machine/Solver.lean ====
section
/-! DEFINITION. The solver's timing states (07_ensemble_solution_and_timing_states.md): time-valid, entries to a state, the source priority and the transition rule, re-evaluation between solves, and the request to go FREE. The solve itself is in Solve.lean. -/

namespace Sys2Proof.Machine

open Sys2Proof

/-- The ceiling of the error bound, 10^15 fs (R138). -/
def boundCeiling : Nat := 1000000000000000

/-- The timing state an acquiring target leads to. -/
def Target.state : Target → TimingState
  | .anchored => .anchored
  | .borrowing => .borrowing
  | .coasting => .coasting

/-- COASTING and ALONE: the pair of holdover (R126). -/
def TimingState.holdover : TimingState → Bool
  | .coasting | .alone => true
  | .free | .acquiring | .anchored | .borrowing => false

/-- When time-valid is high (R120). -/
def timeValidOf (t : TimingState) (overBudget : Bool) : Bool :=
  match t with
  | .anchored | .borrowing => true
  | .coasting | .alone => !overBudget
  | .free | .acquiring => false

/-- The slew limit of a timing state in 1/16 ns (R131); none in FREE and ALONE. -/
def Settings.slewLimit (cfg : Settings) : TimingState → Int
  | .anchored | .acquiring => ns cfg.slewAnchor
  | .borrowing => ns cfg.slewBorrow
  | .coasting => ns cfg.slewCoast
  | .free | .alone => 0

/-- rate0 of a class, fs per epoch (R137). -/
def rate0 : OscClass → Nat
  | 0 => 500000
  | 1 => 100000
  | 2 => 10000
  | 3 => 2000

/-- accel of a class, as per epoch² (R137). -/
def accel : OscClass → Nat
  | 0 => 100000
  | 1 => 20000
  | 2 => 2000
  | 3 => 300

/-- f(n), in thousandths (R137). -/
def ensembleFactor : Nat → Nat
  | 0 => 1000
  | 1 => 1000
  | 2 => 707
  | 3 => 577
  | 4 => 500
  | 5 => 447
  | 6 => 408
  | 7 => 378
  | 8 => 354
  | _ + 9 => 333

/-- The growth class and count n of an entry to COASTING (R137). -/
structure Growth where
  cls : OscClass
  n : Nat
  deriving DecidableEq, Repr

/-- Time-valid is recomputed; a change is handed to the generator unit (R120). The timescale unit reads
the solver's level. -/
def State.refreshTimeValid (s : State) : State :=
  let v := timeValidOf s.solver.timing s.solver.overBudget
  if v = s.solver.timeValid then s else { s with solver.timeValid := v }.genTimeValid v

/-- The over-budget flag is to be set: it is clear, and B exceeds the holdover budget (R139). -/
def State.exceedsBudget (s : State) : Bool :=
  !s.solver.overBudget && decide (s.cfg.budget * 1000000 < s.solver.bound)

/-- The over-budget flag is set, with OVER_BUDGET (R139). -/
def State.setOverBudget (s : State) : State :=
  { s with solver.overBudget := true }.postInt .solver .overBudget none (reportBoundNs s.solver.bound)

/-- The over-budget flag is judged at the end of a solve (R122 step 8, R139). -/
def State.judgeBudget (s : State) : State := if s.exceedsBudget then s.setOverBudget else s

/-- The over-budget flag is judged at an entry to COASTING or ALONE (R139): which of the entry's STATE_CHANGE, posted
just before, and OVER_BUDGET is stored first is free (log entry 4). -/
def State.judgeBudgetAtEntry (s : State) : State := if s.exceedsBudget then s.setOverBudget.eitherOrder else s

/-- Entry actions of COASTING and ALONE (R126, R137, R138): the holdover notice where the state left is
neither, then H, trim, R, and the starting bound of a lock where one is given; then the judgment of the
over-budget flag (R139). -/
def State.enterHoldover (old : TimingState) (g : Growth) (startBound : Option Nat) (s : State) : State :=
  let s := if old.holdover then s else s.holdoverBegins s.solver.steerF
  let s := { s with solver.anchorH := s.solver.steerF - s.temp.predict.1
                    solver.trim := 0
                    solver.rate := rate0 g.cls * ensembleFactor g.n
                    solver.growthClass := g.cls
                    solver.growthN := g.n
                    solver.bound := startBound.getD s.solver.bound }
  s.judgeBudgetAtEntry

/-- The value of STATE_CHANGE (R120). -/
def stateChangeValue (t : TimingState) (target : Option Target) : Nat :=
  match target with
  | some g => t.code + 256 * g.state.code
  | none => t.code

/-- A change of timing state, or of target within ACQUIRING (R120, R126): STATE_CHANGE, the state-held
count at 0, the entry actions, and time-valid recomputed. A move out of COASTING and ALONE clears the
over-budget flag. `after` is the block after whose events STATE_CHANGE comes (R143). -/
def State.enter (after : Option Lane) (t : TimingState) (target : Option Target) (g : Growth)
    (startBound : Option Nat) (s : State) : State :=
  let old := s.solver.timing
  let s := s.postAfter after .solver .stateChange none (some (signed32 (stateChangeValue t target)))
  let s := { s with solver.timing := t
                    solver.target := target
                    solver.stateHeld := 0
                    solver.overBudget := s.solver.overBudget && old.holdover && t.holdover }
  let s := match t with
    | .free | .acquiring => { s with solver.bound := boundCeiling, solver.lockCount := 0 }
    | .anchored | .borrowing => { s with solver.validTime := true }
    | .coasting => { s with solver.validTime := true }.enterHoldover old g startBound
    | .alone => s.enterHoldover old ⟨s.cfg.cls, 1⟩ none
  s.refreshTimeValid

/-- The source priority (R125): the target, or none where there is no source. -/
def sourceOf (qualified member anchoredPeer peer : Bool) : Option Target :=
  if qualified then some .anchored
  else if member && anchoredPeer then some .borrowing
  else if member && peer then some .coasting
  else none

/-- The transition rule (R126). -/
def State.transition (after : Option Lane) (source : Option Target) (g : Growth) (s : State) : State :=
  match s.solver.timing, source with
  | .free, none => s
  | .free, some t => s.enter after .acquiring (some t) g none
  | .acquiring, some t =>
    if s.solver.target = some t then s else s.enter after .acquiring (some t) g none
  | .acquiring, none =>
    if s.solver.validTime then s.enter after .alone none g none else s.enter after .free none g none
  | .anchored, some t | .borrowing, some t | .coasting, some t | .alone, some t =>
    if s.solver.timing = t.state then s
    else if s.solver.timeValid then s.enter after t.state none g none
    else s.enter after .acquiring (some t) g none
  | .anchored, none | .borrowing, none | .coasting, none => s.enter after .alone none g none
  | .alone, none => s

/-- The highest class of a list, at least `c`. -/
def maxClass (c : OscClass) : List OscClass → OscClass
  | [] => c
  | d :: ds => maxClass (max c d) ds

/-- The growth class and count over a set of peers' classes and the node itself where it is a member
(R137). -/
def growthOf (member : Bool) (own : OscClass) (peers : List OscClass) : Growth :=
  match member, peers with
  | true, _ => ⟨maxClass own peers, peers.length + 1⟩
  | false, [] => ⟨own, 0⟩
  | false, c :: cs => ⟨maxClass c cs, peers.length⟩

/-- The declared classes of the roster entries whose IDs stand in a list. -/
def State.classesOf (ids : List NodeId) (s : State) : List OscClass :=
  (s.roster.entries.filter (fun e => ids.contains e.id)).map (·.cls)

/-- Whether the timing state relies on the node's own reference (R143). -/
def Solver.relies (v : Solver) : Bool :=
  decide (v.timing = .anchored) || (decide (v.timing = .acquiring) && decide (v.target = some .anchored))

/-- The re-evaluation between solves (R143), the reference having left QUALIFIED: source priority and
transition on the last sets and the node's present membership state, then a hand-over of the steer F
and a slew of 0. -/
def State.reevaluate (s : State) : State :=
  if s.solver.relies then
    let own := s.mem.nodeId
    let peersC := s.solver.lastC.filter (· != own)
    let peersA := s.solver.lastA.filter (· != own)
    let member := decide (s.mem.state = .member)
    let source := sourceOf false member (!peersA.isEmpty) (!peersC.isEmpty)
    let s := s.transition (some .qualifier) source (growthOf member s.cfg.cls (s.classesOf peersC))
    s.handOver s.solver.steerF 0
  else s

/-- The membership unit brings the timing state to FREE before its coarse step (R144). -/
def State.freeRequest (s : State) : State :=
  let s := { s with solver.validTime := false, solver.disputeCount := 0, solver.undisputeCount := 0 }
  let s := if s.solver.timing = .free then s else s.enter none .free none ⟨s.cfg.cls, 0⟩ none
  let s := { s with solver.overBudget := false }
  s.handOver s.solver.steerF 0

end Sys2Proof.Machine
end

