-- ==== Sys2Proof/Machine/Membership.lean ====
section
/-! DEFINITION. The membership unit (05_membership.md): changes of state, listening and the coarse offset, the coarse step and adoption, joining, own-ID conflict, withdrawal, the supply monitor and its three commands, END_OF_MARK_REGION, and the unit's work at a boundary. -/

namespace Sys2Proof.Machine

open Sys2Proof

/-- Codes of the membership states (R82). -/
def MembershipState.code : MembershipState → Nat
  | .unconfigured => 0
  | .listen => 1
  | .apart => 2
  | .aligning => 3
  | .joining => 4
  | .member => 5
  | .withdrawn => 6
  | .conflict => 7

/-! ## Changes of state (R82) -/

/-- Whether an entry to a state clears the roster (R99). -/
def MembershipState.clearsRoster : MembershipState → Bool
  | .listen | .withdrawn | .conflict => true
  | .unconfigured | .apart | .aligning | .joining | .member => false

/-- A change of membership state (R82): MEMBERSHIP_CHANGE, and the mark unit, the frame unit and the
roster act on it at this instant. -/
def State.changeState (new : MembershipState) (s : State) : State :=
  let old := s.mem.state
  let s := { s with mem.state := new
                    mark := s.mark.stateChange old new
                    frame := s.frame.stateChange old new }
  let s := s.postInt .membership .membershipChange none new.code
  if new.clearsRoster then s.clearRoster else s

/-- The records that an entry to LISTEN starts afresh (R84). While capture is suspended the heard flag is
set at once (log entry 16). -/
def Membership.listenAfresh (suspended : Bool) (m : Membership) : Membership :=
  { m with quietCount := 0, heard := suspended, trainStart := false, frameRecord := [], closedRecord := []
           history := [], newest := none, evidenceThis := false, evidenceLast := false }

/-- Entry to LISTEN (R84). -/
def State.enterListen (s : State) : State :=
  { s with mem := s.mem.listenAfresh s.mark.fault }.changeState .listen

/-- Entry to ALIGNING (R90). -/
def State.enterAligning (s : State) : State :=
  { s with mem := { s.mem with aligningCount := 0, emptyCount := 0 } }.changeState .aligning

/-- Entry to JOINING (R91). -/
def State.enterJoining (s : State) : State :=
  { s with mem := { s.mem with joinCounter := 0, joinQuiet := 0, joinSenders := [], joinHeard := false }
    }.changeState .joining

/-- Entry to CONFLICT (R93): CONFLICT with the cause, then the change, then the LEAVE. -/
def State.enterConflict (cause : Cause) (s : State) : State :=
  ((s.postInt .membership .conflict none cause.code).changeState .conflict).requestLeave .conflict

/-- Entry to WITHDRAWN (R95): a LEAVE from JOINING or MEMBER. -/
def State.enterWithdrawn (reason : LeaveReason) (s : State) : State :=
  let marking := s.mem.state.active
  let s := s.changeState .withdrawn
  if marking then s.requestLeave reason else s

/-! ## Conflict evidence (R92) -/

/-- A report of conflict evidence (R92). -/
def State.report (cause : Cause) (s : State) : State :=
  match s.mem.state with
  | .unconfigured | .withdrawn | .conflict => s
  | .joining | .member =>
    if s.mem.evidenceLast then s.enterConflict cause else { s with mem.evidenceThis := true }
  | .listen | .apart | .aligning => { s with mem.evidenceThis := true }

/-- A report of FRAME_OWN_ID also counts as something heard (R67, R84). -/
def State.reportOwnId (s : State) : State :=
  let s := if s.mem.state.listening then { s with mem.heard := true } else s
  s.report .frameOwnId

/-! ## Train starts and the coarse offset (R85, R86) -/

/-- The two-way limit of a converged history and the limit of alignment (R86, R87). -/
def alignLimit : Nat := ns 25000

/-- A train start (R85, R86). -/
def Membership.takeTrainStart (stamp : Stamp) (m : Membership) : Membership :=
  let closed := m.frameRecord
  let m := { m with closedRecord := closed, frameRecord := [], trainStart := true }
  match closed with
  | [] => { m with history := [], newest := none }
  | first :: _ =>
    { m with history := appendBounded 3 m.history (fold ((stamp.phase : Int) - ns (62500 * first.sender.val)))
             newest := some ⟨stamp, first.sender⟩ }

/-- An accepted edge handed on in OPEN mode (R42, R84, R85). -/
def Membership.takeEdge (stamp : Stamp) (highTime : Nat) (m : Membership) : Membership :=
  let m := { m with heard := true }
  if ns 500000000 ≤ highTime then m.takeTrainStart stamp else m

/-- Whether the history is converged (R86). -/
def converged : List Int → Bool
  | [a, b, c] =>
    decide ((fold (a - b)).natAbs ≤ ns 2000) && decide ((fold (b - c)).natAbs ≤ ns 2000) &&
      decide ((fold (a - c)).natAbs ≤ ns 2000)
  | _ => false

/-- Notice that capture is suspended, in LISTEN or APART (R51, R84, R86). -/
def Membership.captureSuspended (m : Membership) : Membership :=
  { m with heard := true, history := [], newest := none }

/-! ## Adoption (R88) -/

/-- How many notes of a record carry an epoch number. -/
def carriedBy (notes : List FrameNote) (e : Epoch) : Nat := (notes.filter (fun n => n.epoch = e)).length

/-- The number carried by the most notes; among equals, that of the lowest-ID sender (R88). `notes` ascends by
sender. -/
def mostCarried (notes : List FrameNote) : Option Epoch :=
  (notes.find? (fun n => notes.all (fun o => carriedBy notes o.epoch ≤ carriedBy notes n.epoch))).map (·.epoch)

/-- The adoption candidate X of a closed record (R88). -/
def adoptionCandidate (closed : List FrameNote) : Option Epoch :=
  match closed.find? (fun n => n.anchored) with
  | some n => some n.epoch
  | none =>
    match closed.filter (fun n => n.kind = .census) with
    | [] => mostCarried closed
    | cs => mostCarried cs

/-- The number N that the running epoch ought to carry (R88): X + 1 + U − E′. -/
def adoptionNumber (x : Epoch) (train : TrainStart) (current : Epoch) : Epoch :=
  let b := (train.stamp.phase : Int) - ns (62500 * train.lowest.val)
  let aligned := if b ≤ ns 500000000 then train.stamp.epoch else train.stamp.epoch + 1
  x + 1 + current - aligned

/-- The adoption that R87 calls for (R88). -/
def State.adoptEnsemble (s : State) : State :=
  match adoptionCandidate s.mem.closedRecord, s.mem.newest with
  | some x, some train =>
    let n := adoptionNumber x train s.ts.epoch
    if n = s.ts.epoch then s else { s.requestAdoption n with mem.adoptionOutstanding := true }
  | _, _ => s

/-! ## Deliveries (R85, R87, R91) -/

/-- Places a note in a record ascending by sender; a later frame replaces (R85). -/
def placeNote (n : FrameNote) : List FrameNote → List FrameNote
  | [] => [n]
  | x :: xs =>
    if n.sender = x.sender then n :: xs
    else if n.sender < x.sender then n :: x :: xs
    else x :: placeNote n xs

/-- The note of a frame (R85). -/
def Frame.note : Frame → FrameNote
  | .census k e _ d _ => ⟨k, .census, e, decide (d.timing = .anchored)⟩
  | .join k e _ _ => ⟨k, .join, e, false⟩
  | .leave k e _ => ⟨k, .leave, e, false⟩

/-- The decision of R87 on a converged history, by the newest Δ. -/
def State.decideAlignment (delta : Int) (s : State) : State :=
  if delta.natAbs ≤ alignLimit then s.adoptEnsemble.enterAligning
  else if s.ref.state = .qualified then
    if s.mem.state = .listen then
      (s.postInt .membership .ensembleFar none (toNs delta)).changeState .apart
    else s
  else ((s.freeRequest.requestStep (-delta)).adoptEnsemble).enterAligning

/-- A good CENSUS or JOIN delivered in LISTEN or APART (R84, R85, R87). -/
def State.listenDelivery (f : Frame) (s : State) : State :=
  let s := { s with mem := { s.mem with heard := true, frameRecord := placeNote f.note s.mem.frameRecord } }
  match converged s.mem.history, s.mem.history.getLast? with
  | true, some delta => s.decideAlignment delta
  | _, _ => s

/-- Places an answer in the join record; a later CENSUS replaces (R91). -/
def placeAnswer (n : JoinNote) : List JoinNote → List JoinNote
  | [] => [n]
  | x :: xs =>
    if n.sender = x.sender then n :: xs
    else if n.sender < x.sender then n :: x :: xs
    else x :: placeAnswer n xs

/-- A good CENSUS or JOIN delivered while JOINING (R91). -/
def Membership.joinDelivery (f : Frame) (m : Membership) : Membership :=
  match f with
  | .census k _ _ d _ =>
    { m with joinHeard := true, joinSenders := placeAnswer ⟨k, maskHas d.mask m.nodeId⟩ m.joinSenders }
  | .join _ _ _ _ => { m with joinHeard := true }
  | .leave _ _ _ => m

/-- A good CENSUS or JOIN delivered to the membership unit (R84, R85, R87, R91). -/
def State.memberDelivery (f : Frame) (s : State) : State :=
  match s.mem.state with
  | .listen | .apart => s.listenDelivery f
  | .joining => { s with mem := s.mem.joinDelivery f }
  | .unconfigured | .aligning | .member | .withdrawn | .conflict => s

/-- A good LEAVE delivered to the membership unit: something heard (R84). -/
def State.memberLeave (s : State) : State :=
  if s.mem.state.listening then { s with mem.heard := true } else s

/-! ## Aligning (R90) -/

/-- Whether some slot reads ONE (R54, R90). -/
def State.someCapture (s : State) : Bool := allIds.any (fun k => (s.readSlot k).isOne)

/-- The end of the mark region while ALIGNING, with a capture set open (R90). -/
def State.judgeAligning (s : State) : State :=
  if s.someCapture then
    { s with mem := { s.mem with aligningCount := satAdd 2 s.mem.aligningCount 1, emptyCount := 0 } }
  else
    let s := { s with mem := { s.mem with aligningCount := 0, emptyCount := satAdd 4 s.mem.emptyCount 1 } }
    if 4 ≤ s.mem.emptyCount then s.enterListen else s

/-- The end of the mark region (R90), where the range of a LEAVE opens too (R72). -/
def State.endOfMark (s : State) : State :=
  let s := if s.mem.state = .aligning ∧ s.mark.capture.isSome then s.judgeAligning else s
  s.tryStart

/-- END_OF_MARK_REGION (R6, R90). -/
def execEndOfMarkRegion (s : State) : Result :=
  .next (s.atPoint .endOfMark State.endOfMark).settle

/-! ## The boundary (R84, R86, R88, R90 to R92) -/

/-- An adoption of this unit's, posted at its boundary (R88). -/
def State.memberAdopted (ev : BoundaryEvent) (s : State) : State :=
  match ev.adoptedOver with
  | some other =>
    if s.mem.adoptionOutstanding then
      { s with mem.adoptionOutstanding := false }.post .membership .epochAdopted none (some other)
    else s
  | none => s

/-- The epoch just ended, in LISTEN or APART (R84, R86). -/
def State.judgeListening (s : State) : State :=
  let quiet := if s.mem.heard then 0 else satAdd 64 s.mem.quietCount 1
  let s := { s with mem := { s.mem with quietCount := quiet
                                        heard := s.mark.fault
                                        trainStart := false
                                        history := if s.mem.trainStart then s.mem.history else []
                                        newest := if s.mem.trainStart then s.mem.newest else none } }
  if s.cfg.firstMember ≤ quiet then s.changeState .member else s

/-- Whether the join record holds a majority (R91). -/
def joinMajority (senders : List JoinNote) : Bool :=
  decide (1 ≤ senders.length) && decide (senders.length ≤ 2 * (senders.filter (·.lists)).length)

/-- The timeout rule of JOINING (R91). -/
def State.judgeTimeout (s : State) : State :=
  let s := { s with mem.joinCounter := satAdd 16 s.mem.joinCounter 1 }
  if 16 ≤ s.mem.joinCounter then (s.post .membership .joinTimeout none none).enterListen else s

/-- The epoch just ended, in JOINING (R91). -/
def State.judgeJoining (s : State) : State :=
  let majority := joinMajority s.mem.joinSenders
  let heard := s.mem.joinHeard
  let s := { s with mem := { s.mem with joinSenders := [], joinHeard := false } }
  if majority then s.changeState .member
  else
    let s := { s with mem.joinQuiet := if heard then 0 else satAdd 4 s.mem.joinQuiet 1 }
    if 4 ≤ s.mem.joinQuiet then s.changeState .member else s.judgeTimeout

/-- The evidence flags at a boundary proper (R92). -/
def Membership.shiftEvidence (m : Membership) : Membership :=
  { m with evidenceLast := m.evidenceThis, evidenceThis := false }

/-- A boundary proper that applied a step, of any value, empties the history in every membership state (R86). -/
def Membership.historyAtBoundary (ev : BoundaryEvent) (m : Membership) : Membership :=
  if ev.step.isSome then { m with history := [], newest := none } else m

/-- The membership unit's work at a boundary proper (R84, R86, R88, R90 to R92). -/
def State.memberBoundary (ev : BoundaryEvent) (s : State) : State :=
  let s := s.memberAdopted ev
  let s := { s with mem := s.mem.shiftEvidence.historyAtBoundary ev }
  match s.mem.state with
  | .listen | .apart => s.judgeListening
  | .aligning => if 2 ≤ s.mem.aligningCount then s.enterJoining else s
  | .joining => s.judgeJoining
  | .unconfigured | .member | .withdrawn | .conflict => s

/-! ## Withdrawal and the supply (R94 to R96) -/

/-- A reason is removed; in WITHDRAWN an empty set leads to LISTEN (R94). -/
def State.reasonsChecked (s : State) : State :=
  if s.mem.state = .withdrawn ∧ s.mem.reasonCommand = false ∧ s.mem.reasonSupply = false then s.enterListen
  else s

/-- The supply-low event (R94, R96). -/
def State.supplyFell (s : State) : State :=
  let s := { s with mem := { s.mem with supplyIsLow := true, supplyTimer := 0, reasonSupply := true } }
  let s := s.post .membership .supplyLow none none
  match s.mem.state with
  | .listen | .apart | .aligning | .joining | .member => s.enterWithdrawn .supply
  | .unconfigured | .withdrawn | .conflict => s

/-- The supply-restored event (R94, R96). -/
def State.supplyRose (s : State) : State :=
  let s := { s with mem := { s.mem with supplyIsLow := false, supplyTimer := 0, reasonSupply := false } }
  (s.post .membership .supplyRestored none none).reasonsChecked

/-- Time remaining to the supply debounce time, where the supply timer runs in the given state (R96). -/
def State.toSupplyEvent (isLow : Bool) (s : State) : Option Nat :=
  if s.begun && s.mem.supplyIsLow == isLow && supplyRuns s.cfg isLow s.pins.supply then
    some (s.cfg.debounceTicks - s.mem.supplyTimer)
  else none

/-- SUPPLY_SENSE_CROSSING (R96): the timer runs on, or is set back to 0. -/
def execSupplySenseCrossing (dt millivolts : Nat) (s : State) : Result :=
  let s := { s.advance dt with pins.supply := millivolts }
  if supplyRuns s.cfg s.mem.supplyIsLow millivolts then .next s
  else .next { s with mem.supplyTimer := 0 }

/-- SUPPLY_LOW (R96). -/
def execSupplyLow (s : State) : Result :=
  .next (s.atExpiry (s.toSupplyEvent false) State.supplyFell).settle

/-- SUPPLY_RESTORED (R96). -/
def execSupplyRestored (s : State) : Result :=
  .next (s.atExpiry (s.toSupplyEvent true) State.supplyRose).settle

end Sys2Proof.Machine
end

