-- ==== Sys2Proof/Machine/Boundary.lean ====
section
/-! DEFINITION. The end of an epoch and of a replay (01_site_timescale_and_epoch.md, 1.2 and 1.4): the decision on a pending step, the boundary proper with every block's work at it, and the commands END_OF_EPOCH and REPLAY_END. -/

namespace Sys2Proof.Machine

open Sys2Proof

/-- The local port's snapshot counts at a boundary proper (R193). -/
def State.snapshot (s : State) : State :=
  if !s.begun then s
  else if 0 < s.port.snapSkip then { s with port.snapSkip := s.port.snapSkip - 1 }
  else if s.cfg.snapPostscaler ≤ s.port.snapPost + 1 then
    { s with port.snapPost := 0 }.postInt .port .snapshot none (reportBound s.solver.bound)
  else { s with port.snapPost := s.port.snapPost + 1 }

/-- An own-window edge of ID 0 whose low period ended before its set opened is confirmed at the opening
(R49, R50, log entry 12). -/
def State.reportEarly (s : State) : State :=
  if s.mark.earlyOwn = EarlyOwn.ended then
    { s with mark := { s.mark with earlyOwn := .none, evidence := ⟨true, []⟩ } }.report .otherEdge
  else s

/-- The mark unit's work at a boundary proper (R43 to R45, R49). -/
def State.markBoundary (forward : Bool) (s : State) : State :=
  { s with mark := s.mark.boundary s.mem.state.mode s.ts.epoch forward }.reportEarly

/-- What a forward step brings at the jump (R12): the end of the mark region is raised where it is passed,
and a frame whose range the jump opens may start (log entry 17). -/
def State.afterJump (forward : Option Nat) (s : State) : State :=
  match forward with
  | none => s
  | some p => if ns 1000000 < p then s.endOfMark else s.tryStart

/-- The boundary proper (R5), with every block's work at it (log entry 21): `step` is the step applied within
it or at the end of the replay it closes, `forward` the forward step, `discarded` whether a pending step
was discarded. -/
def State.boundaryProper (step : Option Int) (forward : Option Nat) (discarded : Bool) (s : State) : State :=
  let ev := s.ts.eventOf step discarded
  let s := { s with ts := s.ts.openEpoch forward step.isSome
                    ref.tally := fold (s.ref.tally + ((forward.getD 0 : Nat) : Int)) }
  let s := (s.memberBoundary ev).rosterBoundary ev
  let s := s.markBoundary forward.isSome
  let s := s.genBoundary forward.isSome ev.deltaA ev.deltaB
  s.snapshot.afterJump forward

/-- The decision on a pending step at the end of the epoch (R4). -/
def State.decideStep (s : State) : State :=
  match s.ts.pendStep with
  | none => s.boundaryProper none none false
  | some x =>
    if s.solver.timeValid then { s with ts.pendStep := none }.boundaryProper none none true
    else if 0 ≤ x then { s with ts.pendStep := none }.boundaryProper (some x) (some x.toNat) false
    else s.startReplay x

/-- END_OF_EPOCH (R4). -/
def execEndOfEpoch (s : State) : Result :=
  if s.running && !s.ts.replay then .next s.runToEnd.decideStep.settle else .next s

/-- REPLAY_END (R13): the boundary proper follows, the step having been applied at the start of the replay. -/
def execReplayEnd (s : State) : Result :=
  if s.running && s.ts.replay then
    .next (s.runToEnd.boundaryProper (some ((s.ts.base : Int) - 16000000000)) none false).settle
  else .next s

end Sys2Proof.Machine
end

