-- ==== Sys2Proof/Machine/MarkLine.lean ====
section
/-! DEFINITION. The commands of the MARK line (03_the_mark_train.md): SLOT_TIME, MARK_RELEASE, HELD_LOW_TEST, MARK_FALL, MARK_EDGE_ACCEPT, MARK_RISE, MARK_STUCK, MARK_RECOVERY. -/

namespace Sys2Proof.Machine

open Sys2Proof

/-- The slot time of ID k (R40): the node marks its own, in JOINING and MEMBER. In an epoch that a forward step
opened, a slot time not passed is raised (R6, R12) and marks, although R40 says that such an epoch carries no own
mark: the model's choice (log entry 38). -/
def State.slotTime (k : NodeId) (s : State) : State :=
  if k = s.mem.nodeId ∧ s.mem.state.active then s.assertMark else s

/-- SLOT_TIME (R6, R40, R48). -/
def execSlotTime (k : NodeId) (s : State) : Result := .next (s.atPoint (.slot k) (State.slotTime k))

/-- MARK_RELEASE (R40): the mark has lasted 8,000 ns. -/
def execMarkRelease (s : State) : Result :=
  .next (s.atExpiry s.mark.drive (fun s => { s with mark := s.mark.release }))

/-- HELD_LOW_TEST (R48, R49): 2,000 ns after the release. -/
def execHeldLowTest (s : State) : Result :=
  .next (s.atExpiry s.mark.heldWatch (fun s => { s with mark := s.mark.heldLowTest s.pins.mark }))

/-- MARK_FALL (R41): a fall made by another node; a line that is low already does not fall. -/
def execMarkFall (dt : Nat) (s : State) : Result :=
  let s := s.advance dt
  match s.pins.mark with
  | .high => .next s.markFalls
  | .low => .next s

/-- An accepted edge is handled by mode (R41, R42, R44); during a line fault it is passed over (R52). The
high-time measure stops at its fall (R42). -/
def State.acceptMark (c : MarkCandidate) (s : State) : State :=
  let s := { s with mark.candidate := none }
  if s.mark.fault then s
  else
    let s := { s with mark.highTime := none }
    match s.mem.state.mode with
    | .idle => s
    | .opened => { s with mem := s.mem.takeEdge c.stamp c.highBefore }
    | .windowed => if s.mark.isEcho c then s else s.attribute c

/-- The candidate held, accepted. -/
def State.acceptHeld (s : State) : State :=
  match s.mark.candidate with
  | some c => s.acceptMark c
  | none => s

/-- MARK_EDGE_ACCEPT (R41): MARK has stayed low for 2,000 ns. -/
def execMarkEdgeAccept (s : State) : Result :=
  .next (s.atExpiry (s.mark.candidate.map (fun c => ns 2000 - c.age)) State.acceptHeld).settle

/-- The candidate at a rise (R41): low for 2,000 ns or more it is accepted, else it is a glitch. -/
def State.candidateAtRise (s : State) : State :=
  match s.mark.candidate with
  | some c => if ns 2000 ≤ c.age then s.acceptMark c else { s with mark.candidate := none }
  | none => s

/-- The end of the low period of a kept own-window edge: confirmed where the line rose in time (R50). -/
def EarlyOwn.rise (low : Nat) : EarlyOwn → EarlyOwn
  | .none => .none
  | .lasting => if low < ns 1000000 then .ended else .none
  | .ended => .ended

/-- The timers at a rise that ends a low of `low` (R42, R48, R51, R53). The high-time measure restarts
unless the low was a glitch, and does not run during a line fault (R51). -/
def MarkUnit.rise (low : Nat) (m : MarkUnit) : MarkUnit :=
  { m with lowTimer := none
           heldWatch := none
           earlyOwn := m.earlyOwn.rise low
           recovery := if m.fault then some 0 else none
           highTime := if m.fault then none
             else if ns 2000 ≤ low ∨ m.highTime = none then some 0 else m.highTime }

/-- Pending evidence at the end of its low period (R50): confirmed where the line rose in time. Which of
several pieces comes first is free (log entry 4); a set reports once. -/
def State.confirmEvidence (s : State) : State :=
  match s.mark.evidence.pending with
  | [] => s
  | c :: cs =>
    if s.mark.evidence.reported then { s with mark.evidence := ⟨true, []⟩ }
    else
      let (cause, s) := s.choose c cs
      { s with mark.evidence := ⟨true, []⟩ }.report cause

/-- The end of a low period of MARK (R41, R42, R48 to R51, R53). -/
def State.markRises (s : State) : State :=
  let s := s.candidateAtRise
  let low := s.mark.lowTimer.getD 0
  let s := { s with pins.mark := .high, mark := s.mark.rise low }
  if low < ns 1000000 then s.confirmEvidence
  else { s with mark.evidence := { s.mark.evidence with pending := [] } }

/-- MARK_RISE (R41, R42, R50): no rise comes while the node itself pulls the line low. -/
def execMarkRise (dt : Nat) (s : State) : Result :=
  let s := s.advance dt
  match s.pins.mark, s.mark.drive with
  | .low, none => if s.begun then .next s.markRises.settle else .next { s with pins.mark := .high }
  | _, _ => .next s

/-- A stuck MARK line is declared (R51). -/
def State.markStuck (s : State) : State :=
  if s.mark.fault then s
  else
    let s := { s with mark := s.mark.stuck }.postInt .mark .lineFault none 0
    if s.mem.state.listening then { s with mem := s.mem.captureSuspended } else s

/-- MARK_STUCK (R51): MARK has been low for 1,000,000 ns. -/
def execMarkStuck (s : State) : Result :=
  .next (s.atExpiry (toLimit (ns 1000000) s.mark.lowTimer) State.markStuck).settle

/-- MARK has recovered (R53). -/
def MarkUnit.recovered (m : MarkUnit) : MarkUnit :=
  { m with fault := false, recovery := none, highTime := some (ns 1000000) }

/-- MARK_RECOVERY (R53): MARK has been high for 1,000,000 ns with the line-fault flag set. -/
def execMarkRecovery (s : State) : Result :=
  .next (s.atExpiry (toLimit (ns 1000000) s.mark.recovery) (fun s => { s with mark := s.mark.recovered }))

end Sys2Proof.Machine
end

