-- ==== Sys2Proof/Machine/Flags.lean ====
section
/-! DEFINITION. The output pins and the flag bytes of the status, roster and event records: GEN0 to GEN3 (R163), TVALID (R174), ATTN (R191), the MARK and WORD drives (R40, R58), SDO (R177), and the flags of R199. -/

namespace Sys2Proof.Machine

open Sys2Proof

/-! ## Output pins -/

/-- The idle and active levels of a generator (R163). -/
def GenSettings.idleLevel (g : GenSettings) : Level := if g.inverted then .high else .low

def GenSettings.activeLevel (g : GenSettings) : Level := if g.inverted then .low else .high

/-- The held level, while a LOW or HIGH generator waits for valid time; and the inhibit level (R163). -/
def GenSettings.restLevel (g : GenSettings) : Level :=
  match g.invalid with
  | .high => .high
  | .low | .run => .low

/-- Whether a shown pulse is in progress (R163). -/
def Generator.shows (g : Generator) : Bool :=
  match g.pulse with
  | some p => p.shown
  | none => false

/-- The level on a generator pin (R163): the first line that applies. -/
def State.genLevel (i : Fin 4) (s : State) : Level :=
  let set := s.cfg.gens.get i
  if !s.begun then .low
  else if s.gen.inForce then set.restLevel
  else match (s.gen.gens.get i).run with
    | .disabled => set.idleLevel
    | .holding | .skipping => set.restLevel
    | .running => if (s.gen.gens.get i).shows then set.activeLevel else set.idleLevel

/-- The level on TVALID (R174). -/
def State.tvalid (s : State) : Level :=
  if s.begun && s.gen.timeValid && !s.gen.inForce then .high else .low

/-- The level on ATTN (R191): low, asserted, while the queue holds a record. -/
def State.attn (s : State) : Level := if s.port.queue.isEmpty then .high else .low

/-- Whether the part pulls MARK low (R40). -/
def State.drivesMark (s : State) : Bool := s.mark.drive.isSome

/-- Whether the part pulls WORD low (R58). -/
def State.drivesWord (s : State) : Bool := s.frame.txDriving

/-- Whether the part drives SDO (R177, R194): only within a transaction, and then only in a READ RESPONSE. A
READ_RESPONSE row stands for the bytes and the rise of CSN in one (log entry 6), so that `port.sdo` keeps what was
driven while SDO is released again. -/
def State.drivesSdo (s : State) : Bool := s.port.transaction.isSome && s.port.sdo.isSome

/-! ## Flag bytes (R199) -/

/-- The withdraw reasons: weight 1 COMMAND, 2 SUPPLY. -/
def Membership.reasonByte (m : Membership) : Nat := weight m.reasonCommand 1 + weight m.reasonSupply 2

/-- The flags of the status record. -/
def State.statusFlags (s : State) : Nat :=
  weight s.solver.overBudget 1 + weight s.solver.timeValid 2 + weight s.gen.inForce 4 +
    weight s.mem.supplyIsLow 8 + weight s.solver.lastE.isSome 16 + weight s.temp.mean.isSome 32

/-- The flags of an entry in the roster record. -/
def Entry.flags (e : Entry) : Nat :=
  weight e.declared.isSome 1 + weight e.delay.isSome 2 + weight e.mismatchPosted 4 +
    weight ((e.declared.map (·.overBudget)).getD false) 8

/-- The frame received flag as reported. -/
def Received.code : Received → Nat
  | .none => 0
  | .census => 1
  | .join => 2
  | .mismatched => 3

/-- The this-epoch flags of an entry in the roster record. -/
def Entry.epochFlags (e : Entry) : Nat := e.received.code + weight e.marked 4 + weight e.sampled 8

/-- The flags of an event record. -/
def EventRecord.flags (r : EventRecord) : Nat := weight r.subject.isSome 1 + weight r.value.isSome 2

end Sys2Proof.Machine
end

