-- ==== Sys2Proof/Machine/Operands.lean ====
section
/-! DEFINITION. The operand forms of the local port (10_local_port.md, 11.3, 11.4): payload fields, their checks and clamps, and the settings, bins, counts and targets they carry. -/

namespace Sys2Proof.Machine

open Sys2Proof

/-! ## Fields (R177, R180, R182) -/

/-- A field of a payload: its width in bytes, and its check, which answers the value as accepted or none
where the field is refused. A check may read the values accepted before it, newest first. -/
structure FieldSpec where
  width : Nat
  check : List Nat → Nat → Option Nat

/-- What a payload comes to: the index of the lowest field refused, or the values accepted in order. -/
inductive Parsed where
  | refused (field : Nat)
  | accepted (values : List Nat)
  deriving DecidableEq, Repr

/-- The fields of a payload from index `i` on, in order; a field not received whole is refused, and bytes
beyond the last field are ignored (R177, R180). `acc` holds the values accepted before, newest first. -/
def parseFields : List FieldSpec → (i : Nat) → (acc : List Nat) → List Byte → Parsed
  | [], _, acc, _ => .accepted acc.reverse
  | f :: fs, i, acc, bytes =>
    if bytes.length < f.width then .refused i
    else match f.check acc (natBE (bytes.take f.width)) with
      | none => .refused i
      | some v => parseFields fs (i + 1) (v :: acc) (bytes.drop f.width)

/-- A code field: refused unless it holds one of the codes 0 to `n` − 1 (R182). -/
def codeField (n : Nat) : FieldSpec := ⟨1, fun _ v => if v < n then some v else none⟩

/-- A numeric field, clamped to its range (R182). -/
def clampField (width lo hi : Nat) : FieldSpec := ⟨width, fun _ v => some (max lo (min hi v))⟩

/-- A mask or count that holds any value it can carry (R182). -/
def anyField (width : Nat) : FieldSpec := ⟨width, fun _ v => some v⟩

/-- A four-byte pattern as a signed number. -/
def signedOf (v : Nat) : Int := (BitVec.ofNat 32 v).toInt

/-- A signed number as a four-byte pattern. -/
def patternOf (x : Int) : Nat := (BitVec.ofInt 32 x).toNat

/-! ## The configuration record (R182, R183, R198) -/

/-- Field 21: clamped, then refused if not above field 20 (R182). -/
def supplyHighField : FieldSpec :=
  ⟨2, fun acc v => if acc.headD 0 < min 3300 v then some (min 3300 v) else none⟩

/-- The node's fields, indices 1 to 25 (R182, R198). -/
def nodeFields : List FieldSpec :=
  [codeField 2, codeField 2, codeField 4, codeField 2, clampField 1 4 64, clampField 1 1 16,
    clampField 1 1 100, ⟨4, fun _ v => some (patternOf (clampInt (-100000) 100000 (signedOf v)))⟩,
    codeField 4, clampField 2 1 2000, clampField 2 1 2000, clampField 2 1 2000, clampField 2 50 5000,
    clampField 2 1000 20000, clampField 2 20 1000, clampField 2 200 20000, clampField 2 0 1000,
    clampField 1 4 64, anyField 2, clampField 2 0 3300, supplyHighField, clampField 1 1 16,
    codeField 2, clampField 1 1 16, anyField 1]

/-- A generator's fields (R183, R198); the phase offset and the width are judged against the period. -/
def genFields : List FieldSpec :=
  [codeField 2,
    ⟨4, fun _ v => if 1 ≤ v ∧ v ≤ 1000000 ∧ 1000000 % v = 0 then some v else none⟩,
    ⟨4, fun acc v => if v < 1000 * acc.headD 0 then some v else none⟩,
    ⟨4, fun acc v => some (max 50 (min (1000 * acc.getD 1 0 - 50) v))⟩,
    codeField 2, codeField 2, codeField 3, codeField 16]

/-- Every field of the record, indices 1 to 57. -/
def setupFields : List FieldSpec := nodeFields ++ genFields ++ genFields ++ genFields ++ genFields

/-- The settings of the generator whose eight values start at `at_` (R183, R198). -/
def genSettingsOf (vs : List Nat) (at_ : Nat) : GenSettings :=
  let v := fun i => vs.getD (at_ + i) 0
  { enable := v 0 == 1, period := v 1, offset := v 2, width := v 3, inverted := v 4 == 1
    group := if v 5 = 1 then .b else .a
    invalid := if v 6 = 1 then .high else if v 6 = 2 then .run else .low
    skip := v 7 }

/-- The debounce a code names (R198). -/
def Debounce.ofCode (v : Nat) : Debounce :=
  if v = 1 then .ns100 else if v = 2 then .us1 else if v = 3 then .us10 else .none

/-- The settings that 57 accepted values stand for (R182, R183, R198). -/
def settingsOf (vs : List Nat) : Settings :=
  let v := fun i => vs.getD (i - 1) 0
  { refFitted := v 1 == 1, edgeFalling := v 2 == 1, debounce := .ofCode (v 3), useRefvalid := v 4 == 1
    qualCount := v 5, missLimit := v 6, halfWidth := v 7, refOffset := signedOf (v 8)
    cls := Fin.ofNat 4 (v 9), slewAnchor := v 10, slewBorrow := v 11, slewCoast := v 12
    dispute := v 13, stepLimit := v 14, lockLimit := v 15, budget := v 16, refUncertainty := v 17
    firstMember := v 18, admission := BitVec.ofNat 16 (v 19), supplyLow := v 20, supplyHigh := v 21
    supplyDebounce := v 22, inhibitMode := if v 23 = 1 then .follow else .latched
    snapPostscaler := v 24, snapSkip := v 25
    gens := ⟨genSettingsOf vs 25, genSettingsOf vs 33, genSettingsOf vs 41, genSettingsOf vs 49⟩ }

/-- Values laid out in their fields' widths: the accepted record as it is echoed (R181, R198). -/
def layOut : List FieldSpec → List Nat → List Byte
  | f :: fs, v :: vs => bytesBE f.width v ++ layOut fs vs
  | _, _ => []

/-! ## Other payloads (R184, R186, R188, R192) -/

/-- The page field: 0 to 4 (R184). -/
def pageField : FieldSpec := codeField 5

/-- A bin: its value within ±100,000,000 ppt, then its count (R184, R198). -/
def binField : FieldSpec :=
  ⟨5, fun _ v => if -100000000 ≤ signedOf (v / 256) ∧ signedOf (v / 256) ≤ 100000000 then some v else none⟩

/-- A table page: the page and its 16 bins (R184). -/
def tablePageFields : List FieldSpec := pageField :: List.replicate 16 binField

/-- The bin that a field's value stands for. -/
def binOfValue (v : Nat) : TempBin := ⟨signedOf (v / 256), v % 256⟩

/-- The bins of a page replaced, from bin `i` on (R159). -/
def loadBins (table : Vector TempBin 80) : (i : Nat) → List Nat → Vector TempBin 80
  | _, [] => table
  | i, v :: vs => loadBins (table.setIfInBounds i (binOfValue v)) (i + 1) vs

/-- EVENTS: a count of 1 to 8 (R192). -/
def countField : FieldSpec := ⟨1, fun _ v => if 1 ≤ v ∧ v ≤ 8 then some v else none⟩

/-- TRIM GROUP: a group, and a target of −1,000,000 to +1,000,000 ns (R188). -/
def trimFields : List FieldSpec :=
  [codeField 2,
    ⟨4, fun _ v => if -1000000 ≤ signedOf v ∧ signedOf v ≤ 1000000 then some v else none⟩]

end Sys2Proof.Machine
end

