-- ==== Sys2Proof/Machine/Port.lean ====
section
/-! DEFINITION. The local port (10_local_port.md, 11.3, 11.5): the records it returns, and the commands of the port. -/

namespace Sys2Proof.Machine

open Sys2Proof

/-! ## Codes (R189, R197, R199) -/

/-- Result codes (R197). -/
def ResultCode.byte : ResultCode → Byte
  | .ok => 0xA0
  | .refusedState => 0xA1
  | .refusedValue => 0xA2
  | .unknown => 0xA3

/-- What a READ RESPONSE reads while the slot is PENDING, and while it is EMPTY (R197). -/
def busyByte : Byte := 0xB0

def emptyByte : Byte := 0xB1

/-- Reference states as reported (R199). -/
def RefState.code : RefState → Nat
  | .absent => 0
  | .probation => 1
  | .qualified => 2
  | .disputed => 3

/-- Prediction sources as reported (R199). -/
def PredSource.code : PredSource → Nat
  | .bin => 0
  | .neighbour => 1
  | .frozen => 2

/-- Entry states as reported (R199). -/
def EntryState.code : EntryState → Nat
  | .heard => 0
  | .admitted => 1
  | .suspect => 2

/-- Suspect causes as reported (R199): 0 CENSUS_MISS, 1 MARK_MISS, 2 DEVIATION, FF absent. -/
def suspectByte : Option SuspectCause → Nat
  | some .censusMiss => 0
  | some .markMiss => 1
  | some .deviation => 2
  | none => 255

/-- Event kinds, numbered from 1 in the order of R189 (R199). -/
def EventKind.code : EventKind → Nat
  | .refQualified => 1
  | .refLost => 2
  | .refStep => 3
  | .refDisputed => 4
  | .refUndisputed => 5
  | .stateChange => 6
  | .overBudget => 7
  | .selfExcluded => 8
  | .anchorSplit => 9
  | .peerAdmitted => 10
  | .peerSuspect => 11
  | .peerRestored => 12
  | .peerRemoved => 13
  | .rosterFull => 14
  | .rosterMismatch => 15
  | .membershipChange => 16
  | .ensembleFar => 17
  | .joinTimeout => 18
  | .conflict => 19
  | .epochAdopted => 20
  | .censusUnsent => 21
  | .frameError => 22
  | .strayMark => 23
  | .lineFault => 24
  | .supplyLow => 25
  | .supplyRestored => 26
  | .tempRange => 27
  | .inhibit => 28
  | .snapshot => 29

/-! ## Records (R186, R199) -/

/-- The bin of T, clamped where T is out of range; 0 where T is absent (log entry 25). -/
def TempUnit.binByte (t : TempUnit) : Nat :=
  match t.mean with
  | some x => binOf x
  | none => 0

/-- The status record (R186, R199). -/
def State.statusRecord (s : State) : List Byte :=
  bytesBE 1 s.mem.state.code ++ bytesBE 1 s.mem.reasonByte ++ bytesBE 1 s.solver.timing.code ++
  bytesBE 1 ((s.solver.target.map (fun t => t.state.code)).getD 255) ++ bytesBE 1 s.ref.state.code ++
  bytesBE 1 s.statusFlags ++ bytesBE 4 s.ts.epoch.toNat ++
  bytesBE 4 (signed32 (toNs (s.solver.lastE.getD 0))).toNat ++ bytesS32 s.ts.f ++
  bytesBE 2 (reportBound s.solver.bound) ++ bytesBE 2 (BitVec.ofInt 16 (s.temp.mean.getD 0)).toNat ++
  bytesBE 1 s.temp.binByte ++ bytesBE 1 s.temp.predict.2.code ++
  bytesBE 2 s.mark.strayCount ++ bytesBE 2 s.mark.contestedCount ++
  bytesBE 2 s.frame.crcErrors ++ bytesBE 2 s.frame.formatErrors ++ bytesBE 2 s.frame.truncatedErrors ++
  bytesBE 2 s.frame.epochErrors ++ bytesBE 2 s.frame.unsent ++
  bytesBE 1 s.port.queue.length ++ bytesBE 1 s.port.lost ++
  bytesS32 s.ts.groupA.current ++ bytesS32 s.ts.groupA.target ++
  bytesS32 s.ts.groupB.current ++ bytesS32 s.ts.groupB.target

/-- The newest sample of an entry's ring; 0 in every field where the ring is empty (R199). -/
def Entry.newestBytes (e : Entry) : List Byte :=
  match e.ring.getLast? with
  | some x =>
    bytesBE 4 x.epoch.toNat ++ bytesS32 x.offset ++
      bytesBE 1 (match x.kind with | .twoWay => 0 | .oneWay => 1)
  | none => List.replicate 9 0

/-- The declared CENSUS fields of an entry; 0 where absent (R196, R199). -/
def Entry.declaredBytes (e : Entry) : List Byte :=
  match e.declared with
  | some d => bytesBE 1 d.timing.code ++ bytesBE 2 d.bound ++ bytesBE 2 d.mask.toNat
  | none => List.replicate 5 0

/-- An entry of the roster record (R118, R199). -/
def Entry.bytes (e : Entry) : List Byte :=
  bytesBE 1 e.id.val ++ bytesBE 1 e.state.code ++ bytesBE 1 (suspectByte e.cause) ++
  bytesBE 1 e.goodRun ++ bytesBE 1 e.censusMiss ++ bytesBE 1 e.markMiss ++ bytesBE 1 e.deviation ++
  bytesBE 1 e.restore ++ bytesBE 1 e.mismatch ++ bytesBE 1 e.cls.val ++ bytesBE 1 e.flags ++
  e.declaredBytes ++ bytesBE 4 e.lastEpoch.toNat ++ bytesS32 (e.delay.getD 0) ++
  bytesBE 1 e.ring.length ++ e.newestBytes ++ bytesBE 1 e.epochFlags

/-- The roster record (R118, R199). -/
def Roster.record (r : Roster) : List Byte :=
  bytesBE 2 r.ownMask.toNat ++ bytesBE 1 r.entries.length ++ r.entries.flatMap Entry.bytes

/-- A bin in a table page (R198). -/
def TempBin.bytes (b : TempBin) : List Byte := bytesS32 b.value ++ bytesBE 1 b.count

/-- `n` bins from bin `i` on. -/
def TempUnit.binBytes (t : TempUnit) : (n i : Nat) → List Byte
  | 0, _ => []
  | n + 1, i => (t.bin i).bytes ++ t.binBytes n (i + 1)

/-- A table page: its number and its 16 bins (R158, R198). -/
def TempUnit.page (t : TempUnit) (p : Nat) : List Byte := bytesBE 1 p ++ t.binBytes 16 (16 * p)

/-- An event record (R199). A subject or value that is absent reads 0 (R196). -/
def EventRecord.bytes (r : EventRecord) : List Byte :=
  bytesBE 2 r.seq.toNat ++ bytesBE 4 r.epoch.toNat ++ bytesBE 1 r.kind.code ++ bytesBE 1 r.flags ++
  bytesBE 1 ((r.subject.map (·.val)).getD 0) ++ bytesBE 4 ((r.value.map (·.toNat)).getD 0)

/-- A response as it is clocked out (R179, R197). -/
def Response.bytes (r : Response) : List Byte :=
  r.code.byte :: (bytesBE 1 r.field ++ bytesBE 2 r.payload.length ++ r.payload)

/-- The first `n` bytes that a READ RESPONSE clocks out, by the slot as it stood at the fall of CSN (R179). -/
def Slot.clockOut (n : Nat) : Slot → List Byte
  | .empty => List.replicate n emptyByte
  | .pending _ => List.replicate n busyByte
  | .ready r => (r.bytes ++ List.replicate n 0).take n

/-! ## Transactions (R177 to R179) -/

/-- TRANSACTION_START (R177, R179): the fall of CSN fixes the slot condition that a READ RESPONSE reads. SDO stands
released. -/
def execTransactionStart (dt : Nat) (s : State) : Result :=
  let s := s.advance dt
  if s.pins.resetHeld || s.port.transaction.isSome then .next s
  else .next { s with port.transaction := some s.port.slot, port.sdo := none }

/-- SHORT_TRANSACTION (R177): fewer than 8 bits have no effect. -/
def execShortTransaction (dt _bits : Nat) (s : State) : Result := .next (s.atRise dt id)

/-- READ_RESPONSE (R177, R179): `count` bytes of the slot have been clocked out on SDO after the command byte. -/
def execReadResponse (dt count : Nat) (s : State) : Result :=
  match s.port.transaction with
  | some slot => .next (s.atRise dt (fun s => { s with port.sdo := some (slot.clockOut count) }))
  | none => .next (s.atRise dt id)

/-- A command refused for a field of its payload (R180). -/
def State.refuseField (command : Byte) (field : Nat) (s : State) : State :=
  s.respond command .refusedValue field []

/-- A command refused for the state of the part (R180). -/
def State.refuseState (command : Byte) (s : State) : State := s.respond command .refusedState 0 []

/-- A command carried out (R180). -/
def State.accept (command : Byte) (payload : List Byte) (s : State) : State :=
  s.respond command .ok 0 payload

/-- RESPONSE_COMPLETION (R178): the slot becomes READY. -/
def execResponseCompletion (dt : Nat) (s : State) : Result :=
  let s := s.advance dt
  match s.port.slot with
  | .pending r => .next { s with port.slot := .ready r }
  | .empty | .ready _ => .next s

/-- UNKNOWN_COMMAND (R177, R197): answered with UNKNOWN, and no other effect. A byte that names a command selects
that command and not this one (`Instr.ofTransaction`), so nothing happens (log entry 1). -/
def execUnknownCommand (dt : Nat) (code : Byte) (s : State) : Result :=
  if namesCommand code then .next s
  else .next (s.atRise dt (fun s => s.respond code .unknown 0 []))

/-! ## Configuration and the table (R181, R184, R186) -/

/-- SETUP taken (R181). -/
def State.setup (payload : List Byte) (s : State) : State :=
  if s.begun then s.refuseState 0x01
  else match parseFields setupFields 1 [] payload with
    | .refused i => s.refuseField 0x01 i
    | .accepted vs => { s with port.record := some (settingsOf vs) }.accept 0x01 (layOut setupFields vs)

/-- SETUP (R181). -/
def execSetup (dt : Nat) (payload : List Byte) (s : State) : Result := .next (s.atRise dt (State.setup payload))

/-- LOAD TABLE PAGE taken (R159, R184). -/
def State.loadPage (payload : List Byte) (s : State) : State :=
  if s.begun then s.refuseState 0x02
  else match parseFields tablePageFields 1 [] payload with
    | .refused i => s.refuseField 0x02 i
    | .accepted vs =>
      { s with temp.table := loadBins s.temp.table (16 * vs.headD 0) vs.tail }.accept 0x02 []

/-- LOAD_TABLE_PAGE (R184). -/
def execLoadTablePage (dt : Nat) (payload : List Byte) (s : State) : Result :=
  .next (s.atRise dt (State.loadPage payload))

/-- TABLE PAGE taken (R158, R186). -/
def State.readPage (payload : List Byte) (s : State) : State :=
  match parseFields [pageField] 1 [] payload with
  | .refused i => s.refuseField 0x06 i
  | .accepted vs => s.accept 0x06 (s.temp.page (vs.headD 0))

/-- TABLE_PAGE (R158, R186). -/
def execTablePage (dt : Nat) (payload : List Byte) (s : State) : Result :=
  .next (s.atRise dt (State.readPage payload))

/-- STATUS (R186). -/
def execStatus (dt : Nat) (s : State) : Result := .next (s.atRise dt (fun s => s.accept 0x04 s.statusRecord))

/-- ROSTER (R186). -/
def execRoster (dt : Nat) (s : State) : Result := .next (s.atRise dt (fun s => s.accept 0x05 s.roster.record))

/-! ## BEGIN (R185) -/

/-- The units that BEGIN starts by the level of a line, and the port's snapshot counts (R42, R56, R57, R193). -/
def State.beginLines (s : State) : State :=
  { s with mark := s.mark.begin s.pins.mark
           frame := s.frame.begin s.pins.word
           port := { s.port with snapSkip := s.cfg.snapSkip, snapPost := 0 } }

/-- Every block takes up its work (R185). -/
def State.begin (s : State) : State := s.enterListen.beginLines.genBegin.tempBegin

/-- BEGIN taken or refused (R185). -/
def State.takeBegin (s : State) : State :=
  if s.begun || s.port.record.isNone then s.refuseState 0x03 else s.begin.accept 0x03 []

/-- BEGIN (R185). -/
def execBegin (dt : Nat) (s : State) : Result := .next (s.atRise dt State.takeBegin).settle

/-! ## Operational commands (R187, R188, R192) -/

/-- WITHDRAW taken or refused (R94, R187). -/
def State.withdraw (s : State) : State :=
  match s.mem.state with
  | .listen | .apart | .aligning | .joining | .member =>
    ({ s with mem.reasonCommand := true }.enterWithdrawn .command).accept 0x08 []
  | .unconfigured | .withdrawn | .conflict => s.refuseState 0x08

/-- WITHDRAW (R187). -/
def execWithdraw (dt : Nat) (s : State) : Result := .next (s.atRise dt State.withdraw).settle

/-- RESUME taken or refused (R94, R187). -/
def State.resume (s : State) : State :=
  if s.mem.state = .withdrawn ∧ s.mem.reasonCommand then
    ({ s with mem.reasonCommand := false }.reasonsChecked).accept 0x09 []
  else s.refuseState 0x09

/-- RESUME (R187). -/
def execResume (dt : Nat) (s : State) : Result := .next (s.atRise dt State.resume).settle

/-- The target of a group (R165). -/
def Timescale.setTarget (group : Nat) (target : Int) (t : Timescale) : Timescale :=
  if group = 0 then { t with groupA := { t.groupA with target := target } }
  else { t with groupB := { t.groupB with target := target } }

/-- TRIM GROUP taken or refused (R165, R188). -/
def State.trim (payload : List Byte) (s : State) : State :=
  if !s.begun then s.refuseState 0x0A
  else match parseFields trimFields 1 [] payload with
    | .refused i => s.refuseField 0x0A i
    | .accepted vs => { s with ts := s.ts.setTarget (vs.headD 0) (signedOf (vs.getD 1 0)) }.accept 0x0A []

/-- TRIM_GROUP (R165, R188). -/
def execTrimGroup (dt : Nat) (payload : List Byte) (s : State) : Result :=
  .next (s.atRise dt (State.trim payload))

/-- CLEAR INHIBIT taken or refused (R172, R188). -/
def State.clearInhibit (s : State) : State :=
  if s.begun ∧ s.gen.inForce ∧ s.cfg.inhibitMode = .latched ∧ s.gen.filtered = false then
    s.inhibitEnds.accept 0x0B []
  else s.refuseState 0x0B

/-- CLEAR_INHIBIT (R172, R188). -/
def execClearInhibit (dt : Nat) (s : State) : Result := .next (s.atRise dt State.clearInhibit).settle

/-- The payload of an EVENTS response: the lost count, the number of records, the records (R192, R199). -/
def eventsPayload (lost : Nat) (records : List EventRecord) : List Byte :=
  bytesBE 1 lost ++ bytesBE 1 records.length ++ records.flatMap EventRecord.bytes

/-- EVENTS taken or refused (R190, R192): the oldest records leave the queue, and the lost count is cleared. -/
def State.takeEvents (payload : List Byte) (s : State) : State :=
  match parseFields [countField] 1 [] payload with
  | .refused i => s.refuseField 0x07 i
  | .accepted vs =>
    let n := vs.headD 0
    let records := s.port.queue.take n
    { s with port := { s.port with queue := s.port.queue.drop n, lost := 0 } }.accept 0x07
      (eventsPayload s.port.lost records)

/-- EVENTS (R192). -/
def execEvents (dt : Nat) (payload : List Byte) (s : State) : Result :=
  .next (s.atRise dt (State.takeEvents payload))

end Sys2Proof.Machine
end

