-- ==== Sys2Proof/Machine/Reference.lean ====
section
/-! DEFINITION. The reference qualifier (02_reference_input_and_qualification.md): edges, captures, probation, prediction, misses, steps, disputes, the close of an interval, the five commands of the unit, and OSCIN_RETURN, at which the synchronised levels are taken. -/

namespace Sys2Proof.Machine

open Sys2Proof

/-- Whether the qualifier works: from BEGIN, with a reference fitted (R19). -/
def State.refWorks (s : State) : Bool := s.begun && s.cfg.refFitted

/-- The debounce time in 1/16 ns (R20). -/
def Debounce.ticks : Debounce → Nat
  | .none => 0
  | .ns100 => ns 100
  | .us1 => ns 1000
  | .us10 => ns 10000

/-- The difference of two offsets of one kind, folded (R23). -/
def foldedDiff (x y : Int) : Int := fold (x - y)

/-- The limit of agreement of second differences and of outliers, 1,000 ns (R26, R31). -/
def agreeLimit : Nat := ns 1000

/-- The second difference of three reduced offsets, oldest first, in magnitude (R26). -/
def secondDifference (u1 u2 u3 : Int) : Nat := (foldedDiff u3 u2 - foldedDiff u2 u1).natAbs

/-- Codes of the cause of REF_LOST (R37). -/
inductive LossCause where
  | misses
  | refvalid
  deriving DecidableEq, Repr

def LossCause.code : LossCause → Int
  | .misses => 0
  | .refvalid => 1

/-- A change of reference state, told to the solver at once (R24): one that takes the reference out of
QUALIFIED makes a solver that relies on it re-evaluate (R143). -/
def State.setRefState (new : RefState) (s : State) : State :=
  let old := s.ref.state
  let s := { s with ref.state := new }
  if old = .qualified ∧ new ≠ .qualified then s.reevaluate else s

/-- The reference is lost (R32, R36): ABSENT, ring and outlier list emptied, counts 0, REF_LOST. -/
def State.loseRef (cause : LossCause) (s : State) : State :=
  let s := { s with ref.ring := [], ref.outliers := [], ref.probCount := 0, ref.missCount := 0 }
  (s.postInt .qualifier .refLost none cause.code).setRefState .absent

/-- The reference becomes QUALIFIED at the edge whose offset is `r` (R28). -/
def State.qualify (r : Int) (s : State) : State :=
  let s := { s with ref.missCount := 0, ref.outliers := [] }
  (s.postInt .qualifier .refQualified none (toNs r)).setRefState .qualified

/-- The interval record with an edge accepted and its offset recorded. -/
def IntervalRecord.take (r : Int) (i : IntervalRecord) : IntervalRecord :=
  { i with accepted := true, offset := some r }

/-- An edge accepted in ABSENT (R25). -/
def State.startProbation (e : RefEntry) (s : State) : State :=
  ({ s with ref.ring := [e], ref.probCount := 1, ref.missCount := 0, ref.outliers := []
            ref.record := s.ref.record.take e.r }).setRefState .probation

/-- The probation count after the first edge of an interval, by the ring that holds it (R26). -/
def probationCount (ring : List RefEntry) (count : Nat) : Nat :=
  match ring.reverse with
  | e3 :: e2 :: e1 :: _ =>
    if secondDifference e1.u e2.u e3.u ≤ agreeLimit then satAdd 64 count 1 else 1
  | [_, _] => 2
  | _ => count

/-- An edge accepted in PROBATION (R26, R28). -/
def State.probationEdge (e : RefEntry) (s : State) : State :=
  let s' :=
    if s.ref.record.accepted then
      { s with ref.ring := s.ref.ring.dropLast ++ [e], ref.probCount := 1 }
    else
      let ring := appendBounded 16 s.ref.ring e
      { s with ref.ring := ring, ref.probCount := probationCount ring s.ref.probCount }
  let s' := { s' with ref.record := s'.ref.record.take e.r }
  if s.cfg.qualCount ≤ s'.ref.probCount then s'.qualify e.r else s'

/-- The rate d that two entries fix (R29). Two entries of one interval fix none: R29 divides by the difference of
their indices. -/
def rateOf (newest before : RefEntry) : Option Int :=
  if newest.index = before.index then none
  else some (Int.tdiv (foldedDiff newest.u before.u) ((newest.index - before.index).toNat : Int))

/-- The predicted reduced offset of the interval `n`, by the newest entry and the rate (R29). -/
def predictOffset (newest : RefEntry) (rate : Int) (n : Epoch) : Int :=
  fold (newest.u + ((n - newest.index).toNat : Int) * rate)

/-- The prediction for the interval in progress (R29). Where the two newest entries fix no rate, the rate is a free
value (log entry 32). -/
def State.predict (s : State) : Option Int × State :=
  match s.ref.ring.reverse with
  | e1 :: e0 :: _ =>
    match rateOf e1 e0 with
    | some rate => (some (predictOffset e1 rate s.ref.interval), s)
    | none =>
      let (n, s) := s.freeNat
      (some (predictOffset e1 (fold n) s.ref.interval), s)
  | _ => (none, s)

/-- Whether a reduced offset lies in the window around a prediction (R29). -/
def Settings.inWindow (cfg : Settings) (u : Int) (prediction : Option Int) : Bool :=
  match prediction with
  | some p => decide ((foldedDiff u p).natAbs ≤ ns (1000 * cfg.halfWidth))
  | none => false

/-- An edge taken in the window (R30). -/
def State.takePulse (e : RefEntry) (s : State) : State :=
  { s with ref.ring := appendBounded 16 s.ref.ring e, ref.missCount := 0, ref.outliers := []
           ref.record := s.ref.record.take e.r }

/-- An outlier placed in the list: it replaces one of its own interval (R31). -/
def placeOutlier (xs : List RefEntry) (e : RefEntry) : List RefEntry :=
  match xs.getLast? with
  | some last => if last.index = e.index then xs.dropLast ++ [e] else appendBounded 3 xs e
  | none => [e]

/-- Whether two reduced offsets agree within 1,000 ns (R31). -/
def agrees (x y : RefEntry) : Bool := decide ((foldedDiff x.u y.u).natAbs ≤ agreeLimit)

/-- Three outliers that agree in pairs (R31). -/
def threeAgree : List RefEntry → Option (RefEntry × RefEntry × RefEntry)
  | [a, b, c] => if agrees a b && agrees b c && agrees a c then some (a, b, c) else none
  | _ => none

/-- The reference has stepped (R33): probation seeded with the three outliers. -/
def State.refStepped (a b c : RefEntry) (s : State) : State :=
  let count := if secondDifference a.u b.u c.u ≤ agreeLimit then 3 else 1
  let s := { s with ref.ring := [a, b, c], ref.probCount := count, ref.missCount := 0
                    ref.outliers := [], ref.record := s.ref.record.take c.r }
  (s.postInt .qualifier .refStep none (toNs c.r)).setRefState .probation

/-- An outlier (R31). -/
def State.takeOutlier (e : RefEntry) (s : State) : State :=
  let outliers := placeOutlier s.ref.outliers e
  let s := { s with ref.missCount := satAdd 16 s.ref.missCount 1
                    ref.outliers := outliers
                    ref.record := { s.ref.record with accepted := true, outlierSeen := true } }
  match threeAgree outliers with
  | some (a, b, c) => s.refStepped a b c
  | none => if s.cfg.missLimit ≤ s.ref.missCount then s.loseRef .misses else s

/-- An edge accepted in QUALIFIED or DISPUTED (R29 to R31). -/
def State.trackEdge (e : RefEntry) (s : State) : State :=
  let (prediction, s) := s.predict
  if s.cfg.inWindow e.u prediction then s.takePulse e else s.takeOutlier e

/-- An accepted edge, offered to the rule of the reference state (R23 to R31). -/
def State.takeEdge (e : RefEntry) (s : State) : State :=
  match s.ref.state with
  | .absent => s.startProbation e
  | .probation => s.probationEdge e
  | .qualified | .disputed => s.trackEdge e

/-- The offsets of an accepted edge (R23). -/
def State.capture (c : RefCandidate) (s : State) : RefEntry :=
  let r := fold (fold c.stamp.phase - 16 * s.cfg.refOffset)
  { index := s.ref.interval, r := r, u := fold (r - c.tally) }

/-- The debounce time of the candidate has ended (R20, R25): in ABSENT, where REFVALID is used, the edge
is accepted only with REFVALID asserted; an accepted edge starts the blanking timer, counted from its
transition (R21). -/
def State.acceptEdge (c : RefCandidate) (s : State) : State :=
  let s := { s with ref.candidate := none }
  if decide (s.ref.state = .absent) && s.cfg.useRefvalid && !s.pins.refvalid then s
  else
    let s := { s with ref.blanking := some (ns 500000000 - c.age) }
    s.takeEdge (s.capture c)

/-- Whether a selected transition is blanked (R21). -/
def RefUnit.blanked (r : RefUnit) : Bool :=
  match r.blanking with
  | some n => decide (0 < n)
  | none => false

/-! ## The close of an interval (R24) -/

/-- The result handed to the solver (R24). -/
structure IntervalResult where
  state : RefState
  offset : Option Int
  deriving DecidableEq, Repr

/-- The interval-close rule of QUALIFIED and DISPUTED (R32). -/
def State.closeTracked (s : State) : State :=
  let s := { s with ref.missCount := if s.ref.record.accepted then s.ref.missCount else satAdd 16 s.ref.missCount 1
                    ref.outliers := if s.ref.record.outlierSeen then s.ref.outliers else [] }
  if s.cfg.missLimit ≤ s.ref.missCount then s.loseRef .misses else s

/-- The interval-close rule of the reference state (R27, R32). -/
def State.closeByState (s : State) : State :=
  match s.ref.state with
  | .absent => s
  | .probation =>
    if s.ref.record.accepted then s
    else ({ s with ref.probCount := 0, ref.ring := [] }).setRefState .absent
  | .qualified | .disputed => s.closeTracked

/-- The interval's result (R24): ABSENT hands no offset. -/
def RefUnit.result (r : RefUnit) : IntervalResult :=
  ⟨r.state, if r.state = .absent then none else r.record.offset⟩

/-- The close of the reference interval (R24). -/
def State.closeInterval (s : State) : IntervalResult × State :=
  let s := s.closeByState
  (s.ref.result, { s with ref.interval := s.ref.interval + 1, ref.record := ⟨false, false, none⟩ })

/-! ## Disputes (R34, R35) -/

/-- A request for DISPUTED (R34): taken when the reference is QUALIFIED, refused otherwise. The solver
that asks goes on by the state it finds, so no re-evaluation between solves takes place (R143). -/
def State.requestDisputed (s : State) : State :=
  if s.ref.state = .qualified then { s with ref.state := .disputed }.post .qualifier .refDisputed none none
  else s

/-- A request to end the dispute (R35): taken when the reference is DISPUTED, ignored otherwise. -/
def State.requestUndisputed (s : State) : State :=
  if s.ref.state = .disputed then { s with ref.state := .qualified }.post .qualifier .refUndisputed none none
  else s

/-! ## The commands -/

/-- A transition of REFIN in the selected direction becomes the candidate, unless blanked or one is held;
with a debounce of 0 it is accepted at once (R20, R21). -/
def State.selectedTransition (s : State) : State :=
  if s.ref.blanked || s.ref.candidate.isSome then s
  else
    let c : RefCandidate := ⟨s.stampNow, s.tallyNow, 0⟩
    if s.cfg.debounce = .none then s.acceptEdge c else { s with ref.candidate := some c }

/-- Whether a level is the one that the selected edge leads to (R20). -/
def Settings.selects (cfg : Settings) (level : Level) : Bool :=
  match level with
  | .high => !cfg.edgeFalling
  | .low => cfg.edgeFalling

/-- The synchronised level of REFIN becomes `level` (R19, R20): a transition to the level it already has is none. -/
def State.refinTaken (level : Level) (s : State) : State :=
  if s.pins.refin = level then s
  else
    let s := { s with pins.refin := level }
    if !s.refWorks then s
    else if s.cfg.selects level then s.selectedTransition
    else { s with ref.candidate := none }

/-- REFIN_TRANSITION (R19, R20). While OSCIN stands still the pin alone changes (log entry 8). -/
def execRefinTransition (dt : Nat) (rising : Bool) (s : State) : Result :=
  let level : Level := if rising then .high else .low
  let s := { s.advance dt with pins.refinPin := level }
  .next (if s.pins.oscRunning then s.refinTaken level else s).settle

/-- Debounce time remaining to the candidate (R20). -/
def State.toAcceptance (s : State) : Option Nat :=
  s.ref.candidate.map (fun c => s.cfg.debounce.ticks - c.age)

/-- The candidate held at the end of its debounce time is accepted (R20). -/
def State.candidateAccepted (s : State) : State :=
  match s.ref.candidate with
  | some c => s.acceptEdge c
  | none => s

/-- REFIN_EDGE_ACCEPTED (R20): the level set by the candidate has held for the debounce time. -/
def execRefinEdgeAccepted (s : State) : Result :=
  .next (s.atExpiry s.toAcceptance State.candidateAccepted).settle

/-- BLANKING_END (R21): the blanking timer returns to idle. -/
def execBlankingEnd (s : State) : Result :=
  .next (s.atExpiry s.ref.blanking (fun s => { s with ref.blanking := none }))

/-- Deassertion of REFVALID where it is used (R36). -/
def State.refvalidLost (s : State) : State :=
  if s.ref.state = .absent then s
  else ({ s with ref.record := { s.ref.record with offset := none } }).loseRef .refvalid

/-- The synchronised level of REFVALID becomes `asserted` (R19, R36): an assertion has no effect of its own. -/
def State.refvalidTaken (asserted : Bool) (s : State) : State :=
  if s.pins.refvalid = asserted then s
  else
    let s := { s with pins.refvalid := asserted }
    if !asserted && s.refWorks && s.cfg.useRefvalid then s.refvalidLost else s

/-- REFVALID changes at its pin. While OSCIN stands still the pin alone changes (R19, log entry 8). -/
def State.refvalidPinBecomes (dt : Nat) (asserted : Bool) (s : State) : State :=
  let s := { s.advance dt with pins.refvalidPin := asserted }
  if s.pins.oscRunning then s.refvalidTaken asserted else s

/-- REFVALID_DEASSERT (R36). -/
def execRefvalidDeassert (dt : Nat) (s : State) : Result := .next (s.refvalidPinBecomes dt false).settle

/-- REFVALID_ASSERT (R36). -/
def execRefvalidAssert (dt : Nat) (s : State) : Result := .next (s.refvalidPinBecomes dt true).settle

/-! ## The return of the clock (R1, R19) -/

/-- The levels of REFIN and REFVALID that stand at the pins are taken. Where both have changed, either is taken
first, and the choice is free (R36, log entry 4). -/
def State.referenceTaken (s : State) : State :=
  let both := decide (s.pins.refin ≠ s.pins.refinPin) && decide (s.pins.refvalid ≠ s.pins.refvalidPin)
  let (refvalidFirst, s) := if both then s.choose false [true] else (false, s)
  if refvalidFirst then (s.refvalidTaken s.pins.refvalidPin).refinTaken s.pins.refinPin
  else (s.refinTaken s.pins.refinPin).refvalidTaken s.pins.refvalidPin

/-- OSCIN_RETURN (R1): the phase resumes from the value it held, and the gap is not made up. The inputs synchronised to
OSCIN are taken as they now stand (R19, R171). -/
def execOscinReturn (s : State) : Result :=
  let s := { s with pins.oscRunning := true }
  .next (s.inhibitTaken s.pins.inhibitPin).referenceTaken.settle

end Sys2Proof.Machine
end

