-- ==== Sys2Proof/Machine/Reset.lean ====
section
/-! DEFINITION. The commands POWER_ON_RESET, RESET_PIN and RESET_RELEASE (R18, R38, R56, R80, R81, R98, R119, R147, R161, R176, R194). -/

namespace Sys2Proof.Machine

open Sys2Proof

/-- The part at the assertion of a reset, with the temperature table it leaves: every block at its reset
values, the pins as the outside holds them, the reset held until its release. -/
def State.held (table : Vector TempBin 80) (s : State) : State :=
  { State.reset with pins := { s.pins with resetHeld := true }
                     temp := TempUnit.reset table
                     freeCount := s.freeCount
                     pending := s.pending }

/-- POWER_ON_RESET (R161): the temperature table is cleared too. -/
def execPowerOnReset (s : State) : Result := .next (s.held TempUnit.clearTable)

/-- RESET_PIN (R18, R161): the temperature table is kept. -/
def execResetPin (s : State) : Result := .next (s.held s.temp.table)

/-- RESET_RELEASE (R18, R81): the straps are sampled, and epoch 0 begins at site phase 0 with slot time 0
raised at once. -/
def execResetRelease (straps : NodeId) (s : State) : Result :=
  if s.pins.resetHeld then
    .next { s with pins.resetHeld := false, mem.nodeId := straps, ts.raised := [.slot 0] }
  else .next s

end Sys2Proof.Machine
end

