-- ==== Sys2Proof/Machine/Solve.lean ====
section
/-! DEFINITION. The solve (07_ensemble_solution_and_timing_states.md, R122 to R142): sets, disputes, phase error, verdicts, steering, bound, hand-over, and the SOLVE_POINT command. -/

namespace Sys2Proof.Machine

open Sys2Proof

/-! ## Sets (R123, R124) -/

/-- A peer of the candidate set C (R123). -/
structure Peer where
  id : NodeId
  offset : Int
  weight : Nat
  /-- It stands in the anchored set A (R124). -/
  anchored : Bool
  cls : OscClass
  declared : Option Declared
  deriving DecidableEq, Repr

/-- The class weight (R123). -/
def classWeight (c : OscClass) : Nat := 2 ^ c.val

/-- The weight of a sample (R123). -/
def sampleWeight (kind : SampleKind) (c : OscClass) : Nat :=
  match kind with
  | .twoWay => 2 * classWeight c
  | .oneWay => classWeight c

/-- Whether an entry's peer is anchored (R124): a CENSUS this epoch that declared ANCHORED. -/
def Entry.anchored (e : Entry) : Bool :=
  decide (e.received = .census) && decide (e.declared.map (·.timing) = some .anchored)

/-- An entry as a peer of C: ADMITTED, with a sample made this epoch (R123). Of several samples made since the last
solve, one for each epoch number, the newest counts (the model's choice, log entry 34). -/
def Entry.candidate (e : Entry) : Option Peer :=
  if e.state = .admitted ∧ e.sampled then
    e.ring.getLast?.map (fun x => ⟨e.id, x.offset, sampleWeight x.kind e.cls, e.anchored, e.cls, e.declared⟩)
  else none

/-- What a solve works on (R122): the interval result's offset, and the sets. -/
structure SolveView where
  offset : Option Int
  /-- The peers of C; none while the node is not MEMBER (R123). -/
  peers : List Peer
  /-- The node is MEMBER, and so in C. -/
  member : Bool
  /-- The node stands in A (R124). -/
  ownAnchored : Bool
  deriving DecidableEq, Repr

/-- A without the node (R124). -/
def SolveView.anchors (v : SolveView) : List Peer := v.peers.filter (·.anchored)

/-- The sets formed from the roster's view (R123, R124). -/
def State.solveView (result : IntervalResult) (s : State) : SolveView :=
  let member := decide (s.mem.state = .member)
  { offset := result.offset
    peers := if member then s.roster.entries.filterMap Entry.candidate else []
    member := member
    ownAnchored := member && decide (s.solver.timing = .anchored) && decide (result.state = .qualified) }

/-- The IDs of a set: peers, and the node where it stands in it. -/
def idsOf (own : NodeId) (withOwn : Bool) (peers : List Peer) : List NodeId :=
  if withOwn then own :: peers.map (·.id) else peers.map (·.id)

/-- Steps 1 and 2 of the solve (R122): after a step the valid-time flag and the lock count are cleared; the
sets are recorded. -/
def State.solveOpens (v : SolveView) (s : State) : State :=
  let s := if s.ts.stepBegan then
      { s with solver := { s.solver with validTime := false, lockCount := 0 } }
    else s
  { s with solver := { s.solver with lastC := idsOf s.mem.nodeId v.member v.peers
                                     lastA := idsOf s.mem.nodeId v.ownAnchored v.anchors } }

/-! ## Disputes and the source (R125, R126, R140 to R142) -/

/-- The growth class and count of an entry to COASTING at this solve (R137). -/
def State.solveGrowth (v : SolveView) (s : State) : Growth :=
  growthOf v.member s.cfg.cls (v.peers.map (·.cls))

/-- The source priority and the transition rule, with the reference state as it stands (R125, R126). -/
def State.applySource (v : SolveView) (s : State) : State :=
  let source := sourceOf (decide (s.ref.state = .qualified)) v.member (!v.anchors.isEmpty) (!v.peers.isEmpty)
  s.transition none source (s.solveGrowth v)

/-- The dispute threshold in 1/16 ns. -/
def Settings.disputeTicks (cfg : Settings) : Nat := ns cfg.dispute

/-- Whether two values lie no more than the dispute threshold apart (R128, R130, R140 to R142). -/
def State.agreeWithin (s : State) (x y : Int) : Bool := decide ((x - y).natAbs ≤ s.cfg.disputeTicks)

/-- The end of a dispute is requested (R141). -/
def State.endDispute (s : State) : State :=
  { s with solver.undisputeCount := 0 }.requestUndisputed

/-- One more solve within the threshold; the eighth requests the end of the dispute (R141). -/
def State.countUndispute (s : State) : State :=
  let n := satAdd 8 s.solver.undisputeCount 1
  if 8 ≤ n then s.endDispute else { s with solver.undisputeCount := n }

/-- Step 3 of the solve (R141). -/
def State.judgeUndispute (v : SolveView) (s : State) : State :=
  if s.ref.state = .disputed then
    match v.anchors, v.offset with
    | [], _ => s.endDispute
    | _ :: _, some r =>
      if s.agreeWithin (-r) (lowerMedian (v.anchors.map (·.offset))) then s.countUndispute
      else { s with solver.undisputeCount := 0 }
    | _ :: _, none => s
  else { s with solver.undisputeCount := 0 }

/-- A dispute count of 4 requests DISPUTED, and the source priority is applied again on the answer (R140). -/
def State.dispute (v : SolveView) (s : State) : State :=
  ({ s with solver.disputeCount := 0 }.requestDisputed).applySource v

/-- The dispute rule of step 5 (R140). A solve without an offset at which A holds fewer than three members, or the
node stands outside A, sets the count to 0 (the model's choice, log entry 35). -/
def State.judgeDispute (v : SolveView) (s : State) : State :=
  if v.member ∧ v.ownAnchored ∧ 2 ≤ v.anchors.length then
    match v.offset with
    | none => s
    | some r =>
      if s.agreeWithin (-r) (lowerMedian (-r :: v.anchors.map (·.offset))) then
        { s with solver.disputeCount := 0 }
      else if 4 ≤ s.solver.disputeCount + 1 then s.dispute v
      else { s with solver.disputeCount := s.solver.disputeCount + 1 }
  else { s with solver.disputeCount := 0 }

/-- The pair of anchors that R142 judges: the one anchored peer, and the node's offset. -/
def SolveView.pair (v : SolveView) : Option (Peer × Int) :=
  match v.anchors, v.offset, v.ownAnchored with
  | [j], some r, true => some (j, r)
  | _, _, _ => none

/-- The split rule of step 5 (R142). -/
def State.judgeSplit (v : SolveView) (s : State) : State :=
  match v.pair with
  | none => { s with solver.split := false }
  | some (j, r) =>
    if s.agreeWithin (-r) j.offset then { s with solver.split := false }
    else if s.solver.split then s
    else { s with solver.split := true }.postInt .solver .anchorSplit (some j.id) (toNs (j.offset + r))

/-- Step 5 of the solve (R122, R140, R142). -/
def State.judgeAnchors (v : SolveView) (s : State) : State :=
  if s.solver.timing = .anchored then (s.judgeSplit v).judgeDispute v
  else { s with solver := { s.solver with disputeCount := 0, split := false } }

/-! ## Phase error (R127 to R130) -/

/-- A member of a mean: ID, offset, weight. -/
structure Weighed where
  id : NodeId
  offset : Int
  weight : Nat
  deriving DecidableEq, Repr

def Peer.weighed (p : Peer) : Weighed := ⟨p.id, p.offset, p.weight⟩

/-- The weighted mean, rounded toward zero (R128). -/
def weightedMean (xs : List Weighed) : Int :=
  Int.tdiv (sumInt (xs.map (fun x => (x.weight : Int) * x.offset))) (sumInt (xs.map (fun x => (x.weight : Int))))

/-- A solve's phase error and what the median test came to (R127 to R130). -/
structure PhaseError where
  e : Option Int
  /-- The members kept in the mean. -/
  kept : List NodeId
  /-- The members taken into a median test. -/
  judged : List NodeId
  /-- The reference point (R130). -/
  point : Option Int
  deriving DecidableEq, Repr

/-- e from a set of members (R128, R129): with three or more, the median test excludes each that lies beyond
the dispute threshold from the lower median. -/
def State.ensembleError (members : List Weighed) (s : State) : PhaseError :=
  if 3 ≤ members.length then
    let median := lowerMedian (members.map (·.offset))
    let kept := members.filter (fun x => s.agreeWithin x.offset median)
    ⟨some (-weightedMean kept), kept.map (·.id), members.map (·.id), some median⟩
  else ⟨some (-weightedMean members), members.map (·.id), [], some (weightedMean members)⟩

/-- The source a timing state steers to: its own, or its target's. -/
def Solver.steersTo (v : Solver) : Option Target :=
  match v.timing with
  | .anchored => some .anchored
  | .borrowing => some .borrowing
  | .coasting => some .coasting
  | .acquiring => v.target
  | .free | .alone => none

/-- The whole of C, the node with offset 0 (R123, R129). -/
def State.coastingMembers (v : SolveView) (s : State) : List Weighed :=
  if v.member then ⟨s.mem.nodeId, 0, 2 * classWeight s.cfg.cls⟩ :: v.peers.map Peer.weighed
  else v.peers.map Peer.weighed

/-- Step 6 of the solve: the phase error (R127 to R129). -/
def State.phaseError (v : SolveView) (s : State) : PhaseError :=
  match s.solver.steersTo with
  | some .anchored => ⟨v.offset, [], [], some 0⟩
  | some .borrowing => s.ensembleError (v.anchors.map Peer.weighed)
  | some .coasting => s.ensembleError (s.coastingMembers v)
  | none => ⟨none, [], [], none⟩

/-- The median that excluded the node itself at a coasting solve, where one did (R129). -/
def State.selfMedian (p : PhaseError) (s : State) : Option Int :=
  if s.solver.steersTo = some .coasting ∧ p.judged.contains s.mem.nodeId ∧ !p.kept.contains s.mem.nodeId then p.point
  else none

/-- The self-excluded flag (R129). -/
def State.judgeSelf (p : PhaseError) (s : State) : State :=
  match s.selfMedian p with
  | none => { s with solver.selfExcluded := false }
  | some median =>
    if s.solver.selfExcluded then s
    else { s with solver.selfExcluded := true }.postInt .solver .selfExcluded none (toNs (-median))

/-- The verdict on an entry of the view (R130). -/
def State.verdict (p : PhaseError) (s : State) (e : Entry) : Verdict :=
  if p.judged.contains e.id then (if p.kept.contains e.id then .included else .excluded)
  else match p.point, e.ring.getLast? with
    | some point, some x =>
      if e.deviant && e.sampled then (if s.agreeWithin x.offset point then .within else .outside)
      else .notJudged
    | _, _ => .notJudged

/-- The verdict on an ID (R130). -/
def State.verdictOn (p : PhaseError) (s : State) (k : NodeId) : Verdict :=
  match s.roster.find k with
  | some e => s.verdict p e
  | none => .notJudged

/-! ## Steering (R131 to R135) -/

/-- The change of F or trim against e: e × 1,000 / 1,024, rounded toward zero (R132). -/
def frequencyShare (e : Int) : Int := Int.tdiv (e * 1000) 1024

/-- The steer F of holdover: P(T) plus H, plus trim in COASTING (R133). -/
def State.holdoverF (s : State) : Int :=
  let trim := if s.solver.timing = .coasting then s.solver.trim else 0
  clampPpt (s.temp.predict.1 + s.solver.anchorH + trim)

/-- F and trim at a solve that forms e and requests no step (R132, R133). -/
def State.correctF (e : Int) (s : State) : State :=
  if s.solver.timing = .coasting then
    let s := { s with solver.trim := clampPpt (s.solver.trim - frequencyShare e) }
    { s with solver.steerF := s.holdoverF }
  else { s with solver.steerF := clampPpt (s.solver.steerF - frequencyShare e) }

/-- A declared bound in fs (R136). -/
def Declared.boundFs (d : Declared) : Nat := d.bound * 4000000

/-- The least of a list. -/
def leastOf : List Nat → Option Nat
  | [] => none
  | x :: xs =>
    match leastOf xs with
    | some y => some (min x y)
    | none => some x

/-- The greatest of a list, at least `x`. -/
def greatestFrom (x : Nat) : List Nat → Nat
  | [] => x
  | y :: ys => greatestFrom (max x y) ys

/-- The starting bound of a lock to COASTING (R138). -/
def startingBound (peers : List Peer) : Nat :=
  let declared := peers.filterMap (·.declared)
  match leastOf ((declared.filter (fun d => !d.overBudget)).map Declared.boundFs) with
  | some b => b + 16000000
  | none =>
    match declared.map Declared.boundFs with
    | [] => boundCeiling
    | b :: bs => greatestFrom b bs

/-- The node is locked: the timing state becomes the target (R135, R138). -/
def State.lock (v : SolveView) (s : State) : State :=
  match s.solver.target with
  | some t => s.enter none t.state none (s.solveGrowth v) (some (startingBound v.peers))
  | none => s

/-- The lock count of an ACQUIRING solve that forms e and requests no step (R135). -/
def State.judgeLock (v : SolveView) (e : Int) (s : State) : State :=
  if e.natAbs ≤ ns s.cfg.lockLimit then
    let s := { s with solver.lockCount := satAdd 8 s.solver.lockCount 1 }
    if 8 ≤ s.solver.lockCount then s.lock v else s
  else { s with solver.lockCount := 0 }

/-- Whether a solve requests a step instead of a slew (R134). -/
def State.wantsStep (e : Int) (s : State) : Bool :=
  decide (s.solver.timing = .acquiring) && decide (ns s.cfg.stepLimit < e.natAbs)

/-- The slew of a solve that forms e (R131). -/
def State.slew (e : Int) (s : State) : Int :=
  clampInt (-(s.cfg.slewLimit s.solver.timing)) (s.cfg.slewLimit s.solver.timing) (-e)

/-- Step 7 of the solve: the slew, and the state after it (R127, R131 to R135). -/
def State.steer (v : SolveView) (p : PhaseError) (s : State) : Int × State :=
  match p.e with
  | none => (0, if s.solver.timing = .alone then { s with solver.steerF := s.holdoverF } else s)
  | some e =>
    let s := { s with solver.lastE := some e }
    if s.wantsStep e then (0, { s with solver.lockCount := 0 }.requestStep (-e))
    else
      let c := s.slew e
      let acquiring := decide (s.solver.timing = .acquiring)
      let s := s.correctF e
      (c, if acquiring then s.judgeLock v e else s)

/-! ## Error bound (R136 to R139) -/

/-- |e| in fs: 1/16 ns is 62,500 fs. -/
def errorFs (e : Int) : Nat := e.natAbs * 62500

/-- The smallest declared bound among the anchored peers kept (R136). -/
def bestBound (v : SolveView) (kept : List NodeId) : Nat :=
  (leastOf ((v.anchors.filter (fun q => kept.contains q.id)).filterMap (fun q => q.declared.map Declared.boundFs))).getD
    boundCeiling

/-- B set afresh, in ANCHORED and BORROWING, at a solve that forms e (R136). -/
def State.setBound (v : SolveView) (p : PhaseError) (s : State) : State :=
  match s.solver.timing, p.e with
  | .anchored, some e => { s with solver.bound := min boundCeiling (s.cfg.refUncertainty * 1000000 + errorFs e) }
  | .borrowing, some e => { s with solver.bound := min boundCeiling (bestBound v p.kept + 16000000 + errorFs e) }
  | _, _ => s

/-- B and R grow (R137). -/
def Solver.grow (v : Solver) : Solver :=
  { v with bound := min boundCeiling (v.bound + ceilDiv v.rate 1000)
           rate := min boundCeiling (v.rate + accel v.growthClass * ensembleFactor v.growthN / 1000) }

/-- Step 8 of the solve (R136, R137, R139, R120). -/
def State.updateBound (v : SolveView) (p : PhaseError) (s : State) : State :=
  if s.solver.timing.holdover then ({ s with solver := s.solver.grow }.judgeBudget).refreshTimeValid
  else s.setBound v p

/-! ## The procedure (R122, R146) -/

/-- Step 9 of the solve (R146), with the state-held count raised (R120): the timescale unit, the roster, the
temperature unit. -/
def State.handResults (c : Int) (verdicts : NodeId → Verdict) (s : State) : State :=
  let s := { s with solver.stateHeld := satInc16 s.solver.stateHeld }
  let s := s.handOver s.solver.steerF c
  let s := s.rosterComplete verdicts
  s.tempHandOver s.solver.steerF c (s.cfg.slewLimit s.solver.timing)

/-- Steps 3 to 5 of the solve (R122). -/
def State.settleSource (v : SolveView) (s : State) : State :=
  ((s.judgeUndispute v).applySource v).judgeAnchors v

/-- The solve (R122). -/
def State.solve (result : IntervalResult) (s : State) : State :=
  let v := s.solveView result
  let s := (s.solveOpens v).settleSource v
  let p := s.phaseError v
  let s := s.judgeSelf p
  let verdicts := s.verdictOn p
  let (c, s) := s.steer v p
  (s.updateBound v p).handResults c verdicts

/-- The work of the solve point from BEGIN on (R24, R105, R122): the reference interval closes, the roster
reads the marks, the solver solves. -/
def State.solvePoint (s : State) : State :=
  let (result, s) := s.closeInterval
  s.rosterMarks.solve result

/-- SOLVE_POINT (R122). Before BEGIN the solver, the roster and the qualifier are inert (R19, R99, R122). -/
def execSolvePoint (s : State) : Result :=
  .next (s.atPoint .solve (fun s => if s.begun then s.solvePoint else s)).settle

end Sys2Proof.Machine
end

