-- ==== Sys2Proof/Machine/WordLine.lean ====
section
/-! DEFINITION. The commands of the WORD line (04_word_frames_and_arbitration.md): falls, rises, sample points and bit starts, idle, arbitration, arrivals, the talk window, the stuck line and its recovery. -/

namespace Sys2Proof.Machine

open Sys2Proof

/-! ## Falls and rises (R59, R61, R72, R74, R78) -/

/-- A fall that another node makes (R61, R72): where it begins a reception, a pending frame whose range is
open joins the start. -/
def State.wordFallSeen (s : State) : State :=
  let ready := s.frame.readyNow
  let s := s.wordFalls
  if s.begun ∧ ready ∧ s.frame.tx = .quiet ∧ s.frame.txAge = none then
    match s.startable with
    | some (what, f) => s.startFrame what f
    | none => s
  else s

/-- WORD_FALL (R61): a line that is low already does not fall. -/
def execWordFall (dt : Nat) (s : State) : Result :=
  let s := s.advance dt
  match s.pins.word with
  | .high => .next s.wordFallSeen
  | .low => .next s

/-- The timers at a rise that ends a low of `low` (R59, R77, R78): a spike does not restart the idle timer. -/
def FrameUnit.rise (low : Nat) (f : FrameUnit) : FrameUnit :=
  { f with lowTimer := none
           recovery := if f.fault then some 0 else none
           idleTimer := if ns 2000 ≤ low ∨ f.idleTimer = none then some 0 else f.idleTimer }

/-- Pending collision evidence is decided, and the dropped frame is gone (R74). -/
def FrameUnit.decideCollision (f : FrameUnit) : FrameUnit :=
  { f with collision := false, returnedTalk := none, returnedLeave := none }

/-- The end of a low period of WORD (R59, R74, R77, R78). -/
def State.wordRises (s : State) : State :=
  let low := s.frame.lowTimer.getD 0
  let confirmed := s.frame.collision && decide (low < ns 1000000)
  let s := { s with pins.word := .high, frame := (s.frame.rise low).decideCollision }
  if confirmed then s.report .payloadCollision else s

/-- WORD_RISE (R59, R74): no rise comes while the node itself pulls the line low. -/
def execWordRise (dt : Nat) (s : State) : Result :=
  let s := s.advance dt
  match s.pins.word, s.frame.txDriving with
  | .low, false => if s.begun then .next s.wordRises.settle else .next { s with pins.word := .high }
  | _, _ => .next s

/-! ## Bits (R58, R61) -/

/-- Time remaining to the receiver's next sample point. -/
def FrameUnit.toReceiverSample (f : FrameUnit) : Option Nat :=
  match f.rx with
  | .starting | .receiving => some f.toSample
  | .waitingIdle | .ready => none

/-- Time remaining to the sample point of the bit the node sends. -/
def FrameUnit.toSenderSample (f : FrameUnit) : Option Nat :=
  match f.tx, f.txAge, f.txRead with
  | .arbitrating, some a, none | .sending, some a, none => some (ns 2000 - a)
  | _, _, _ => none

/-- The earlier of two times. -/
def earlier : Option Nat → Option Nat → Option Nat
  | some a, some b => some (min a b)
  | some a, none | none, some a => some a
  | none, none => none

/-- The sender's part of a sample point that has come (R58, R73). -/
def FrameUnit.sampleAsSender (level : Level) (f : FrameUnit) : FrameUnit :=
  if f.toSenderSample = some 0 then f.senderSample level else f

/-- The receiver's part of a sample point that has come (R61). -/
def FrameUnit.sampleAsReceiver (level : Level) (f : FrameUnit) : FrameUnit :=
  if f.toReceiverSample = some 0 then f.receiverSample level else f

/-- WORD_SAMPLE_POINT (R58, R61, R73): the next sample point of the bit received, of the bit sent, or of
both where they fall together (log entry 30). -/
def execWordSamplePoint (s : State) : Result :=
  .next (s.atExpiry (earlier s.frame.toReceiverSample s.frame.toSenderSample)
    (fun s => { s with frame := (s.frame.sampleAsSender s.pins.word).sampleAsReceiver s.pins.word }))

/-- The next bit is driven (R58): a dominant bit pulls the line low, a recessive one releases it. -/
def State.driveBit (s : State) : State :=
  let s := { s with frame := { s.frame with txPos := s.frame.txPos + 1, txAge := some 0, txRead := none } }
  if s.frame.txBit then { s with frame.txDriving := false } else s.pullWord

/-- The end of a bit (R58, R76): the next bit starts, or, after the last, the line is released. A bit
whose mismatch, or whose frame's arrival, is still to be taken by its own row does not end before it. -/
def State.bitEnds (s : State) : State :=
  match s.frame.tx with
  | .quiet => { s with frame := s.frame.release }
  | .arbitrating | .sending =>
    if s.frame.txRead = none ∨ s.frame.mismatch ∨ s.frame.atLastBit then s else s.driveBit

/-- WORD_BIT_START (R58). -/
def execWordBitStart (s : State) : Result :=
  .next (s.atExpiry (toLimit (ns 4000) s.frame.txAge) State.bitEnds)

/-! ## Idle (R59, R63, R72) -/

/-- Time remaining to idle (R59): a low that will have lasted 2,000 ns by then stops the timer. -/
def FrameUnit.toIdle (f : FrameUnit) : Option Nat :=
  match f.idleTimer, f.lowTimer with
  | some i, some l => if l + (ns 48000 - i) < ns 2000 then some (ns 48000 - i) else none
  | some i, none => some (ns 48000 - i)
  | none, _ => none

/-- The line is idle (R59, R61, R63, R72): a reception not complete is truncated, the receiver is READY,
and a pending frame may start. -/
def State.lineIdle (s : State) : State :=
  if s.frame.fault then s
  else match s.frame.rx with
    | .starting => s
    | .ready | .waitingIdle => { s with frame.rx := .ready }.tryStart
    | .receiving => { s with frame := { s.frame.fail .truncated with rx := .ready } }.tryStart

/-- LINE_IDLE (R59). -/
def execLineIdle (s : State) : Result := .next (s.atExpiry s.frame.toIdle State.lineIdle)

/-! ## What a compared bit shows (R73, R74, R76) -/

/-- Whether a talk frame that leaves the line unsent is gone: a LEAVE is pending, or the node is neither JOINING nor
MEMBER any more (R68, R71, R77). -/
def State.talkVoid (s : State) : Bool := s.frame.leave.isSome || !s.mem.state.active

/-- ARBITRATION_LOSS (R73): the line is released, the frame stays pending; a talk frame that loses while a
LEAVE is pending is discarded. So is one that loses after its node has left JOINING and MEMBER with no LEAVE pending,
as after WITHDRAW and RESUME: the model's choice (log entry 18). -/
def execArbitrationLoss (s : State) : Result :=
  if s.frame.tx = .arbitrating ∧ s.frame.mismatch then
    let discarded := decide (s.frame.inFlight = some .talk) && s.talkVoid
    .next { s with frame := { s.frame.release with talk := if discarded then none else s.frame.talk } }
  else .next s

/-- The frame in flight is dropped with its returned flag set (R74, R77). -/
def State.dropInFlight (s : State) : State :=
  match s.frame.inFlight with
  | some .talk =>
    { s with frame := { s.frame with
        talk := none
        returnedTalk := s.frame.talk.map (fun f => ⟨f, !s.frame.windowOpen, s.talkVoid⟩) } }
  | some .leave =>
    { s with frame := { s.frame with leave := none
                                     returnedLeave := s.frame.leave.map (fun r => ⟨r, s.frame.leaveVoid⟩) } }
  | none => s

/-- PAYLOAD_COLLISION (R74): the line is released, the frame is dropped, and the evidence is pending on the
low period in progress. -/
def execPayloadCollision (s : State) : Result :=
  if s.frame.tx = .sending ∧ s.frame.mismatch then
    let s := s.dropInFlight
    .next { s with frame := { s.frame.release with collision := true } }
  else .next s

/-- The frame in flight leaves the transmit slot (R76). -/
def FrameUnit.sent (f : FrameUnit) : FrameUnit :=
  match f.inFlight with
  | some .talk => { f with talk := none, inFlight := none }
  | some .leave => { f with leave := none, inFlight := none }
  | none => f

/-- The node's own sound frame is not delivered, counted or judged, whether its own receiver has it complete already
or has its last sample points still to come; a faulty one is left to FRAME_ERROR (R76). -/
def FrameUnit.ownReceipt (f : FrameUnit) : FrameUnit :=
  match f.receipt with
  | some (.arrived _ true) => { f with receipt := none }
  | some (.arrived _ false) | some (.faulty _ _) => f
  | none => { f with rxOwn := decide (f.rx = .receiving) }

/-- FRAME_SENT (R76): the last bit has been compared with no mismatch. The line is released at the end of
that bit. -/
def execFrameSent (s : State) : Result :=
  if s.frame.tx = .sending ∧ s.frame.atLastBit ∧ s.frame.txRead ≠ none ∧ s.frame.mismatch = false then
    .next { s with frame := { s.frame.sent.ownReceipt with tx := .quiet } }
  else .next s

/-! ## Arrivals (R64 to R67) -/

/-- FRAME_ERROR (R64): a faulty reception is discarded and counted. -/
def execFrameError (s : State) : Result :=
  match s.frame.receipt with
  | some (.faulty kind subject) => .next ({ s with frame.receipt := none }.frameFault kind subject).settle
  | some (.arrived f false) => .next ({ s with frame.receipt := none }.frameFault .crc (some f.sender)).settle
  | some (.arrived _ true) | none => .next s

/-- The sound frame of a kind that has arrived and is not the node's own (R66, R76). -/
def State.arrival (kind : FrameKind) (s : State) : Option Frame :=
  match s.frame.receipt, s.frame.tx with
  | some (.arrived f true), .quiet => if f.kind = kind then some f else none
  | _, _ => none

/-- A good CENSUS or JOIN goes to the roster and to the membership unit (R66). -/
def State.deliver (f : Frame) (s : State) : State := (s.rosterTakes f).memberDelivery f

/-- A CENSUS that passes its checks (R65 to R67): own-ID, mismatched, or good. -/
def State.censusArrives (f : Frame) (s : State) : State :=
  if f.sender = s.mem.nodeId then s.reportOwnId
  else match f with
    | .census k e _ d _ =>
      if s.mem.state = .member ∧ e ≠ s.ts.epoch then
        (s.frameFault .epoch (some k)).rosterNotice k e d.timing
      else s.deliver f
    | .join _ _ _ _ | .leave _ _ _ => s

/-- CENSUS_RECEIVED (R65 to R67, R102). -/
def execCensusReceived (s : State) : Result :=
  match s.arrival .census with
  | some f => .next ({ s with frame.receipt := none }.censusArrives f).settle
  | none => .next s

/-- A JOIN that passes its checks (R66, R67). -/
def State.joinArrives (f : Frame) (s : State) : State :=
  if f.sender = s.mem.nodeId then s.reportOwnId else s.deliver f

/-- JOIN_RECEIVED (R66, R67, R100). -/
def execJoinReceived (s : State) : Result :=
  match s.arrival .join with
  | some f => .next ({ s with frame.receipt := none }.joinArrives f).settle
  | none => .next s

/-- A LEAVE that passes its checks (R66, R67, R110). -/
def State.leaveArrives (f : Frame) (s : State) : State :=
  if f.sender = s.mem.nodeId then s.reportOwnId
  else match f with
    | .leave k _ r => (s.rosterLeave k r).memberLeave
    | .census _ _ _ _ _ | .join _ _ _ _ => s

/-- LEAVE_RECEIVED (R66, R67, R110). -/
def execLeaveReceived (s : State) : Result :=
  match s.arrival .leave with
  | some f => .next ({ s with frame.receipt := none }.leaveArrives f).settle
  | none => .next s

/-! ## The talk window (R68 to R70, R75) -/

/-- One observation for each ID of a list whose slot reads ONE (R69, R70). -/
def State.observe (s : State) : List NodeId → List Observation
  | [] => []
  | k :: ks =>
    match s.readSlot k with
    | .one m => ⟨k, m⟩ :: s.observe ks
    | .none | .contested => s.observe ks

/-- The bound a CENSUS declares (R69). -/
def State.declaredBound (s : State) : Nat :=
  match s.solver.timing with
  | .free | .acquiring => 65535
  | .anchored | .borrowing | .coasting | .alone => reportBound s.solver.bound

/-- The CENSUS built at the talk window opening (R69). -/
def State.buildCensus (s : State) : Frame :=
  .census s.mem.nodeId s.ts.epoch s.cfg.cls
    { timing := s.solver.timing, overBudget := s.solver.overBudget, bound := s.declaredBound
      mask := s.roster.ownMask }
    (s.observe (s.roster.entries.map (·.id)))

/-- The JOIN built at the talk window opening (R70). -/
def State.buildJoin (s : State) : Frame :=
  .join s.mem.nodeId s.ts.epoch s.cfg.cls (s.observe allIds)

/-- The talk window opens (R68, R111): a CENSUS keeps the opening mask. -/
def State.openTalk (s : State) : State :=
  let s := { s with frame.windowOpen := true }
  let s := match s.mem.state with
    | .member => { s with frame.talk := some s.buildCensus, roster.openingMask := some s.roster.ownMask }
    | .joining => { s with frame.talk := some s.buildJoin }
    | .unconfigured | .listen | .apart | .aligning | .withdrawn | .conflict => s
  s.tryStart

/-- TALK_WINDOW_OPENING (R68). Before BEGIN the frame unit is inert (R57). -/
def execTalkWindowOpening (s : State) : Result :=
  .next (s.atPoint .talkOpen (fun s => if s.begun then s.openTalk else s))

/-- The talk window is closed, for a dropped frame too (R75, R77). -/
def FrameUnit.closeWindow (f : FrameUnit) : FrameUnit :=
  { f with windowOpen := false
           returnedTalk := f.returnedTalk.map (fun r => { r with windowClosed := true }) }

/-- The talk window closes (R75): a talk frame not in flight is dropped unsent. -/
def State.closeTalk (s : State) : State :=
  let s := { s with frame := s.frame.closeWindow }
  match s.frame.talk with
  | some f =>
    if s.frame.inFlight = some InFlight.talk then s else ({ s with frame.talk := none }).dropUnsent f
  | none => s

/-- TALK_WINDOW_CLOSING (R75). -/
def execTalkWindowClosing (s : State) : Result :=
  .next (s.atPoint .talkClose State.closeTalk).settle

/-! ## The stuck line (R77, R78) -/

/-- A dropped talk frame whose returned flag is set, at the declaration of a stuck line (R77). -/
def State.returnTalk (s : State) : State :=
  match s.frame.returnedTalk with
  | none => s
  | some r =>
    let s := { s with frame.returnedTalk := none }
    if r.void then s
    else if r.windowClosed then s.dropUnsent r.frame
    else { s with frame.talk := some r.frame }

/-- A dropped LEAVE whose returned flag is set (R77). A LEAVE requested since stands (R71). -/
def FrameUnit.returnLeave (f : FrameUnit) : FrameUnit :=
  match f.returnedLeave with
  | none => f
  | some r =>
    { f with returnedLeave := none
             leave := if f.leave.isSome || r.void then f.leave else some r.reason }

/-- A stuck WORD line is declared (R77): the reception is abandoned, transmission is suspended. -/
def State.wordStuck (s : State) : State :=
  if s.frame.fault then s
  else
    let s := { s with frame := { s.frame.release with
      fault := true, rx := .waitingIdle, rxBits := [], rxRun := 0, rxOwn := false, collision := false } }
    let s := s.postInt .frame .lineFault none 1
    let s := { s with frame := s.frame.returnLeave }
    s.returnTalk

/-- WORD_STUCK (R77): WORD has been low for 1,000,000 ns. -/
def execWordStuck (s : State) : Result :=
  .next (s.atExpiry (toLimit (ns 1000000) s.frame.lowTimer) State.wordStuck).settle

/-- WORD has recovered (R78): the line is idle, the receiver READY, and a pending frame may start. -/
def State.wordRecovered (s : State) : State :=
  { s with frame := { s.frame with fault := false, recovery := none, idleTimer := some (ns 48000)
                                   rx := .ready } }.tryStart

/-- WORD_RECOVERY (R78): WORD has been high for 1,000,000 ns with the line-fault flag set. -/
def execWordRecovery (s : State) : Result :=
  .next (s.atExpiry (toLimit (ns 1000000) s.frame.recovery) State.wordRecovered)

end Sys2Proof.Machine
end

