-- ==== Sys2Proof/Machine/Dispatch.lean ====
section
/-! DEFINITION. Every command's meaning: one arm for each constructor of Instr. -/

namespace Sys2Proof.Machine

open Sys2Proof

/-- The effect of a command on everything but the queue. -/
def exec (i : Instr) (s : State) : Host.Outcome State Fault Refusal :=
  match i with
  | .powerOnReset => Sys2Proof.Machine.execPowerOnReset s
  | .resetPin => Sys2Proof.Machine.execResetPin s
  | .resetRelease straps => Sys2Proof.Machine.execResetRelease straps s
  | .endOfEpoch => Sys2Proof.Machine.execEndOfEpoch s
  | .replayEnd => Sys2Proof.Machine.execReplayEnd s
  | .slotTime k => Sys2Proof.Machine.execSlotTime k s
  | .markRelease => Sys2Proof.Machine.execMarkRelease s
  | .heldLowTest => Sys2Proof.Machine.execHeldLowTest s
  | .endOfMarkRegion => Sys2Proof.Machine.execEndOfMarkRegion s
  | .temperatureSample die => Sys2Proof.Machine.execTemperatureSample die s
  | .talkWindowOpening => Sys2Proof.Machine.execTalkWindowOpening s
  | .talkWindowClosing => Sys2Proof.Machine.execTalkWindowClosing s
  | .solvePoint => Sys2Proof.Machine.execSolvePoint s
  | .refinTransition dt rising => Sys2Proof.Machine.execRefinTransition dt rising s
  | .refinEdgeAccepted => Sys2Proof.Machine.execRefinEdgeAccepted s
  | .blankingEnd => Sys2Proof.Machine.execBlankingEnd s
  | .refvalidDeassert dt => Sys2Proof.Machine.execRefvalidDeassert dt s
  | .refvalidAssert dt => Sys2Proof.Machine.execRefvalidAssert dt s
  | .markFall dt => Sys2Proof.Machine.execMarkFall dt s
  | .markEdgeAccept => Sys2Proof.Machine.execMarkEdgeAccept s
  | .markRise dt => Sys2Proof.Machine.execMarkRise dt s
  | .markStuck => Sys2Proof.Machine.execMarkStuck s
  | .markRecovery => Sys2Proof.Machine.execMarkRecovery s
  | .wordFall dt => Sys2Proof.Machine.execWordFall dt s
  | .wordRise dt => Sys2Proof.Machine.execWordRise dt s
  | .lineIdle => Sys2Proof.Machine.execLineIdle s
  | .arbitrationLoss => Sys2Proof.Machine.execArbitrationLoss s
  | .payloadCollision => Sys2Proof.Machine.execPayloadCollision s
  | .frameSent => Sys2Proof.Machine.execFrameSent s
  | .frameError => Sys2Proof.Machine.execFrameError s
  | .censusReceived => Sys2Proof.Machine.execCensusReceived s
  | .joinReceived => Sys2Proof.Machine.execJoinReceived s
  | .leaveReceived => Sys2Proof.Machine.execLeaveReceived s
  | .wordStuck => Sys2Proof.Machine.execWordStuck s
  | .wordRecovery => Sys2Proof.Machine.execWordRecovery s
  | .supplySenseCrossing dt millivolts => Sys2Proof.Machine.execSupplySenseCrossing dt millivolts s
  | .supplyLow => Sys2Proof.Machine.execSupplyLow s
  | .supplyRestored => Sys2Proof.Machine.execSupplyRestored s
  | .generatorStart g => Sys2Proof.Machine.execGeneratorStart g s
  | .pulseEnd g => Sys2Proof.Machine.execPulseEnd g s
  | .inhibitPinChange dt asserted => Sys2Proof.Machine.execInhibitPinChange dt asserted s
  | .filteredLevelChange => Sys2Proof.Machine.execFilteredLevelChange s
  | .transactionStart dt => Sys2Proof.Machine.execTransactionStart dt s
  | .shortTransaction dt bits => Sys2Proof.Machine.execShortTransaction dt bits s
  | .readResponse dt count => Sys2Proof.Machine.execReadResponse dt count s
  | .setup dt payload => Sys2Proof.Machine.execSetup dt payload s
  | .loadTablePage dt payload => Sys2Proof.Machine.execLoadTablePage dt payload s
  | .begin dt => Sys2Proof.Machine.execBegin dt s
  | .status dt => Sys2Proof.Machine.execStatus dt s
  | .roster dt => Sys2Proof.Machine.execRoster dt s
  | .tablePage dt payload => Sys2Proof.Machine.execTablePage dt payload s
  | .events dt payload => Sys2Proof.Machine.execEvents dt payload s
  | .withdraw dt => Sys2Proof.Machine.execWithdraw dt s
  | .resume dt => Sys2Proof.Machine.execResume dt s
  | .trimGroup dt payload => Sys2Proof.Machine.execTrimGroup dt payload s
  | .clearInhibit dt => Sys2Proof.Machine.execClearInhibit dt s
  | .unknownCommand dt code => Sys2Proof.Machine.execUnknownCommand dt code s
  | .responseCompletion dt => Sys2Proof.Machine.execResponseCompletion dt s
  | .wordSamplePoint => Sys2Proof.Machine.execWordSamplePoint s
  | .wordBitStart => Sys2Proof.Machine.execWordBitStart s
  | .oscinStop dt => Sys2Proof.Machine.execOscinStop dt s
  | .oscinReturn => Sys2Proof.Machine.execOscinReturn s

end Sys2Proof.Machine
end

