-- ==== Sys2Proof/Machine/Step.lean ====
section
/-! DEFINITION. One step: the command at the front of the queue is taken and carried out; and the placing of a command at the front. -/

namespace Sys2Proof.Machine

open Sys2Proof

/-- One step of the block: the command at the front of the queue, on the state with the queue's rest. With
nothing waiting the block idles, and no time passes (log entry 2). -/
def step (s : State) : Host.Outcome State Fault Refusal :=
  match s.pending with
  | [] => .next s
  | c :: cs => exec c { s with pending := cs }

/-- The command that a word spells, by its bytes (R197), put at the front of the queue; the state unchanged where
the word spells none (log entry 27). -/
def State.withFetchWord (s : State) (nbits w : Nat) : State :=
  match decodeTableWord nbits w with
  | some c => { s with pending := c :: s.pending }
  | none => s

end Sys2Proof.Machine
end

