-- ==== Sys2Proof/Safety.lean ====
section
/-! DEFINITION. What the claims are stated with: the invariants the manual gives for every state of the part, the fields that frames must hold, one event stored, the start of a frame, and a field of a record. -/

namespace Sys2Proof.Machine

open Sys2Proof

/-! ## One event -/

/-- One event posted at this instant by any block: stored, or lost to a full queue (R189, R190). -/
def State.stored (kind : EventKind) (subject : Option NodeId) (value : Option (BitVec 32)) (s : State) : State :=
  s.offer ⟨.port, s.ts.epoch, kind, subject, value, none⟩

/-! ## The event queue (R189) -/

/-- Sequence numbers rise by one from each record to the next, modulo 65,536 (R189). -/
def consecutive : List EventRecord → Prop
  | [] => True
  | [_] => True
  | a :: b :: rest => b.seq = a.seq + 1 ∧ consecutive (b :: rest)

/-- The queue holds at most 32 records, numbered without a gap up to the next sequence number, and no
posting waits between steps (R189). -/
def QueueForm (s : State) : Prop :=
  s.port.queue.length ≤ 32 ∧ consecutive s.port.queue ∧
    (∀ r, s.port.queue.getLast? = some r → s.port.nextSeq = r.seq + 1) ∧ s.port.outbox = []

/-! ## Valid time (R120, R143) -/

/-- Time-valid is high exactly in ANCHORED and BORROWING, and in COASTING and ALONE with the over-budget
flag clear; from BEGIN on the generator unit holds the same level (R120). -/
def TimeValidForm (s : State) : Prop :=
  (s.solver.timeValid = true ↔
    s.solver.timing = .anchored ∨ s.solver.timing = .borrowing ∨
      ((s.solver.timing = .coasting ∨ s.solver.timing = .alone) ∧ s.solver.overBudget = false)) ∧
  (s.begun = true → s.gen.timeValid = s.solver.timeValid)

/-- The timing state is ANCHORED only while the reference state is QUALIFIED (R143). -/
def AnchoredIsQualified (s : State) : Prop := s.solver.timing = .anchored → s.ref.state = .qualified

/-! ## The tie bus (R40, R100) -/

/-- The node drives MARK only in JOINING and MEMBER (R40). -/
def MarkDriveForm (s : State) : Prop :=
  s.mark.drive.isSome = true → s.mem.state = .joining ∨ s.mem.state = .member

/-- IDs strictly rise along a list of entries. -/
def ascending : List Entry → Prop
  | [] => True
  | [_] => True
  | a :: b :: rest => a.id < b.id ∧ ascending (b :: rest)

/-- The roster holds at most 8 entries, no two with one ID, none with the node's own ID, each permitted by
the admission mask (R100). Before BEGIN there is no capture set and no entry, and while a reset is held the
node is UNCONFIGURED with no transaction open (R99, R119, R194). -/
def RosterForm (s : State) : Prop :=
  s.roster.entries.length ≤ 8 ∧ ascending s.roster.entries ∧
  (∀ e ∈ s.roster.entries, e.id ≠ s.mem.nodeId ∧ maskHas s.cfg.admission e.id = true) ∧
  (s.begun = false → s.mark.capture = none ∧ s.roster.entries = []) ∧
  (s.pins.resetHeld = true → s.begun = false ∧ s.port.transaction = none)

/-- Whether a site phase lies in the window of slot k, the early range of slot 0 apart (R44). -/
def inSlotWindow (phase : Nat) (k : NodeId) : Prop :=
  (ns (62500 * k.val) : Int) - ns 25000 ≤ phase ∧ (phase : Int) < ns (62500 * k.val) + ns 25000

/-! ## Corrections (R2, R3) -/

/-- Within ± a limit. -/
def within (limit : Int) (x : Int) : Prop := -limit ≤ x ∧ x ≤ limit

/-- F and c in effect and pending, and the carry, lie in their ranges (R2, R3), and the epoch's length is
that of an F and a c in range. -/
def CorrectionsInRange (s : State) : Prop :=
  within 100000000 s.ts.f ∧ within 32000 s.ts.c ∧ within 999 s.ts.carry ∧
  (∀ f, s.ts.pendF = some f → within 100000000 f) ∧ (∀ c, s.ts.pendC = some c → within 32000 c) ∧
  15998368000 ≤ s.ts.len ∧ s.ts.len ≤ 16001632000

/-! ## Withdrawal and inhibit (R94, R173) -/

/-- In WITHDRAWN the withdraw-reason set is not empty (R94). -/
def WithdrawnForAReason (s : State) : Prop :=
  s.mem.state = .withdrawn → s.mem.reasonCommand = true ∨ s.mem.reasonSupply = true

/-- While inhibit is in force no pulse is shown (R173). -/
def InhibitHidesPulses (s : State) : Prop :=
  s.gen.inForce = true → ∀ i : Fin 4, (s.gen.gens.get i).shows = false

/-! ## Frames that can be sent (R195) -/

/-- An offset fits the 20-bit field of an observation. -/
def Observation.fits (o : Observation) : Prop := -524288 ≤ o.offset ∧ o.offset ≤ 524287

/-- A frame whose every field fits its width (R195). -/
def Frame.fits : Frame → Prop
  | .leave _ _ _ => True
  | .census _ _ _ d obs => d.bound < 65536 ∧ obs.length ≤ 8 ∧ ∀ o ∈ obs, o.fits
  | .join _ _ _ obs => obs.length ≤ 15 ∧ ∀ o ∈ obs, o.fits

/-- A pending frame whose range is open (R72): the talk frame while the talk window is open, or else the LEAVE
outside the mark region, which then carries the current epoch number (R71). -/
def State.mayStart (what : InFlight) (f : Frame) (s : State) : Prop :=
  match what with
  | .talk => s.frame.talk = some f ∧ s.frame.windowOpen = true
  | .leave => (s.frame.talk = none ∨ s.frame.windowOpen = false) ∧ ns 1000000 ≤ s.ts.sitePhase ∧
      ∃ r, s.frame.leave = some r ∧ f = .leave s.mem.nodeId s.ts.epoch r

/-- The transmitter of a frame just started (R72): ARBITRATING, its start bit driven. -/
def FrameUnit.started (what : InFlight) (f : Frame) (u : FrameUnit) : FrameUnit :=
  { u with inFlight := some what, tx := .arbitrating, txBits := f.lineBits, txPos := 0, txAge := some 0
           txRead := none, txDriving := true }

/-- A transmitter that has let the line go (R73, R74). -/
def FrameUnit.quieted (u : FrameUnit) : FrameUnit :=
  { u with inFlight := none, tx := .quiet, txBits := [], txPos := 0, txAge := none, txRead := none
           txDriving := false }

/-- A receiver that has stopped taking bits, with what the reception came to (R61, R63). -/
def FrameUnit.stopped (what : Receipt) (u : FrameUnit) : FrameUnit :=
  { u with receipt := some what, rx := .waitingIdle, rxBits := [], rxRun := 0, rxOwn := false }

/-- A sender reads its bit (R58, R73): after the last ID bit, the line reading as driven, it is SENDING. -/
def FrameUnit.senderReads (level : Level) (u : FrameUnit) : FrameUnit :=
  { u with txRead := some level
           tx := if u.tx = .arbitrating ∧ u.txPos = 6 ∧ ¬ (u.txBit = true ∧ level = .low) then .sending else u.tx }

/-- No frame starts at this instant (R72): none is pending with its range open, or the line is not idle, or the
transmitter is not QUIET. -/
def State.nothingStarts (s : State) : Prop :=
  (∀ what f, ¬ s.mayStart what f) ∨ s.frame.idle = false ∨ s.frame.tx ≠ .quiet ∨ s.frame.txAge ≠ none

/-- A frame starts at this instant on a line that stands high, the receiver READY (R61, R72). -/
def State.starts (what : InFlight) (f : Frame) (s : State) : Prop :=
  s.mayStart what f ∧ s.frame.idle = true ∧ s.frame.rx = .ready ∧ s.frame.tx = .quiet ∧ s.frame.txAge = none ∧
    s.pins.word = .high ∧ s.begun = true

/-- A frame started on a line that stood high, the receiver READY (R61, R72): the start bit is driven, and the
receiver takes it as one. -/
def State.frameStarted (what : InFlight) (f : Frame) (s : State) : State :=
  { s with pins.word := .low
           frame := { (s.frame.started what f).startBit with lowTimer := some 0, recovery := none } }

/-- What a receiver holds after the bits of a frame, one sample point after another; true is high (R61). -/
def FrameUnit.receive : List Bool → FrameUnit → FrameUnit
  | [], f => f
  | b :: bs, f => FrameUnit.receive bs (f.receiverSample (if b then .high else .low))

/-! ## Records (R199) -/

/-- The number that a field of a record holds, by its offset and its bytes, most significant first (R199). -/
def fieldIn (record : List Byte) (offset bytes : Nat) : Nat := natBE ((record.drop offset).take bytes)

end Sys2Proof.Machine
end

