-- ==== Sys2Proof/Certificates/Slice0/Obligations.lean ====
section
/-! DEFINITION. The statements for the provers, chapter by chapter. In each, `u` is the state at the instant of the command: time has run on to it, and nothing else has changed. A result written as a whole record says with it that every other field is as in `u`. -/

open Sys2Proof Sys2Proof.Machine

/-! ## The step -/

/-- One step takes the command at the front of the queue and carries it out on the state with the queue's
rest; with nothing waiting it changes nothing (the model's choice, log entry 2). -/
def Obligations.StepTakesTheFrontCommand : Prop :=
  (∀ (c : Instr) (s : State), step { s with pending := c :: s.pending } = exec c s) ∧
  (∀ s : State, s.pending = [] → step s = .next s)

/-- No command stops the part, in any state, and none but the queue's own step touches the queue. The model's: log
entry 1. -/
def Obligations.EveryCommandAnswersANextState : Prop :=
  ∀ (c : Instr) (s : State), ∃ t, exec c s = .next t ∧ t.pending = s.pending

/-! ## Resets and the clock (R1, R18, R19, R38, R56, R80, R81, R98, R119, R147, R161, R176, R194) -/

/-- Both resets leave every block at its reset values; the RESET pin keeps the temperature table. The pins stay as
the outside holds them, and the reset is held until its release (the model's reading, log entries 3 and 7). On
release the straps become the node ID and slot time 0 of epoch 0 is raised (R18, R81). The values that the reset
tables of the spec give, block by block, SDO released with them (R194); and every invariant stated below holds there. -/
def Obligations.ResetsLeaveTheirValues : Prop :=
  (((∀ s : State, exec .powerOnReset s =
      .next { State.reset with pins := { s.pins with resetHeld := true }
                               freeCount := s.freeCount, pending := s.pending }) ∧
    (∀ s : State, exec .resetPin s =
      .next { State.reset with pins := { s.pins with resetHeld := true }
                               temp := { State.reset.temp with table := s.temp.table }
                               freeCount := s.freeCount, pending := s.pending })) ∧
   (∀ (s : State) (straps : NodeId),
      (s.pins.resetHeld = true → exec (.resetRelease straps) s =
        .next { s with pins.resetHeld := false, mem.nodeId := straps, ts.raised := [.slot 0] }) ∧
      (s.pins.resetHeld = false → exec (.resetRelease straps) s = .next s))) ∧
  (let r := State.reset
   (r.ts.sitePhase = 0 ∧ r.ts.epoch = 0 ∧ r.ts.f = 0 ∧ r.ts.c = 0 ∧ r.ts.pendF = none ∧ r.ts.pendC = none ∧
     r.ts.carry = 0 ∧ r.ts.pendStep = none ∧ r.ts.pendAdopt = none ∧ r.ts.replay = false ∧
     r.ts.stepBegan = false ∧ r.ts.groupA = ⟨0, 0⟩ ∧ r.ts.groupB = ⟨0, 0⟩ ∧ r.ts.len = 16000000000) ∧
   (r.ref.state = .absent ∧ r.ref.probCount = 0 ∧ r.ref.missCount = 0 ∧ r.ref.outliers = [] ∧
     r.ref.ring = [] ∧ r.tallyNow = 0 ∧ r.ref.interval = 0 ∧ r.ref.record = ⟨false, false, none⟩ ∧
     r.ref.candidate = none ∧ r.ref.blanking = none) ∧
   (r.drivesMark = false ∧ r.mem.state.mode = .idle ∧ r.mark.candidate = none ∧ r.mark.highTime = none ∧
     r.mark.capture = none ∧ r.mark.early = .none ∧ r.mark.evidence.pending = [] ∧ r.mark.strayCount = 0 ∧
     r.mark.contestedCount = 0 ∧ r.mark.strayEpoch = none ∧ r.mark.fault = false ∧
     r.mark.lowTimer = none ∧ r.mark.recovery = none) ∧
   (r.drivesWord = false ∧ r.frame.windowOpen = false ∧ r.frame.talk = none ∧ r.frame.leave = none ∧
     r.frame.tx = .quiet ∧ r.frame.rx = .waitingIdle ∧ r.frame.idleTimer = none ∧
     r.frame.collision = false ∧ r.frame.returnedTalk = none ∧ r.frame.returnedLeave = none ∧
     r.frame.crcErrors = 0 ∧ r.frame.formatErrors = 0 ∧ r.frame.truncatedErrors = 0 ∧
     r.frame.epochErrors = 0 ∧ r.frame.unsent = 0 ∧ r.frame.errorEpoch = none ∧ r.frame.fault = false ∧
     r.frame.lowTimer = none ∧ r.frame.recovery = none) ∧
   (r.mem.state = .unconfigured ∧ r.mem.reasonCommand = false ∧ r.mem.reasonSupply = false ∧
     r.mem.quietCount = 0 ∧ r.mem.heard = false ∧ r.mem.trainStart = false ∧ r.mem.frameRecord = [] ∧
     r.mem.closedRecord = [] ∧ r.mem.joinSenders = [] ∧ r.mem.history = [] ∧ r.mem.newest = none ∧
     r.mem.aligningCount = 0 ∧ r.mem.emptyCount = 0 ∧ r.mem.joinCounter = 0 ∧ r.mem.joinQuiet = 0 ∧
     r.mem.evidenceThis = false ∧ r.mem.evidenceLast = false ∧ r.mem.adoptionOutstanding = false ∧
     r.mem.supplyIsLow = false) ∧
   (r.roster.entries = [] ∧ r.roster.ownMask = 0 ∧ r.roster.openingMask = none ∧ r.roster.fullPosted = [] ∧
     r.roster.diffs = [] ∧ r.roster.adoptionOutstanding = false) ∧
   (r.solver.timing = .free ∧ r.solver.target = none ∧ r.solver.validTime = false ∧ r.solver.stateHeld = 0 ∧
     r.solver.lockCount = 0 ∧ r.solver.steerF = 0 ∧ r.solver.trim = 0 ∧ r.solver.anchorH = 0 ∧
     r.solver.lastE = none ∧ r.solver.bound = 1000000000000000 ∧ r.solver.rate = 0 ∧
     r.solver.overBudget = false ∧ r.solver.timeValid = false ∧ r.solver.disputeCount = 0 ∧
     r.solver.undisputeCount = 0 ∧ r.solver.selfExcluded = false ∧ r.solver.split = false ∧
     r.solver.lastC = [] ∧ r.solver.lastA = []) ∧
   (r.temp.samples = [] ∧ r.temp.mean = none ∧ r.temp.excursion = false ∧
     r.temp.table = Vector.replicate 80 ⟨0, 0⟩ ∧ r.temp.lastF = 0 ∧ r.temp.frozen = none) ∧
   (r.gen.gens = ⟨⟨.disabled, 0, none, none⟩, ⟨.disabled, 0, none, none⟩, ⟨.disabled, 0, none, none⟩,
       ⟨.disabled, 0, none, none⟩⟩ ∧ r.gen.timeValid = false ∧ r.gen.inForce = false ∧ r.tvalid = .low ∧
     ∀ i, r.genLevel i = .low) ∧
   (r.port.record = none ∧ r.port.transaction = none ∧ r.port.slot = .empty ∧ r.port.queue = [] ∧
     r.port.nextSeq = 0 ∧ r.port.lost = 0 ∧ r.port.snapSkip = 0 ∧ r.port.snapPost = 0 ∧ r.attn = .high ∧ r.drivesSdo = false) ∧
   (QueueForm r ∧ TimeValidForm r ∧ AnchoredIsQualified r ∧ RosterForm r ∧ CorrectionsInRange r ∧
     MarkDriveForm r ∧ WithdrawnForAReason r ∧ InhibitHidesPulses r))

/-- A stopped clock holds time still: no time passes, and no phase point, end of an epoch, timer or bit of
the part's own comes (R1). REFIN, REFVALID and INHIBIT are synchronised to OSCIN (R19, R171): while it stands still they
change at their pins alone, and the return takes the levels that stand there, as a row does that changes them while it
runs; of REFIN and REFVALID either comes first. The model's: log entries 1, 4, 8. -/
def Obligations.StoppedClockHoldsTimeStill : Prop :=
  (∀ (s : State) (dt : Nat),
    exec (.oscinStop dt) s = .next { s.advance dt with pins.oscRunning := false }) ∧
  (∀ (s : State), s.pins.oscRunning = false → s.port.outbox = [] →
    (∀ dt, s.advance dt = s) ∧
    (∀ c ∈ ([.endOfEpoch, .replayEnd, .markRelease, .heldLowTest, .endOfMarkRegion, .talkWindowOpening,
        .talkWindowClosing, .solvePoint, .refinEdgeAccepted, .blankingEnd, .markEdgeAccept, .markStuck,
        .markRecovery, .lineIdle, .wordStuck, .wordRecovery, .supplyLow, .supplyRestored,
        .filteredLevelChange, .wordSamplePoint, .wordBitStart] : List Instr), exec c s = .next s) ∧
    (∀ k, exec (.slotTime k) s = .next s) ∧ (∀ x, exec (.temperatureSample x) s = .next s) ∧
    (∀ g, exec (.generatorStart g) s = .next s) ∧ (∀ g, exec (.pulseEnd g) s = .next s) ∧
    (∀ dt rising, exec (.refinTransition dt rising) s =
      .next { s with pins.refinPin := if rising then .high else .low }) ∧
    (∀ dt, exec (.refvalidAssert dt) s = .next { s with pins.refvalidPin := true } ∧
      exec (.refvalidDeassert dt) s = .next { s with pins.refvalidPin := false }) ∧
    (∀ dt level, exec (.inhibitPinChange dt level) s = .next { s with pins.inhibitPin := level })) ∧
  (∀ (s : State), s.port.outbox = [] →
    let u : State := { s with pins.oscRunning := true }
    (s.pins.inhibit = s.pins.inhibitPin →
      (s.pins.refin = s.pins.refinPin → s.pins.refvalid = s.pins.refvalidPin →
        exec .oscinReturn s = .next u) ∧
      (s.pins.refin ≠ s.pins.refinPin → s.pins.refvalid = s.pins.refvalidPin →
        exec .oscinReturn s = .next (u.refinTaken s.pins.refinPin).settle) ∧
      (s.pins.refin = s.pins.refinPin → s.pins.refvalid ≠ s.pins.refvalidPin →
        exec .oscinReturn s = .next (u.refvalidTaken s.pins.refvalidPin).settle) ∧
      (s.pins.refin ≠ s.pins.refinPin → s.pins.refvalid ≠ s.pins.refvalidPin →
        let w : State := { u with freeCount := s.freeCount + 1 }
        exec .oscinReturn s = .next ((w.refinTaken s.pins.refinPin).refvalidTaken s.pins.refvalidPin).settle ∨
        exec .oscinReturn s = .next ((w.refvalidTaken s.pins.refvalidPin).refinTaken s.pins.refinPin).settle)) ∧
    (s.pins.inhibit ≠ s.pins.inhibitPin → s.pins.refin = s.pins.refinPin →
      s.pins.refvalid = s.pins.refvalidPin → exec .oscinReturn s = .next { u with
        pins.inhibit := s.pins.inhibitPin
        gen.filterTimer := if s.begun = false then s.gen.filterTimer
          else if s.pins.inhibitPin = s.gen.filtered then none else some 0 })) ∧
  (∀ (s : State) (dt : Nat) (rising : Bool), s.pins.oscRunning = true →
    let level : Level := if rising then .high else .low
    exec (.refinTransition dt rising) s =
      .next ({ s.advance dt with pins.refinPin := level }.refinTaken level).settle ∧
    exec (.refvalidAssert dt) s = .next ({ s.advance dt with pins.refvalidPin := true }.refvalidTaken true).settle ∧
    exec (.refvalidDeassert dt) s =
      .next ({ s.advance dt with pins.refvalidPin := false }.refvalidTaken false).settle)

/-! ## The boundary (R2 to R5, R10 to R16, R43, R45, R49, R86, R164, R168, R169, R193) -/

/-- The end of an epoch with no step pending opens the next one (R2 to R5): its number, its F, c, length
and carry, its phase 0, the step-began flag clear, the group offsets moved, no point yet raised; what no
block's boundary work touches stays. The model's: log entries 1, 21. -/
def Obligations.EndOfEpochOpensTheNextEpoch : Prop :=
  ∀ s : State, s.running = true → s.ts.replay = false → s.ts.pendStep = none →
    ∃ t, exec .endOfEpoch s = .next t ∧
      t.ts = { epoch := (s.ts.pendAdopt.getD s.ts.epoch) + 1
               pendAdopt := none
               f := s.ts.pendF.getD s.ts.f
               c := s.ts.pendC.getD 0
               pendF := none
               pendC := none
               carry := Int.tmod ((s.ts.pendF.getD s.ts.f) * 16 + s.ts.carry) 1000
               len := (16000000000 - Int.tdiv ((s.ts.pendF.getD s.ts.f) * 16 + s.ts.carry) 1000 -
                 s.ts.pendC.getD 0).toNat
               base := 0
               tau := 0
               replay := false
               stepBegan := false
               pendStep := none
               groupA := s.ts.groupA.moved
               groupB := s.ts.groupB.moved
               raised := [] } ∧
      t.temp = s.temp ∧ t.solver.timing = s.solver.timing ∧ t.solver.steerF = s.solver.steerF ∧
      t.solver.bound = s.solver.bound ∧ t.solver.timeValid = s.solver.timeValid ∧
      t.ref.state = s.ref.state ∧ t.ref.ring = s.ref.ring ∧ t.ref.record = s.ref.record ∧
      t.port.record = s.port.record ∧ t.port.slot = s.port.slot ∧ t.pins.refin = s.pins.refin ∧
      t.mark.strayCount = s.mark.strayCount ∧ t.mem.nodeId = s.mem.nodeId

/-- A step request is taken, folded, while time-valid is low, and refused while it is high (R10). The decision on a
pending step at the end of the epoch (R4, R11, R12, R13, R14, R16): discarded while time-valid is high; a step of 0 or
more applied within the boundary, at which every point it passes is done with; a negative one starts a replay of the
same epoch, which keeps its number and the pending adoption. The end of a replay opens the next epoch at phase 0 with
the step-began flag set; a step requested meanwhile stays pending for the new epoch's end (R4, R5). The model's: log
entries 1, 12, 21. -/
def Obligations.StepsAreRequestedAndDecided : Prop :=
  ((∀ (s : State) (x : Int), s.solver.timeValid = false →
     s.requestStep x = { s with ts.pendStep := some (fold x) }) ∧
   (∀ (s : State) (x : Int), s.solver.timeValid = true → s.requestStep x = s) ∧
   (∀ x : Int, -8000000000 < fold x ∧ fold x ≤ 8000000000 ∧ (fold x - x) % 16000000000 = 0) ∧
   fold (-8000000000) = 8000000000) ∧
  ((∀ (s : State) (x : Int), s.running = true → s.ts.replay = false → s.ts.pendStep = some x →
     (s.solver.timeValid = true → ∃ t, exec .endOfEpoch s = .next t ∧ t.ts.pendStep = none ∧
       t.ts.base = 0 ∧ t.ts.tau = 0 ∧ t.ts.replay = false ∧ t.ts.stepBegan = false ∧
       t.ts.epoch = (s.ts.pendAdopt.getD s.ts.epoch) + 1 ∧ t.ts.pendAdopt = none) ∧
     (s.solver.timeValid = false → 0 ≤ x → ∃ t, exec .endOfEpoch s = .next t ∧ t.ts.pendStep = none ∧
       t.ts.base = x.toNat ∧ t.ts.tau = 0 ∧ t.ts.replay = false ∧ t.ts.stepBegan = true ∧
       t.ts.epoch = (s.ts.pendAdopt.getD s.ts.epoch) + 1 ∧ t.ts.pendAdopt = none ∧
       ∀ p, p ∈ t.ts.raised ↔ p.phase < x.toNat) ∧
     (s.solver.timeValid = false → x < 0 → ∃ t, exec .endOfEpoch s = .next t ∧ t.ts.pendStep = none ∧
       t.ts.base = (16000000000 + x).toNat ∧ t.ts.tau = 0 ∧ t.ts.replay = true ∧
       t.ts.epoch = s.ts.epoch ∧ t.ts.pendAdopt = s.ts.pendAdopt ∧ t.ts.f = s.ts.f ∧
       t.ts.carry = s.ts.carry ∧ t.mark.early = .none ∧ t.mark.earlyOwn = s.mark.earlyOwn ∧
       t.mem.state = s.mem.state ∧ t.temp = s.temp)) ∧
   (∀ s : State, s.running = true → s.ts.replay = true →
     ∃ t, exec .replayEnd s = .next t ∧ t.ts.epoch = (s.ts.pendAdopt.getD s.ts.epoch) + 1 ∧
       t.ts.base = 0 ∧ t.ts.tau = 0 ∧ t.ts.replay = false ∧ t.ts.stepBegan = true ∧
       t.ts.pendStep = s.ts.pendStep ∧ t.ts.f = s.ts.pendF.getD s.ts.f ∧ t.ts.c = s.ts.pendC.getD 0 ∧
       t.ts.pendAdopt = none ∧ t.temp = s.temp ∧ t.ref.state = s.ref.state ∧ t.ref.ring = s.ref.ring ∧
       t.solver.timing = s.solver.timing))

/-- A group offset walks to its target by at most 100 ns at each boundary proper, whatever the boundary and the
states of the part; the boundary event carries the change; either reset leaves both at 0 (R164). -/
def Obligations.GroupOffsetsWalkToTheirTargets : Prop :=
  (∀ g : GroupOffset,
    (100 < (g.target - g.current).natAbs →
      g.moved = { g with current := if g.current < g.target then g.current + 100 else g.current - 100 }) ∧
    ((g.target - g.current).natAbs ≤ 100 → g.moved = { g with current := g.target })) ∧
  (∀ g : GroupOffset, -100 ≤ g.moved.current - g.current ∧ g.moved.current - g.current ≤ 100) ∧
  (∀ (s : State) (step : Option Int) (forward : Option Nat) (discarded : Bool),
    (s.boundaryProper step forward discarded).ts.groupA = s.ts.groupA.moved ∧
    (s.boundaryProper step forward discarded).ts.groupB = s.ts.groupB.moved ∧
    (s.ts.eventOf step discarded).deltaA = s.ts.groupA.moved.current - s.ts.groupA.current ∧
    (s.ts.eventOf step discarded).deltaB = s.ts.groupB.moved.current - s.ts.groupB.current) ∧
  (∀ s : State, ∃ t u, exec .powerOnReset s = .next t ∧ exec .resetPin s = .next u ∧
    t.ts.groupA = ⟨0, 0⟩ ∧ t.ts.groupB = ⟨0, 0⟩ ∧ u.ts.groupA = ⟨0, 0⟩ ∧ u.ts.groupB = ⟨0, 0⟩)

/-- What the other blocks do at a boundary proper, in its order (R5), which a clause gives as one composition. The
ends of an epoch and of a replay come to it. A MEMBER stays one, an ALIGNING node that has counted 2 goes to JOINING
with its join counters at 0 and MEMBERSHIP_CHANGE, and one that has counted less keeps its counts (R90); evidence in
two epochs running makes any of them CONFLICT (R92). A forward step past the end of the mark region judges an ALIGNING
node there: an empty count more, and back to LISTEN at the fourth (R12, R54, R90). A node that is then ALIGNING,
JOINING or MEMBER opens a capture set for the new epoch, with the early holding in its slot 0 unless a forward step
was applied (R43, R45), and an own-window edge of ID 0 counts in it (R49); outside WINDOWED the set stands (R39). A
boundary that applied a step empties the coarse history (R86). A RUNNING generator's next start moves into the new
epoch and by the move of its group's offset, one moved below 0 starting its pulse at once, and after a forward step it
is searched again; a SKIPPING one counts its skips (R168, R169). The snapshot counts run, and SNAPSHOT carries the
error bound (R193). What LISTEN, APART and JOINING do there is ListeningAndJoiningAreJudged. The model's: log entries
12, 17, 21, 22. -/
def Obligations.OtherBlocksWorkAtTheBoundary : Prop :=
  (∀ s : State, s.running = true → s.ts.replay = false →
    (s.ts.pendStep = none → exec .endOfEpoch s = .next (s.runToEnd.boundaryProper none none false).settle) ∧
    (∀ x, s.ts.pendStep = some x → s.solver.timeValid = true → exec .endOfEpoch s =
      .next ({ s.runToEnd with ts.pendStep := none }.boundaryProper none none true).settle) ∧
    (∀ x, s.ts.pendStep = some x → s.solver.timeValid = false → 0 ≤ x → exec .endOfEpoch s =
      .next ({ s.runToEnd with ts.pendStep := none }.boundaryProper (some x) (some x.toNat) false).settle)) ∧
  (∀ s : State, s.running = true → s.ts.replay = true → exec .replayEnd s =
    .next (s.runToEnd.boundaryProper (some ((s.ts.base : Int) - 16000000000)) none false).settle) ∧
  (∀ (s : State) (step : Option Int) (forward : Option Nat) (discarded : Bool),
    let ev := s.ts.eventOf step discarded
    let opened : State := { s with ts := s.ts.openEpoch forward step.isSome
                                   ref.tally := fold (s.ref.tally + ((forward.getD 0 : Nat) : Int)) }
    s.boundaryProper step forward discarded =
      ((((opened.memberBoundary ev).rosterBoundary ev).markBoundary forward.isSome).genBoundary forward.isSome
        ev.deltaA ev.deltaB).snapshot.afterJump forward) ∧
  (∀ (s : State) (step : Option Int) (forward : Option Nat) (discarded : Bool),
    let t := s.boundaryProper step forward discarded
    let again := s.mark.earlyOwn = .ended ∧ s.mark.fault = false ∧ s.mem.evidenceThis = true
    let jumped := ∃ p, forward = some p ∧ ns 1000000 < p
    (s.mem.state = .member → (again → t.mem.state = .conflict) ∧ (¬ again → t.mem.state = .member)) ∧
    (s.mem.state = .aligning → 2 ≤ s.mem.aligningCount →
      (⟨.membership, t.ts.epoch, .membershipChange, none, some 4, none⟩ : Posting) ∈ t.port.outbox ∧
      t.mem.joinCounter = 0 ∧ t.mem.joinQuiet = 0 ∧ t.mem.joinSenders = [] ∧ t.mem.joinHeard = false ∧
      (again → t.mem.state = .conflict) ∧ (¬ again → t.mem.state = .joining)) ∧
    (s.mem.state = .aligning → s.mem.aligningCount < 2 →
      (¬ jumped → t.mem.state = .aligning ∧ t.mem.aligningCount = s.mem.aligningCount ∧
        t.mem.emptyCount = s.mem.emptyCount) ∧
      (jumped → s.mem.emptyCount < 3 → t.mem.state = .aligning ∧ t.mem.aligningCount = 0 ∧
        t.mem.emptyCount = s.mem.emptyCount + 1) ∧
      (jumped → 3 ≤ s.mem.emptyCount → t.mem.state = .listen ∧ t.mark.capture = none ∧ t.roster.entries = [])) ∧
    (t.mem.state = .aligning ∨ t.mem.state = .joining ∨ t.mem.state = .member →
      t.mark.capture = some ⟨t.ts.epoch, emptySlots.set 0 (if forward.isSome then .none else s.mark.early)⟩ ∧
      t.mark.early = .none ∧ t.mark.echo = ⟨false, false, none, false⟩ ∧
      t.mem.evidenceLast = s.mem.evidenceThis ∧
      (s.mark.earlyOwn = .none ∨ s.mark.fault = true →
        t.mark.evidence = ⟨false, []⟩ ∧ t.mem.evidenceThis = false) ∧
      (s.mark.earlyOwn = .lasting → s.mark.fault = false →
        t.mark.evidence = ⟨false, [.otherEdge]⟩ ∧ t.mem.evidenceThis = false) ∧
      (s.mark.earlyOwn = .ended → s.mark.fault = false →
        t.mark.evidence = ⟨true, []⟩ ∧ t.mem.evidenceThis = true))) ∧
  (∀ (s : State) (step : Option Int) (forward : Option Nat) (discarded : Bool),
    let t := s.boundaryProper step forward discarded
    (s.mem.state = .unconfigured ∨ s.mem.state = .withdrawn ∨ s.mem.state = .conflict →
      t.mark.capture = s.mark.capture) ∧
    (step.isSome = true → t.mem.history = [] ∧ t.mem.newest = none) ∧
    (s.begun = false → t.gen = s.gen ∧ t.port.snapSkip = s.port.snapSkip ∧ t.port.snapPost = s.port.snapPost) ∧
    (s.begun = true → ∀ i : Fin 4,
      let g := s.gen.gens.get i
      let g' := t.gen.gens.get i
      let set := s.cfg.gens.get i
      let delta : Int := match set.group with
        | .a => s.ts.groupA.moved.current - s.ts.groupA.current
        | .b => s.ts.groupB.moved.current - s.ts.groupB.current
      (g.run = .disabled ∨ g.run = .holding → g' = g) ∧
      (g.run = .skipping → 1 < g.skip → g' = { g with skip := g.skip - 1 }) ∧
      (g.run = .skipping → g.skip ≤ 1 →
        g' = { g with run := .running, skip := 0, next := some (searchStart t.ts set false) }) ∧
      (g.run = .running → forward.isSome = true → g' = { g with next := some (searchStart t.ts set false) }) ∧
      (∀ n, g.run = .running → forward = none → g.next = some n → 0 ≤ n.phase + delta →
        g' = { g with next := some (if 1000000000 ≤ n.phase + delta then ⟨n.phase + delta - 1000000000, true⟩
          else ⟨n.phase + delta, false⟩) }) ∧
      (∀ n, g.run = .running → forward = none → g.next = some n → n.phase + delta < 0 →
        let after := n.phase + delta + 1000 * (set.period : Int)
        g' = { g with
          pulse := some ⟨ns set.width, !s.gen.inForce⟩
          next := some (if 1000000000 ≤ after then ⟨after - 1000000000, true⟩ else ⟨after, false⟩) })) ∧
    (s.begun = true → 0 < s.port.snapSkip →
      t.port.snapSkip = s.port.snapSkip - 1 ∧ t.port.snapPost = s.port.snapPost) ∧
    (s.begun = true → s.port.snapSkip = 0 → s.port.snapPost + 1 < s.cfg.snapPostscaler →
      t.port.snapSkip = 0 ∧ t.port.snapPost = s.port.snapPost + 1) ∧
    (s.begun = true → s.port.snapSkip = 0 → s.cfg.snapPostscaler ≤ s.port.snapPost + 1 →
      t.port.snapSkip = 0 ∧ t.port.snapPost = 0 ∧
      (⟨.port, t.ts.epoch, .snapshot, none, some (signed32 (reportBound s.solver.bound)), none⟩ : Posting) ∈
        t.port.outbox))

/-! ## MARK (R40 to R53) -/

/-- At its own slot time a JOINING or MEMBER node pulls MARK low for 8,000 ns and fills the own echo record; a line
low already is evidence LOW_AT_ASSERT. So it does at a slot time that a forward step has not passed, in the epoch that
the step opened (the model's choice, log entry 38). Any other slot time is raised and does nothing more (R40, R41,
R48, R49, R52). The mark that has lasted its time is released and watched for 2,000 ns; MARK still low at the end of
the watch sets the held-low result, which is evidence HELD_LOW (R40, R48, R49). The model's: log entries 1, 11, 38. -/
def Obligations.OwnMarkIsAssertedReleasedAndWatched : Prop :=
  (∀ (s : State) (k : NodeId), s.pointDue (.slot k) = true →
     let u := s.raise (.slot k)
     let records := u.mark.capture.isSome = true ∧ u.mark.fault = false
     (k ≠ s.mem.nodeId ∨ (s.mem.state ≠ .joining ∧ s.mem.state ≠ .member) →
       exec (.slotTime k) s = .next u) ∧
     (k = s.mem.nodeId → s.mem.state = .joining ∨ s.mem.state = .member → u.pins.mark = .high →
       exec (.slotTime k) s = .next { u with
         pins.mark := .low
         mark := { u.mark with
           drive := some (ns 8000)
           echo := if records then ⟨true, false, some u.stampNow, false⟩ else u.mark.echo
           candidate := some ⟨u.stampNow, 0, u.mark.highTime.getD 0, false⟩
           lowTimer := some 0
           recovery := none } }) ∧
     (k = s.mem.nodeId → s.mem.state = .joining ∨ s.mem.state = .member → u.pins.mark = .low →
       exec (.slotTime k) s = .next { u with
         mark := { u.mark with
           drive := some (ns 8000)
           echo := if records then ⟨true, true, none, false⟩ else u.mark.echo
           evidence := if records then u.mark.evidence.add .lowAtAssert else u.mark.evidence } })) ∧
  ((∀ (s : State) (r : Nat), s.mark.drive = some r → s.dueWithin r = true →
     let u := s.runTo (s.ts.sitePhase + r)
     exec .markRelease s = .next { u with
       mark := { u.mark with drive := none, heldWatch := some (ns 2000) } }) ∧
   (∀ (s : State) (r : Nat), s.mark.heldWatch = some r → s.dueWithin r = true →
     let u := s.runTo (s.ts.sitePhase + r)
     (u.pins.mark = .low → u.mark.echo.asserted = true → u.mark.fault = false →
       exec .heldLowTest s = .next { u with
         mark := { u.mark with
           heldWatch := none
           echo := { u.mark.echo with heldLow := true }
           evidence := if u.mark.capture.isSome then u.mark.evidence.add .heldLow else u.mark.evidence } }) ∧
     (u.pins.mark = .high ∨ u.mark.echo.asserted = false ∨ u.mark.fault = true →
       exec .heldLowTest s = .next { u with mark.heldWatch := none })))

/-- From BEGIN a fall of MARK becomes the edge candidate with its stamp, and starts the low timer (R41, R42, R51);
before BEGIN only the line moves, and a line that is low does not fall. A rise that the node does not itself hold off
ends the low period: a fall that lasted 2,000 ns is accepted at it, a shorter one was a glitch; a period shorter than
1,000,000 ns confirms the evidence pending on it, reported once for a set, of several pieces any one (R41, R42, R50,
R51, R53, R92). The model's: log entries 1, 4, 11, 12, 19, 33. -/
def Obligations.MarkFallsAndRisesBoundTheLowPeriod : Prop :=
  (∀ (s : State) (dt : Nat),
     let u := s.advance dt
     (s.begun = true → s.pins.mark = .high → exec (.markFall dt) s = .next { u with
       pins.mark := .low
       mark := { u.mark with candidate := some ⟨u.stampNow, 0, u.mark.highTime.getD 0, false⟩
                             lowTimer := some 0, recovery := none } }) ∧
     (s.begun = false → s.pins.mark = .high → exec (.markFall dt) s = .next { u with pins.mark := .low }) ∧
     (s.pins.mark = .low → exec (.markFall dt) s = .next u)) ∧
  (∀ (s : State) (dt low : Nat),
     let u := s.advance dt
     s.begun = true → s.pins.mark = .low → u.mark.drive = none → u.mark.lowTimer = some low →
     let b : State := match u.mark.candidate with
       | some c => if ns 2000 ≤ c.age then u.acceptMark c else { u with mark.candidate := none }
       | none => u
     let v : State := { b with
       pins.mark := .high
       mark := { b.mark with
         lowTimer := none
         heldWatch := none
         earlyOwn := b.mark.earlyOwn.rise low
         recovery := if s.mark.fault then some 0 else none
         highTime := if s.mark.fault then none
           else if ns 2000 ≤ low ∨ b.mark.highTime = none then some 0 else b.mark.highTime } }
     (b.mark.evidence.pending = [] → exec (.markRise dt) s = .next v.settle) ∧
     (ns 1000000 ≤ low → exec (.markRise dt) s = .next { v with mark.evidence.pending := [] }.settle) ∧
     (low < ns 1000000 → b.mark.evidence.reported = true →
       b.mark.evidence.pending ≠ [] → exec (.markRise dt) s = .next { v with mark.evidence := ⟨true, []⟩ }.settle) ∧
     (∀ cause, low < ns 1000000 → b.mark.evidence = ⟨false, [cause]⟩ →
       exec (.markRise dt) s = .next ({ v with mark.evidence := ⟨true, []⟩ }.report cause).settle) ∧
     (∀ c1 c2 cs, low < ns 1000000 → b.mark.evidence = ⟨false, c1 :: c2 :: cs⟩ →
       ∃ cause ∈ b.mark.evidence.pending, exec (.markRise dt) s =
         .next ({ v with mark.evidence := ⟨true, []⟩, freeCount := b.freeCount + 1 }.report cause).settle))

/-- In LISTEN and APART an accepted edge is something heard; after a high time of 500,000,000 ns it is a train
start, which closes the frame record and forms a coarse offset from the lowest sender in it (R41, R42, R84 to
R86). In IDLE mode, and during a line fault, the edge is passed over (R39, R52). The model's: log entry 1. -/
def Obligations.AcceptedEdgesAreHeardWhileListening : Prop :=
  ∀ (s : State) (c : MarkCandidate), s.mark.candidate = some c → s.dueWithin (ns 2000 - c.age) = true →
    s.port.outbox = [] →
    let u := s.runTo (s.ts.sitePhase + (ns 2000 - c.age))
    let v : State := { u with mark := { u.mark with candidate := none, highTime := none } }
    (s.mark.fault = true → exec .markEdgeAccept s = .next { u with mark.candidate := none }) ∧
    (s.mark.fault = false → s.mem.state = .unconfigured ∨ s.mem.state = .withdrawn ∨ s.mem.state = .conflict →
      exec .markEdgeAccept s = .next v) ∧
    (s.mark.fault = false → s.mem.state = .listen ∨ s.mem.state = .apart →
      (c.highBefore < ns 500000000 → exec .markEdgeAccept s = .next { v with mem.heard := true }) ∧
      (ns 500000000 ≤ c.highBefore → s.mem.frameRecord = [] →
        exec .markEdgeAccept s = .next { v with
          mem := { v.mem with heard := true, trainStart := true, closedRecord := [], frameRecord := []
                              history := [], newest := none } }) ∧
      (∀ first rest, ns 500000000 ≤ c.highBefore → s.mem.frameRecord = first :: rest →
        exec .markEdgeAccept s = .next { v with
          mem := { v.mem with
            heard := true, trainStart := true, closedRecord := first :: rest, frameRecord := []
            history := appendBounded 3 s.mem.history
              (fold ((c.stamp.phase : Int) - ns (62500 * first.sender.val)))
            newest := some ⟨c.stamp, first.sender⟩ } }))

/-- In WINDOWED mode, with a set open, an accepted edge is the own echo, a capture, a contest, an own-window
edge or stray, by the phase of its stamp (R41, R44, R46, R47, R49). In the early range of slot 0 it goes to the early
holding, or, accepted after the boundary, to slot 0 of the set that has opened since (R44, R45); for a node of ID 0 it
is an own-window edge (R49). The model's: log entries 1, 12. -/
def Obligations.AcceptedEdgesAreAttributedToSlots : Prop :=
  ∀ (s : State) (c : MarkCandidate) (set : CaptureSet), s.mark.candidate = some c →
    s.dueWithin (ns 2000 - c.age) = true → s.port.outbox = [] → s.mark.capture = some set →
    s.mark.fault = false → s.mem.state = .aligning ∨ s.mem.state = .joining ∨ s.mem.state = .member →
    let u := s.runTo (s.ts.sitePhase + (ns 2000 - c.age))
    let v : State := { u with mark := { u.mark with candidate := none, highTime := none } }
    (s.mark.echo.stamp = some c.stamp → exec .markEdgeAccept s = .next v) ∧
    (s.mark.echo.stamp ≠ some c.stamp → c.crossed = false → c.stamp.phase < ns 999975000 →
      (∀ k, inSlotWindow c.stamp.phase k → k = s.mem.nodeId →
        exec .markEdgeAccept s = .next { v with
          mark := { v.mark with evidence := s.mark.evidence.add .otherEdge } }) ∧
      (∀ k, inSlotWindow c.stamp.phase k → k ≠ s.mem.nodeId →
        let after : SlotReading := match set.slots.get k with
          | .none => .one ((c.stamp.phase : Int) - ns (62500 * k.val))
          | .one _ => .contested
          | .contested => .contested
        exec .markEdgeAccept s = .next { v with
          mark := { v.mark with
            capture := some { set with slots := set.slots.set k.val after k.isLt }
            contestedCount := if (set.slots.get k).isOne then min 65535 (s.mark.contestedCount + 1)
              else s.mark.contestedCount } }) ∧
      ((∀ k, ¬ inSlotWindow c.stamp.phase k) →
        let w : State := { v with mark := { v.mark with strayCount := min 65535 (s.mark.strayCount + 1)
                                                        strayEpoch := some s.ts.epoch } }
        exec .markEdgeAccept s = .next (if s.mark.strayEpoch = some s.ts.epoch then w
          else w.stored .strayMark none (some (signed32 (toNs c.stamp.phase)))))) ∧
    (s.mark.echo.stamp ≠ some c.stamp → c.crossed = false → ns 999975000 ≤ c.stamp.phase →
      (s.mem.nodeId = 0 → exec .markEdgeAccept s = .next { v with
        mark.earlyOwn := if s.mark.earlyOwn = .ended then .ended else .lasting }) ∧
      (s.mem.nodeId ≠ 0 → exec .markEdgeAccept s = .next { v with
        mark := { v.mark with
          early := match s.mark.early with
            | .none => .one ((c.stamp.phase : Int) - 16000000000)
            | .one _ => .contested
            | .contested => .contested
          contestedCount := if s.mark.early.isOne then min 65535 (s.mark.contestedCount + 1)
            else s.mark.contestedCount } })) ∧
    (s.mark.echo.stamp ≠ some c.stamp → c.crossed = true → ns 999975000 ≤ c.stamp.phase →
      (s.mem.nodeId = 0 → exec .markEdgeAccept s = .next { v with
        mark := { v.mark with evidence := s.mark.evidence.add .otherEdge } }) ∧
      (s.mem.nodeId ≠ 0 → exec .markEdgeAccept s = .next { v with
        mark := { v.mark with
          capture := some { set with slots := set.slots.set 0 (match set.slots.get 0 with
            | .none => .one ((c.stamp.phase : Int) - 16000000000)
            | .one _ => .contested
            | .contested => .contested) }
          contestedCount := if (set.slots.get 0).isOne then min 65535 (s.mark.contestedCount + 1)
            else s.mark.contestedCount } }))

/-- A line held low for 1,000,000 ns is declared stuck (R51): the line-fault flag is set, the open set and the early
holding are emptied, pending evidence is discarded, and so is an own-window edge of ID 0 that waits for its set (the
model's), LINE_FAULT is posted with the value 0; a listening node counts it as something heard and drops its history (R84, R86). With the flag set already, nothing more. After 1,000,000 ns
high with the flag set, each line has recovered; on WORD a pending frame whose range is open starts then (R53, R72, R78).
The model's: log entries 1, 12, 17. -/
def Obligations.StuckMarkLineSuspendsCaptureUntilItRecovers : Prop :=
  (∀ (s : State) (n : Nat), s.mark.lowTimer = some n → s.dueWithin (ns 1000000 - n) = true →
     s.port.outbox = [] →
     let u := s.runTo (s.ts.sitePhase + (ns 1000000 - n))
     (s.mark.fault = true → exec .markStuck s = .next u) ∧
     (s.mark.fault = false →
       let v : State := { u with
         mark := { u.mark with
           fault := true
           capture := u.mark.capture.map (fun c => { c with slots := emptySlots })
           early := .none
           earlyOwn := .none
           evidence := { u.mark.evidence with pending := [] }
           highTime := none }
         mem := if s.mem.state = .listen ∨ s.mem.state = .apart then
             { u.mem with heard := true, history := [], newest := none }
           else u.mem }
       exec .markStuck s = .next (v.stored .lineFault none (some 0)))) ∧
  ((∀ (s : State) (n : Nat), s.mark.recovery = some n → s.dueWithin (ns 1000000 - n) = true →
     let u := s.runTo (s.ts.sitePhase + (ns 1000000 - n))
     exec .markRecovery s = .next { u with
       mark := { u.mark with fault := false, recovery := none, highTime := some (ns 1000000) } }) ∧
   (∀ (s : State) (n : Nat), s.frame.recovery = some n → s.dueWithin (ns 1000000 - n) = true →
     let u := s.runTo (s.ts.sitePhase + (ns 1000000 - n))
     let w : State := { u with
       frame := { u.frame with fault := false, recovery := none, idleTimer := some (ns 48000), rx := .ready } }
     (w.nothingStarts → exec .wordRecovery s = .next w) ∧
     (∀ what f, w.starts what f → exec .wordRecovery s = .next (w.frameStarted what f))))

/-- The end of the mark region judges an ALIGNING node with a set open by whether any slot reads ONE (R90): the
fourth empty set running takes it back to LISTEN. It opens the range of a LEAVE, and one that is pending on an idle
line starts there (R72). The model's: log entries 1, 17. -/
def Obligations.AligningReadsTheCaptureSet : Prop :=
  ∀ (s : State), s.pointDue .endOfMark = true → s.port.outbox = [] →
    let u := s.raise .endOfMark
    (∀ what f, s.mem.state ≠ .aligning ∨ s.mark.capture = none → u.starts what f →
      exec .endOfMarkRegion s = .next (u.frameStarted what f)) ∧
    (s.mem.state ≠ .aligning ∨ s.mark.capture = none → u.nothingStarts → exec .endOfMarkRegion s = .next u) ∧
    (s.mem.state = .aligning → s.mark.capture.isSome = true → u.nothingStarts →
      ((∃ k, (s.readSlot k).isOne = true) → exec .endOfMarkRegion s = .next { u with
        mem := { u.mem with aligningCount := min 2 (s.mem.aligningCount + 1), emptyCount := 0 } }) ∧
      ((∀ k, (s.readSlot k).isOne = false) → s.mem.emptyCount < 3 →
        exec .endOfMarkRegion s = .next { u with
          mem := { u.mem with aligningCount := 0, emptyCount := s.mem.emptyCount + 1 } }) ∧
      ((∀ k, (s.readSlot k).isOne = false) → 3 ≤ s.mem.emptyCount →
        ∃ t, exec .endOfMarkRegion s = .next t ∧ t.mem.state = .listen ∧ t.mem.quietCount = 0 ∧
          t.mem.history = [] ∧ t.mem.frameRecord = [] ∧ t.mark.capture = none ∧ t.roster.entries = [] ∧
          t.port = (u.stored .membershipChange none (some 1)).port))

/-- Conflict evidence in an epoch is remembered for the next; a report while JOINING or MEMBER in the epoch
after one with evidence ends in CONFLICT: CONFLICT and MEMBERSHIP_CHANGE are posted, the roster is cleared,
the own mark is released and a LEAVE is requested (R82, R92, R93). -/
def Obligations.EvidenceInTwoEpochsIsConflict : Prop :=
  ∀ (s : State) (cause : Cause),
    (s.mem.state = .unconfigured ∨ s.mem.state = .withdrawn ∨ s.mem.state = .conflict → s.report cause = s) ∧
    (s.mem.state = .listen ∨ s.mem.state = .apart ∨ s.mem.state = .aligning ∨
        ((s.mem.state = .joining ∨ s.mem.state = .member) ∧ s.mem.evidenceLast = false) →
      s.report cause = { s with mem.evidenceThis := true }) ∧
    (s.mem.state = .joining ∨ s.mem.state = .member → s.mem.evidenceLast = true →
      let t := s.report cause
      t.mem.state = .conflict ∧ t.roster.entries = [] ∧ t.mark.drive = none ∧ t.mark.capture = none ∧
        t.frame.leave = some .conflict ∧
        (t.frame.talk = none ∨ (s.frame.inFlight = some .talk ∧ t.frame.talk = s.frame.talk)) ∧
        t.port.outbox = s.port.outbox ++
          [⟨.membership, s.ts.epoch, .conflict, none, some (signed32 cause.code), none⟩,
            ⟨.membership, s.ts.epoch, .membershipChange, none, some 7, none⟩] ∧
        t.solver.timing = s.solver.timing ∧ t.ref = s.ref ∧ t.gen = s.gen ∧ t.temp = s.temp) ∧
    (s.mem.shiftEvidence = { s.mem with evidenceLast := s.mem.evidenceThis, evidenceThis := false })

/-! ## WORD (R57 to R78) -/

/-- From BEGIN a fall of WORD starts the low timer; taken by a READY receiver it begins a reception, within a
reception it sets the start of the bit in progress, and otherwise the receiver waits for idle (R59, R61, R77, R78).
The receiver is READY on a line idle for 48,000 ns with no line fault and no reception in progress, and a start bit
empties it and puts its sample point 2,000 ns on (R59, R61, R78). A QUIET transmitter with a frame whose range is open
joins the start (R72). A rise that the node does not hold low stops the low timer; it restarts the idle timer unless
the low was a spike, and starts the recovery timer during a line fault (R59, R77, R78). Collision evidence whose low
period ends before 1,000,000 ns is confirmed, and the frame it dropped is gone for good (R74). The model's: log
entries 1, 10, 11, 17, 19, 29. -/
def Obligations.WordFallsAndRisesMoveTheReceiver : Prop :=
  (∀ (s : State) (dt : Nat),
     let u := s.advance dt
     (s.pins.word = .low → exec (.wordFall dt) s = .next u) ∧
     (s.begun = false → s.pins.word = .high → exec (.wordFall dt) s = .next { u with pins.word := .low }) ∧
     (s.begun = true → s.pins.word = .high → u.frame.readyNow = true →
       ((∀ what f, ¬ u.mayStart what f) ∨ u.frame.tx ≠ .quiet ∨ u.frame.txAge ≠ none →
         exec (.wordFall dt) s = .next { u with
           pins.word := .low
           frame := { u.frame.startBit with lowTimer := some 0, recovery := none } }) ∧
       (∀ what f, u.mayStart what f → u.frame.tx = .quiet → u.frame.txAge = none →
         exec (.wordFall dt) s = .next { u with
           pins.word := .low
           frame := { (u.frame.started what f).startBit with lowTimer := some 0, recovery := none } })) ∧
     (s.begun = true → s.pins.word = .high → u.frame.readyNow = false →
       (u.frame.rx = .starting ∨ u.frame.rx = .receiving → exec (.wordFall dt) s = .next { u with
         pins.word := .low
         frame := { u.frame with toSample := ns 2000, lowTimer := some 0, recovery := none } }) ∧
       (u.frame.rx = .ready ∨ u.frame.rx = .waitingIdle → exec (.wordFall dt) s = .next { u with
         pins.word := .low
         frame := { u.frame with rx := .waitingIdle, lowTimer := some 0, recovery := none } }))) ∧
  (∀ (s : State) (dt low : Nat),
     let u := s.advance dt
     s.begun = true → s.pins.word = .low → s.frame.txDriving = false → s.port.outbox = [] →
     u.frame.lowTimer = some low →
     let v : State := { u with
       pins.word := .high
       frame := { u.frame with
         lowTimer := none
         recovery := if s.frame.fault then some 0 else none
         idleTimer := if ns 2000 ≤ low ∨ u.frame.idleTimer = none then some 0 else u.frame.idleTimer
         collision := false
         returnedTalk := none
         returnedLeave := none } }
     (s.frame.collision = false ∨ ns 1000000 ≤ low → exec (.wordRise dt) s = .next v) ∧
     (s.frame.collision = true → low < ns 1000000 →
       exec (.wordRise dt) s = .next (v.report .payloadCollision).settle)) ∧
  (∀ u : FrameUnit,
     (u.readyNow = true ↔ u.idleTimer = some (ns 48000) ∧ u.fault = false ∧
       (u.rx = .ready ∨ u.rx = .waitingIdle)) ∧
     u.startBit = { u with rx := .starting, rxBits := [], rxRun := 0, rxOwn := false, toSample := ns 2000 } ∧
     (u.readyNow = true → u.takeFall = u.startBit) ∧
     (u.readyNow = false → u.rx = .starting ∨ u.rx = .receiving → u.takeFall = { u with toSample := ns 2000 }) ∧
     (u.readyNow = false → u.rx = .ready ∨ u.rx = .waitingIdle → u.takeFall = { u with rx := .waitingIdle }))

/-- When the line has stayed high for 48,000 ns the receiver is READY and a reception not complete is truncated
(R59, R61, R63); a pending frame whose range is open starts (R72). During a line fault, and with a start bit's fall
awaiting its sample point, nothing comes of it (R61, R78). The model's: log entries 1, 11, 17. -/
def Obligations.IdleLineLetsAFrameStart : Prop :=
  ∀ (s : State) (r : Nat), s.frame.toIdle = some r → s.dueWithin r = true →
    let u := s.runTo (s.ts.sitePhase + r)
    let ready : FrameUnit :=
      if s.frame.rx = .receiving then
        { u.frame.stopped (.faulty .truncated (senderTaken s.frame.rxBits)) with rx := .ready }
      else { u.frame with rx := .ready }
    (s.frame.fault = true ∨ s.frame.rx = .starting → exec .lineIdle s = .next u) ∧
    (s.frame.fault = false → s.frame.rx ≠ .starting →
      (∀ what f, ¬ u.mayStart what f) ∨ s.frame.tx ≠ .quiet ∨ s.frame.txAge ≠ none →
      exec .lineIdle s = .next { u with frame := ready }) ∧
    (∀ what f, s.frame.fault = false → s.frame.rx ≠ .starting → s.begun = true → s.pins.word = .high →
      u.frame.idleTimer = some (ns 48000) → u.mayStart what f → s.frame.tx = .quiet → s.frame.txAge = none →
      exec .lineIdle s = .next ({ u with frame := ready }.frameStarted what f))

/-- At its sample point a start bit is found or was a spike; a bit received joins those taken, a stuff bit is
removed, a missing one is a TRUNCATED fault, and the last bit completes the frame (R58, R60, R61, R63). A sound frame
already arrived as the node's own is not judged (R76). Where the sender's sample point is the same instant, the sender
reads first (R58, R73). The model's: log entries 1, 5, 29, 30. -/
def Obligations.ReceiverTakesABitAtItsSamplePoint : Prop :=
  ∀ (s : State) (r : Nat), earlier s.frame.toReceiverSample s.frame.toSenderSample = some r →
    s.dueWithin r = true →
    let u := s.runTo (s.ts.sitePhase + r)
    u.frame.toSample = 0 →
    ∀ v : FrameUnit, (u.frame.toSenderSample = some 0 → v = u.frame.senderReads s.pins.word) →
    (u.frame.toSenderSample ≠ some 0 → v = u.frame) →
    let bit := decide (s.pins.word = .high)
    let bits := s.frame.rxBits ++ [bit]
    let w : FrameUnit := { v with rxBits := bits, rxRun := if bit then s.frame.rxRun + 1 else 0
                                  toSample := ns 4000 }
    (s.frame.rx = .starting →
      (s.pins.word = .high → exec .wordSamplePoint s = .next { u with frame := { v with rx := .ready } }) ∧
      (s.pins.word = .low → exec .wordSamplePoint s = .next { u with
        frame := { v with rx := .receiving, rxBits := [false], rxRun := 0, rxOwn := false, toSample := ns 4000 } })) ∧
    (s.frame.rx = .receiving → s.frame.rxRun < 8 →
      (progressOf bits = .going → exec .wordSamplePoint s = .next { u with frame := w }) ∧
      (progressOf bits = .complete → s.frame.rxOwn = false ∨ crcPasses bits = false →
        exec .wordSamplePoint s = .next { u with
          frame := w.stopped (.arrived (frameOf bits) (crcPasses bits)) }) ∧
      (progressOf bits = .complete → s.frame.rxOwn = true → crcPasses bits = true →
        exec .wordSamplePoint s = .next { u with
          frame := { w with receipt := none, rx := .waitingIdle, rxBits := [], rxRun := 0, rxOwn := false } }) ∧
      (∀ kind, progressOf bits = .fault kind → exec .wordSamplePoint s = .next { u with
        frame := w.stopped (.faulty kind (senderTaken bits)) })) ∧
    (s.frame.rx = .receiving → 8 ≤ s.frame.rxRun →
      (s.pins.word = .low → exec .wordSamplePoint s = .next { u with
        frame := { v with rxRun := 0, toSample := ns 4000 } }) ∧
      (s.pins.word = .high → exec .wordSamplePoint s = .next { u with
        frame := v.stopped (.faulty .truncated (senderTaken s.frame.rxBits)) }))

/-- A sender reads each bit it sends 2,000 ns after the bit's start, and after the last ID bit, the line reading
as driven, it is SENDING, whatever its own receiver does (R58, R73); a sample point that the two share is the
receiver's statement. At 4,000 ns the next bit starts: a recessive one releases the line, a
dominant one pulls it low; after the last bit of a frame already arrived as its own, the line is released
(R58, R76). The model's: log entries 1, 11, 29, 30. -/
def Obligations.SenderReadsAndDrivesItsBits : Prop :=
  (∀ (s : State) (r : Nat), earlier s.frame.toReceiverSample s.frame.toSenderSample = some r →
    s.dueWithin r = true →
    let u := s.runTo (s.ts.sitePhase + r)
    (u.frame.toReceiverSample ≠ some 0 → u.frame.toSenderSample = some 0 →
      exec .wordSamplePoint s = .next { u with frame := u.frame.senderReads s.pins.word })) ∧
  (∀ (s : State) (a : Nat) (l : Level), s.frame.tx ≠ .quiet → s.frame.txAge = some a →
    s.frame.txRead = some l → s.frame.mismatch = false → s.frame.atLastBit = false →
    s.dueWithin (ns 4000 - a) = true →
    let u := s.runTo (s.ts.sitePhase + (ns 4000 - a))
    let next := s.frame.txBits.getD (s.frame.txPos + 1) true
    let w : FrameUnit := { u.frame with txPos := s.frame.txPos + 1, txAge := some 0, txRead := none
                                        txDriving := !next }
    (next = true ∨ s.pins.word = .low → exec .wordBitStart s = .next { u with frame := w }) ∧
    (next = false → s.pins.word = .high → s.begun = true → exec .wordBitStart s = .next { u with
      pins.word := .low
      frame := { w.takeFall with lowTimer := some 0, recovery := none } })) ∧
  (∀ (s : State) (a : Nat), s.frame.tx = .quiet → s.frame.txAge = some a → s.dueWithin (ns 4000 - a) = true →
    let u := s.runTo (s.ts.sitePhase + (ns 4000 - a))
    exec .wordBitStart s = .next { u with frame := u.frame.quieted })

/-- A node that reads dominant on a recessive bit while ARBITRATING has lost: it lets the line go and its frame stays
pending, but a talk frame with a LEAVE pending is discarded (R73); so is one whose node has left JOINING and MEMBER
with no LEAVE pending, as after WITHDRAW and RESUME, which R73 does not say (the model's choice, log entry 18). One
that reads it while SENDING has met a payload collision: it lets the line go, drops the frame with its returned flag
set, not counted as unsent, and holds evidence pending (R74). Without such a bit neither event occurs. A frame
compared through its last bit with no mismatch arrives as the node's own: it leaves the transmit slot and is not
delivered, though its own receiver may have bits of it still to take; its own reception is left to FRAME_ERROR where
it failed a check (R76). The model's: log entries 1, 5, 18, 29. -/
def Obligations.MismatchOrArrivalEndsTheSending : Prop :=
  ((∀ (s : State),
      (s.frame.tx = .arbitrating → s.frame.txBit = true → s.frame.txRead = some .low →
        exec .arbitrationLoss s = .next { s with
          frame := { s.frame.quieted with
            talk := if s.frame.inFlight = some .talk ∧ (s.frame.leave.isSome = true ∨
                (s.mem.state ≠ .joining ∧ s.mem.state ≠ .member)) then none
              else s.frame.talk } }) ∧
      (s.frame.tx ≠ .arbitrating ∨ s.frame.txBit = false ∨ s.frame.txRead ≠ some .low →
        exec .arbitrationLoss s = .next s)) ∧
   ((∀ (s : State) (f : Frame), s.frame.tx = .sending → s.frame.txBit = true → s.frame.txRead = some .low →
      s.frame.inFlight = some .talk → s.frame.talk = some f →
      exec .payloadCollision s = .next { s with
        frame := { s.frame.quieted with
          talk := none
          returnedTalk := some ⟨f, !s.frame.windowOpen,
            s.frame.leave.isSome || !(decide (s.mem.state = .joining) || decide (s.mem.state = .member))⟩
          collision := true } }) ∧
    (∀ (s : State) (r : LeaveReason), s.frame.tx = .sending → s.frame.txBit = true →
      s.frame.txRead = some .low → s.frame.inFlight = some .leave → s.frame.leave = some r →
      exec .payloadCollision s = .next { s with
        frame := { s.frame.quieted with
          leave := none
          returnedLeave := some ⟨r, s.frame.leaveVoid⟩
          collision := true } }) ∧
    (∀ (s : State), s.frame.tx ≠ .sending ∨ s.frame.txBit = false ∨ s.frame.txRead ≠ some .low →
      exec .payloadCollision s = .next s))) ∧
  (∀ (s : State),
     (∀ l, s.frame.tx = .sending → s.frame.txPos + 1 = s.frame.txBits.length → s.frame.txRead = some l →
       (s.frame.txBit = false ∨ l = .high) →
       let own : Option Receipt := match s.frame.receipt with
         | some (.arrived _ true) => none
         | some (.arrived f false) => some (.arrived f false)
         | some (.faulty k x) => some (.faulty k x)
         | none => none
       let rest := if s.frame.receipt = none then decide (s.frame.rx = .receiving) else s.frame.rxOwn
       (s.frame.inFlight = some .talk → exec .frameSent s = .next { s with
         frame := { s.frame with talk := none, inFlight := none, tx := .quiet, receipt := own, rxOwn := rest } }) ∧
       (s.frame.inFlight = some .leave → exec .frameSent s = .next { s with
         frame := { s.frame with leave := none, inFlight := none, tx := .quiet, receipt := own, rxOwn := rest } })) ∧
     (s.frame.tx ≠ .sending ∨ s.frame.txRead = none → exec .frameSent s = .next s))

/-- A WORD line held low for 1,000,000 ns is declared stuck (R77): LINE_FAULT with the value 1, the reception
abandoned, pending evidence discarded; a frame dropped by a collision comes back to the transmit slot, or is
dropped as at the close, or is gone. With the flag set already, nothing more. The model's: log entries 1, 18, 23. -/
def Obligations.StuckWordLineReturnsTheDroppedFrame : Prop :=
  ∀ (s : State) (n : Nat), s.frame.lowTimer = some n → s.dueWithin (ns 1000000 - n) = true →
    s.port.outbox = [] →
    let u := s.runTo (s.ts.sitePhase + (ns 1000000 - n))
    let v : State := { u with
      frame := { u.frame.quieted with
        fault := true, rx := .waitingIdle, rxBits := [], rxRun := 0, rxOwn := false, collision := false
        returnedTalk := none, returnedLeave := none } }
    (s.frame.fault = true → exec .wordStuck s = .next u) ∧
    (s.frame.fault = false → s.frame.returnedTalk = none → s.frame.returnedLeave = none →
      exec .wordStuck s = .next (v.stored .lineFault none (some 1))) ∧
    (∀ f closed void, s.frame.fault = false → s.frame.returnedTalk = some ⟨f, closed, void⟩ →
      s.frame.returnedLeave = none →
      (void = true → exec .wordStuck s = .next (v.stored .lineFault none (some 1))) ∧
      (void = false → closed = true → exec .wordStuck s = .next
        (({ v with frame.unsent := min 65535 (s.frame.unsent + 1) }.stored .lineFault none (some 1)).stored
          .censusUnsent none (some (if f.kind = FrameKind.census then 1 else 2)))) ∧
      (void = false → closed = false → exec .wordStuck s = .next
        ({ v with frame.talk := some f }.stored .lineFault none (some 1)))) ∧
    (∀ r void, s.frame.fault = false → s.frame.returnedTalk = none →
      s.frame.returnedLeave = some ⟨r, void⟩ → s.frame.leave = none →
      exec .wordStuck s = .next
        ({ v with frame.leave := if void then none else some r }.stored .lineFault none (some 1)))

/-- Each faulty reception is discarded and raises the count of its kind, and the first of an epoch posts
FRAME_ERROR with its kind and, where the ID field was taken, its sender (R62, R64). A frame with the node's own ID that
it did not send is evidence FRAME_OWN_ID, and something heard while listening; it is neither delivered nor counted
(R67, R84). The model's: log entries 1, 29. -/
def Obligations.FaultyAndOwnIdFramesAreNotDelivered : Prop :=
  (∀ (s : State) (kind : ErrorKind) (subject : Option NodeId), s.port.outbox = [] →
     s.frame.receipt = some (.faulty kind subject) ∨
       (kind = .crc ∧ ∃ f, s.frame.receipt = some (.arrived f false) ∧ subject = some f.sender) →
     let v : State := { s with
       frame := { s.frame with
         receipt := none
         crcErrors := if kind = .crc then min 65535 (s.frame.crcErrors + 1) else s.frame.crcErrors
         formatErrors := if kind = .format then min 65535 (s.frame.formatErrors + 1) else s.frame.formatErrors
         truncatedErrors := if kind = .truncated then min 65535 (s.frame.truncatedErrors + 1)
           else s.frame.truncatedErrors
         epochErrors := if kind = .epoch then min 65535 (s.frame.epochErrors + 1) else s.frame.epochErrors
         errorEpoch := some s.ts.epoch } }
     (s.frame.errorEpoch = some s.ts.epoch → exec .frameError s = .next v) ∧
     (s.frame.errorEpoch ≠ some s.ts.epoch → exec .frameError s = .next (v.stored .frameError subject
       (some (match kind with | .crc => 0 | .format => 1 | .truncated => 2 | .epoch => 3))))) ∧
  (∀ (s : State) (f : Frame), s.frame.receipt = some (.arrived f true) → s.frame.tx = .quiet →
     f.sender = s.mem.nodeId → s.port.outbox = [] →
     let c : Instr := match f.kind with
       | .census => .censusReceived
       | .join => .joinReceived
       | .leave => .leaveReceived
     let v : State := { s with frame.receipt := none }
     (s.mem.state = .listen ∨ s.mem.state = .apart →
       exec c s = .next { v with mem := { s.mem with heard := true, evidenceThis := true } }) ∧
     (s.mem.state = .aligning ∨ ((s.mem.state = .joining ∨ s.mem.state = .member) ∧ s.mem.evidenceLast = false) →
       exec c s = .next { v with mem.evidenceThis := true }) ∧
     (s.mem.state = .joining ∨ s.mem.state = .member → s.mem.evidenceLast = true →
       exec c s = .next (v.report .frameOwnId).settle) ∧
     (s.mem.state = .unconfigured ∨ s.mem.state = .withdrawn ∨ s.mem.state = .conflict → exec c s = .next v))

/-- The talk window opens; a MEMBER builds its CENSUS and keeps the opening mask, a JOINING node its JOIN, each with
one observation for every slot it reports that reads ONE (R68 to R70, R111). On an idle line the frame starts at once,
and so does a LEAVE that is pending (R72). At the close a talk frame not in flight is dropped: the unsent count rises and
CENSUS_UNSENT names its kind; one in flight goes on (R75), and one dropped by a collision will not come back to a closed
window (R77). A LEAVE requested while a talk frame is in flight waits for its end; requested at the very instant of the
opening, it discards the talk frame, start and all, and starts in its place (R71, R72). The model's: log entries 1, 11,
17. -/
def Obligations.TalkWindowBuildsAndDropsTheTalkFrame : Prop :=
  (∀ (s : State), s.pointDue .talkOpen = true →
     let u := s.raise .talkOpen
     let seen : List NodeId → List Observation := fun ids => ids.filterMap (fun k =>
       match s.readSlot k with
       | .one m => some ⟨k, m⟩
       | .none | .contested => none)
     let census : Frame := .census s.mem.nodeId s.ts.epoch s.cfg.cls
       { timing := s.solver.timing
         overBudget := s.solver.overBudget
         bound := if s.solver.timing = .free ∨ s.solver.timing = .acquiring then 65535
           else reportBound s.solver.bound
         mask := s.roster.ownMask } (seen (s.roster.entries.map (·.id)))
     let join : Frame := .join s.mem.nodeId s.ts.epoch s.cfg.cls (seen allIds)
     let busy := u.frame.idle = false ∨ u.frame.tx ≠ .quiet ∨ u.frame.txAge ≠ none
     (s.mem.state = .unconfigured → exec .talkWindowOpening s = .next u) ∧
     (s.mem.state = .member → busy → exec .talkWindowOpening s = .next { u with
       frame := { u.frame with windowOpen := true, talk := some census }
       roster.openingMask := some s.roster.ownMask }) ∧
     (s.mem.state = .joining → busy → exec .talkWindowOpening s = .next { u with
       frame := { u.frame with windowOpen := true, talk := some join } }) ∧
     (s.mem.state = .listen ∨ s.mem.state = .apart ∨ s.mem.state = .aligning ∨ s.mem.state = .withdrawn ∨
         s.mem.state = .conflict →
       let w : State := { u with frame.windowOpen := true }
       (w.nothingStarts → exec .talkWindowOpening s = .next w) ∧
       (∀ what f, w.starts what f → exec .talkWindowOpening s = .next (w.frameStarted what f))) ∧
     (∀ f, (s.mem.state = .member ∧ f = census) ∨ (s.mem.state = .joining ∧ f = join) → ¬ busy →
       ∃ t, exec .talkWindowOpening s = .next t ∧
         t.frame.talk = some f ∧ t.frame.inFlight = some .talk ∧ t.frame.tx = .arbitrating ∧
         t.frame.txBits = f.lineBits ∧ t.frame.txDriving = true ∧ t.pins.word = .low ∧
         t.roster = (if s.mem.state = .member then { s.roster with openingMask := some s.roster.ownMask }
           else s.roster))) ∧
  (∀ (s : State), s.pointDue .talkClose = true → s.port.outbox = [] →
     let returned := s.frame.returnedTalk.map (fun r => { r with windowClosed := true })
     let u := s.raise .talkClose
     (s.frame.talk = none ∨ s.frame.inFlight = some .talk →
       exec .talkWindowClosing s = .next { u with
         frame := { u.frame with windowOpen := false, returnedTalk := returned } }) ∧
     (∀ f, s.frame.talk = some f → s.frame.inFlight ≠ some .talk →
       exec .talkWindowClosing s = .next ({ u with
         frame := { u.frame with windowOpen := false, talk := none, returnedTalk := returned
                                 unsent := min 65535 (s.frame.unsent + 1) } }.stored
           .censusUnsent none (some (if f.kind = FrameKind.census then 1 else 2))))) ∧
  (∀ (s : State) (r : LeaveReason), s.frame.inFlight = some .talk → s.frame.tx ≠ .quiet →
     let opensNow := s.frame.windowOpen = true ∧ s.ts.tau = s.ts.tauFor (ns 2000000)
     let f : Frame := .leave s.mem.nodeId s.ts.epoch r
     let requested : FrameUnit := { s.frame with
       leave := some r, leaveVoid := false
       returnedTalk := s.frame.returnedTalk.map (fun x => { x with void := true }) }
     (¬ opensNow → s.requestLeave r = { s with frame := requested }) ∧
     (opensNow → ns 1000000 ≤ s.ts.sitePhase → s.frame.idleTimer = some (ns 48000) → s.frame.fault = false →
       s.frame.rx = .starting → s.pins.word = .low →
       s.requestLeave r = { s with frame := { requested with
         talk := none, inFlight := some .leave, tx := .arbitrating, txBits := f.lineBits, txPos := 0, txAge := some 0
         txRead := none, txDriving := true } }))

/-! ## Arrivals and the roster (R65 to R67, R84, R85, R99 to R117) -/

/-- A good CENSUS at a MEMBER is recorded in its sender's entry, with the sample that the pair of captures gives, and
entered in the epoch difference table with difference 0 (R66, R102, R103, R104, R115). From a sender without an entry
it makes a HEARD one where its slot reads ONE, the admission mask permits it and fewer than 8 are held; a full roster
posts ROSTER_FULL once (R100, R101). A ring of samples holds 16 at most, the newest last; a sample of the newest one's
epoch replaces it, and a seventeenth pushes the oldest out (R104). Entries and rows are one per ID, in ascending order
of ID; a recorded entry changes no other, and a row entered again keeps its run (R100, R115). The model's: log entries
1, 29. -/
def Obligations.GoodCensusIsRecordedAndSampled : Prop :=
  (∀ (s : State) (k : NodeId) (cls : OscClass) (d : Declared) (obs : List Observation) (e : Entry),
     s.frame.receipt = some (.arrived (.census k s.ts.epoch cls d obs) true) → s.frame.tx = .quiet →
     k ≠ s.mem.nodeId → s.mem.state = .member → s.port.outbox = [] →
     s.roster.entries.find? (fun x => x.id = k) = some e →
     let noted : Entry := { e with cls := cls, declared := some d, lastEpoch := s.ts.epoch, received := .census }
     let sampled : Entry := match s.readSlot k, obs.find? (fun o => o.peer = s.mem.nodeId), e.delay with
       | .one m, some o, _ => { noted with
           delay := some (Int.tdiv (m + o.offset) 2)
           ring := placeSample e.ring ⟨s.ts.epoch, Int.tdiv (o.offset - m) 2, .twoWay⟩
           sampled := true }
       | .one m, none, some x => { noted with
           ring := placeSample e.ring ⟨s.ts.epoch, x - m, .oneWay⟩
           sampled := true }
       | .one _, none, none => noted
       | .none, _, _ => noted
       | .contested, _, _ => noted
     exec .censusReceived s = .next { s with
       frame.receipt := none
       roster := { s.roster with
         entries := replaceEntry sampled s.roster.entries
         diffs := enterRow k ⟨0, decide (d.timing = .anchored)⟩ s.roster.diffs } }) ∧
  (∀ (s : State) (k : NodeId) (cls : OscClass) (d : Declared) (obs : List Observation),
     s.frame.receipt = some (.arrived (.census k s.ts.epoch cls d obs) true) → s.frame.tx = .quiet →
     k ≠ s.mem.nodeId → s.mem.state = .member → s.port.outbox = [] →
     s.roster.entries.find? (fun x => x.id = k) = none →
     let v : State := { s with
       frame.receipt := none
       roster.diffs := enterRow k ⟨0, decide (d.timing = .anchored)⟩ s.roster.diffs }
     let fresh : Entry :=
       { id := k, state := .heard, cause := none, goodRun := 0, censusMiss := 0, markMiss := 0
         deviation := 0, restore := 0, mismatch := 0, mismatchPosted := false, cls := cls, declared := some d
         lastEpoch := s.ts.epoch, delay := none, ring := [], received := .census, marked := false
         sampled := false }
     (maskHas s.cfg.admission k = false ∨ (s.readSlot k).isOne = false → exec .censusReceived s = .next v) ∧
     (∀ m, maskHas s.cfg.admission k = true → s.readSlot k = .one m → s.roster.entries.length < 8 →
       let e : Entry := match obs.find? (fun o => o.peer = s.mem.nodeId) with
         | some o => { fresh with
             delay := some (Int.tdiv (m + o.offset) 2)
             ring := [⟨s.ts.epoch, Int.tdiv (o.offset - m) 2, .twoWay⟩]
             sampled := true }
         | none => fresh
       exec .censusReceived s = .next { v with roster.entries := insertEntry e s.roster.entries }) ∧
     (∀ m, maskHas s.cfg.admission k = true → s.readSlot k = .one m → 8 ≤ s.roster.entries.length →
       (k ∈ s.roster.fullPosted → exec .censusReceived s = .next v) ∧
       (k ∉ s.roster.fullPosted → exec .censusReceived s = .next
         ({ v with roster.fullPosted := s.roster.fullPosted ++ [k] }.stored .rosterFull (some k) none)))) ∧
  (∀ (ring older : List Sample) (newest x : Sample),
     placeSample [] x = [x] ∧
     (ring = older ++ [newest] →
       (newest.epoch = x.epoch → placeSample ring x = older ++ [x]) ∧
       (newest.epoch ≠ x.epoch → ring.length < 16 → placeSample ring x = ring ++ [x]) ∧
       (newest.epoch ≠ x.epoch → ring.length = 16 → placeSample ring x = ring.tail ++ [x])) ∧
     (ring.length ≤ 16 → (placeSample ring x).length ≤ 16 ∧ (placeSample ring x).getLast? = some x)) ∧
  (∀ (e x : Entry) (entries : List Entry),
     replaceEntry e entries = entries.map (fun y => if y.id = e.id then e else y) ∧
     (x ∈ insertEntry e entries ↔ x = e ∨ x ∈ entries) ∧ (insertEntry e entries).length = entries.length + 1 ∧
     ((∀ y ∈ entries, y.id ≠ e.id) → ascending entries → ascending (insertEntry e entries))) ∧
  (∀ (k : NodeId) (c : DiffColumns) (r : DiffRow) (rows : List DiffRow),
     (r.id ≠ k → (r ∈ enterRow k c rows ↔ r ∈ rows)) ∧
     (∃ x ∈ enterRow k c rows, x.id = k ∧ x.now = some c) ∧
     (rows.Pairwise (fun a b => a.id < b.id) →
       (enterRow k c rows).Pairwise (fun a b => a.id < b.id) ∧
       (r ∈ rows → r.id = k → { r with now := some c } ∈ enterRow k c rows) ∧
       ((∀ x ∈ rows, x.id ≠ k) → (⟨k, some c, 0, 0⟩ : DiffRow) ∈ enterRow k c rows)))

/-- A CENSUS whose epoch number differs from a MEMBER's own is an EPOCH error and is not delivered; its sender
counts as heard, gives no sample, and its difference enters the table (R64, R65, R114, R115). The model's: log
entries 1, 29. -/
def Obligations.MismatchedCensusGivesANotice : Prop :=
  ∀ (s : State) (k : NodeId) (e : Epoch) (cls : OscClass) (d : Declared) (obs : List Observation),
    s.frame.receipt = some (.arrived (.census k e cls d obs) true) → s.frame.tx = .quiet →
    k ≠ s.mem.nodeId → s.mem.state = .member → e ≠ s.ts.epoch → s.port.outbox = [] →
    let heard : Entry → Entry := fun x => { x with
      lastEpoch := s.ts.epoch
      received := if x.received = .none then .mismatched else x.received }
    let v : State := { s with
      frame := { s.frame with receipt := none, epochErrors := min 65535 (s.frame.epochErrors + 1)
                              errorEpoch := some s.ts.epoch }
      roster := { s.roster with
        entries := match s.roster.entries.find? (fun x => x.id = k) with
          | some x => replaceEntry (heard x) s.roster.entries
          | none => s.roster.entries
        diffs := enterRow k ⟨e - s.ts.epoch, decide (d.timing = .anchored)⟩ s.roster.diffs } }
    exec .censusReceived s = .next (if s.frame.errorEpoch = some s.ts.epoch then v
      else v.stored .frameError (some k) (some 3))

/-- A good JOIN at a MEMBER is recorded in its sender's entry, with the sample that the captures give, and leaves the
epoch difference table as it is (R102 to R104, R115). From a sender without an entry it makes a HEARD one where its
slot reads ONE, the admission mask permits it and fewer than 8 are held; a full roster posts ROSTER_FULL once (R100 to
R103). A good LEAVE in any membership state removes its sender's entry at once, empties the full-posted set, clears
the sender's row and posts PEER_REMOVED with the reason; without an entry it changes nothing in the roster; in LISTEN
and APART it is a frame heard (R66, R84, R101, R110, R143). The model's: log entries 1, 29. -/
def Obligations.JoinsAndLeavesChangeTheRoster : Prop :=
  (∀ (s : State) (k : NodeId) (ep : Epoch) (cls : OscClass) (obs : List Observation) (e : Entry),
     s.frame.receipt = some (.arrived (.join k ep cls obs) true) → s.frame.tx = .quiet →
     k ≠ s.mem.nodeId → s.mem.state = .member → s.port.outbox = [] →
     s.roster.entries.find? (fun x => x.id = k) = some e →
     let noted : Entry := { e with cls := cls, lastEpoch := s.ts.epoch, received := .join }
     let sampled : Entry := match s.readSlot k, obs.find? (fun o => o.peer = s.mem.nodeId), e.delay with
       | .one m, some o, _ => { noted with
           delay := some (Int.tdiv (m + o.offset) 2)
           ring := placeSample e.ring ⟨s.ts.epoch, Int.tdiv (o.offset - m) 2, .twoWay⟩
           sampled := true }
       | .one m, none, some x => { noted with
           ring := placeSample e.ring ⟨s.ts.epoch, x - m, .oneWay⟩
           sampled := true }
       | .one _, none, none => noted
       | .none, _, _ => noted
       | .contested, _, _ => noted
     exec .joinReceived s = .next { s with
       frame.receipt := none
       roster.entries := replaceEntry sampled s.roster.entries }) ∧
  (∀ (s : State) (k : NodeId) (ep : Epoch) (cls : OscClass) (obs : List Observation),
     s.frame.receipt = some (.arrived (.join k ep cls obs) true) → s.frame.tx = .quiet →
     k ≠ s.mem.nodeId → s.mem.state = .member → s.port.outbox = [] →
     s.roster.entries.find? (fun x => x.id = k) = none →
     let v : State := { s with frame.receipt := none }
     let fresh : Entry :=
       { id := k, state := .heard, cause := none, goodRun := 0, censusMiss := 0, markMiss := 0
         deviation := 0, restore := 0, mismatch := 0, mismatchPosted := false, cls := cls, declared := none
         lastEpoch := s.ts.epoch, delay := none, ring := [], received := .join, marked := false
         sampled := false }
     (maskHas s.cfg.admission k = false ∨ (s.readSlot k).isOne = false → exec .joinReceived s = .next v) ∧
     (∀ m, maskHas s.cfg.admission k = true → s.readSlot k = .one m → s.roster.entries.length < 8 →
       let e : Entry := match obs.find? (fun o => o.peer = s.mem.nodeId) with
         | some o => { fresh with
             delay := some (Int.tdiv (m + o.offset) 2)
             ring := [⟨s.ts.epoch, Int.tdiv (o.offset - m) 2, .twoWay⟩]
             sampled := true }
         | none => fresh
       exec .joinReceived s = .next { v with roster.entries := insertEntry e s.roster.entries }) ∧
     (∀ m, maskHas s.cfg.admission k = true → s.readSlot k = .one m → 8 ≤ s.roster.entries.length →
       (k ∈ s.roster.fullPosted → exec .joinReceived s = .next v) ∧
       (k ∉ s.roster.fullPosted → exec .joinReceived s = .next
         ({ v with roster.fullPosted := s.roster.fullPosted ++ [k] }.stored .rosterFull (some k) none)))) ∧
  (∀ (s : State) (k : NodeId) (ep : Epoch) (r : LeaveReason),
     s.frame.receipt = some (.arrived (.leave k ep r) true) → s.frame.tx = .quiet →
     k ≠ s.mem.nodeId → s.port.outbox = [] →
     let v : State := { s with
       frame.receipt := none
       mem.heard := if s.mem.state = .listen ∨ s.mem.state = .apart then true else s.mem.heard }
     ((∀ e ∈ s.roster.entries, e.id ≠ k) → exec .leaveReceived s = .next v) ∧
     ((∃ e ∈ s.roster.entries, e.id = k) → exec .leaveReceived s = .next
       ({ v with
         roster := { s.roster with
           entries := s.roster.entries.filter (fun e => e.id ≠ k)
           fullPosted := []
           diffs := s.roster.diffs.filter (fun d => d.id ≠ k) }
         solver := { s.solver with
           lastC := s.solver.lastC.filter (fun j => j ≠ k)
           lastA := s.solver.lastA.filter (fun j => j ≠ k) } }.stored .peerRemoved (some k)
         (some (match r with | .command => 1 | .supply => 2 | .conflict => 3)))))

/-- Outside MEMBER a good CENSUS or JOIN is recorded in its sender's entry, or makes one, whatever number it carries,
and is not entered in the difference table (R65, R66, R100 to R103, R115). A JOINING node also notes that it heard
something, and of a CENSUS whether its mask lists the node (R91); in LISTEN and APART it is noted in the frame record,
one note per sender in order of ID, and without a converged history no more (R84, R85, R87). A history is converged
where three offsets lie within 2,000 ns of each other (R86). A converged one decides at the frame: within 25,000 ns
the node enters ALIGNING with both counts 0 and MEMBERSHIP_CHANGE; beyond it, with the reference QUALIFIED, a LISTEN
node goes APART with ENSEMBLE_FAR and an APART one stays; otherwise the timing state goes FREE, a step of the newest
offset's negative is requested, and the node enters ALIGNING (R87, R89, R144). The number it adopts (R88) is that of
the lowest-ID sender that declared ANCHORED, else the one carried by most CENSUS senders, else by most senders, the
lowest ID deciding among equals; counted forward from the train start to the running epoch. At the boundary proper
that applies an adoption the epoch takes the number after it, the unit that asked for it posts EPOCH_ADOPTED with the
number replaced, and the roster's epoch numbers move with it (R88, R104, R117). The model's: log entries 1, 21, 29. -/
def Obligations.AlignmentIsDecidedAndNumbered : Prop :=
  (∀ (s : State) (f : Frame) (c : Instr), s.frame.receipt = some (.arrived f true) → s.frame.tx = .quiet →
     (c = .censusReceived ∧ f.kind = .census) ∨ (c = .joinReceived ∧ f.kind = .join) →
     f.sender ≠ s.mem.nodeId → s.mem.state ≠ .member → s.port.outbox = [] →
     let k := f.sender
     let listening := s.mem.state = .listen ∨ s.mem.state = .apart
     let senders : List JoinNote := match f with
       | .census j _ _ d _ => placeAnswer ⟨j, maskHas d.mask s.mem.nodeId⟩ s.mem.joinSenders
       | .join _ _ _ _ | .leave _ _ _ => s.mem.joinSenders
     let v : State := { s with
       frame.receipt := none
       mem := if s.mem.state = .joining then { s.mem with joinHeard := true, joinSenders := senders }
         else s.mem }
     let taken : Entry → Entry := fun e =>
       let noted : Entry := match f with
         | .census _ _ cls d _ =>
           { e with cls := cls, declared := some d, lastEpoch := s.ts.epoch, received := .census }
         | .join _ _ cls _ => { e with cls := cls, lastEpoch := s.ts.epoch, received := .join }
         | .leave _ _ _ => e
       match s.readSlot k, f.observations.find? (fun o => o.peer = s.mem.nodeId), e.delay with
       | .one m, some o, _ => { noted with
           delay := some (Int.tdiv (m + o.offset) 2)
           ring := placeSample e.ring ⟨s.ts.epoch, Int.tdiv (o.offset - m) 2, .twoWay⟩
           sampled := true }
       | .one m, none, some x => { noted with
           ring := placeSample e.ring ⟨s.ts.epoch, x - m, .oneWay⟩
           sampled := true }
       | .one _, none, none => noted
       | .none, _, _ => noted
       | .contested, _, _ => noted
     let fresh : Entry :=
       { id := k, state := .heard, cause := none, goodRun := 0, censusMiss := 0, markMiss := 0
         deviation := 0, restore := 0, mismatch := 0, mismatchPosted := false, cls := 0, declared := none
         lastEpoch := s.ts.epoch, delay := none, ring := [], received := .none, marked := false
         sampled := false }
     let full : State := { v with roster.fullPosted := s.roster.fullPosted ++ [k] }
     let mayEnter := maskHas s.cfg.admission k = true ∧ (s.readSlot k).isOne = true
     (∀ w : State,
       (∃ e, s.roster.entries.find? (fun x => x.id = k) = some e ∧
           w = { v with roster.entries := replaceEntry (taken e) s.roster.entries }) ∨
         (s.roster.entries.find? (fun x => x.id = k) = none ∧
           ((¬ mayEnter ∧ w = v) ∨
            (mayEnter ∧ s.roster.entries.length < 8 ∧
              w = { v with roster.entries := insertEntry (taken fresh) s.roster.entries }) ∨
            (mayEnter ∧ 8 ≤ s.roster.entries.length ∧ k ∈ s.roster.fullPosted ∧ w = v))) →
       (¬ listening → exec c s = .next w) ∧
       (listening → exec c s = .next (w.memberDelivery f).settle) ∧
       (listening → converged s.mem.history = false → exec c s = .next { w with
         mem := { s.mem with heard := true, frameRecord := placeNote f.note s.mem.frameRecord } })) ∧
     (s.roster.entries.find? (fun x => x.id = k) = none → mayEnter → 8 ≤ s.roster.entries.length →
       k ∉ s.roster.fullPosted →
       (¬ listening → exec c s = .next (full.stored .rosterFull (some k) none)) ∧
       (listening → exec c s = .next (({ full with
         port.outbox := [⟨.roster, s.ts.epoch, .rosterFull, some k, none, none⟩] } : State).memberDelivery f).settle))) ∧
  ((∀ (n x : JoinNote) (notes : List JoinNote), n ∈ placeAnswer n notes ∧
     (x.sender ≠ n.sender → (x ∈ placeAnswer n notes ↔ x ∈ notes)) ∧
     (notes.Pairwise (fun a b => a.sender < b.sender) →
       (placeAnswer n notes).Pairwise (fun a b => a.sender < b.sender))) ∧
   (∀ (n x : FrameNote) (notes : List FrameNote), n ∈ placeNote n notes ∧
     (x.sender ≠ n.sender → (x ∈ placeNote n notes ↔ x ∈ notes)) ∧
     (notes.Pairwise (fun a b => a.sender < b.sender) →
       (placeNote n notes).Pairwise (fun a b => a.sender < b.sender))) ∧
   (∀ (k : NodeId) (e : Epoch) (cls : OscClass) (d : Declared) (obs : List Observation),
     (Frame.census k e cls d obs).note = ⟨k, .census, e, decide (d.timing = .anchored)⟩ ∧
     (Frame.join k e cls obs).note = ⟨k, .join, e, false⟩) ∧
   (∀ h : List Int, converged h = true ↔ ∃ x y z, h = [x, y, z] ∧ (fold (x - y)).natAbs ≤ ns 2000 ∧
     (fold (y - z)).natAbs ≤ ns 2000 ∧ (fold (x - z)).natAbs ≤ ns 2000)) ∧
  (∀ (s : State) (f : Frame), s.mem.state = .listen ∨ s.mem.state = .apart →
     let heard : State := { s with
       mem := { s.mem with heard := true, frameRecord := placeNote f.note s.mem.frameRecord } }
     let aligned : State → State := fun a => { a with
       mem := { a.mem with state := .aligning, aligningCount := 0, emptyCount := 0 }
       port.outbox := a.port.outbox ++ [⟨.membership, s.ts.epoch, .membershipChange, none, some 3, none⟩] }
     (converged s.mem.history = false → s.memberDelivery f = heard) ∧
     (∀ a b d, s.mem.history = [a, b, d] → converged [a, b, d] = true →
       let t := s.memberDelivery f
       (d.natAbs ≤ ns 25000 → t = aligned heard.adoptEnsemble) ∧
       (ns 25000 < d.natAbs → s.ref.state = .qualified → s.mem.state = .apart → t = heard) ∧
       (ns 25000 < d.natAbs → s.ref.state = .qualified → s.mem.state = .listen → t = { heard with
         mem := { heard.mem with state := .apart }
         port.outbox := s.port.outbox ++
           [⟨.membership, s.ts.epoch, .ensembleFar, none, some (signed32 (Int.tdiv d 16)), none⟩,
             ⟨.membership, s.ts.epoch, .membershipChange, none, some 2, none⟩] }) ∧
       (ns 25000 < d.natAbs → s.ref.state ≠ .qualified →
         t = aligned ((heard.freeRequest.requestStep (-d)).adoptEnsemble)) ∧
       (ns 25000 < d.natAbs → s.ref.state ≠ .qualified → TimeValidForm s → t.mem.state = .aligning ∧
         t.ts.pendStep = some (fold (-d)) ∧ t.solver.timing = .free ∧ t.solver.timeValid = false ∧
         t.solver.validTime = false ∧ t.solver.overBudget = false ∧
         t.ts.pendC = some 0 ∧ t.solver.steerF = s.solver.steerF ∧ t.port.outbox = s.port.outbox ++
           (if s.solver.timing = .free then []
             else [⟨.solver, s.ts.epoch, .stateChange, none, some 0, none⟩]) ++
           [⟨.membership, s.ts.epoch, .membershipChange, none, some 3, none⟩]) ∧
       (∀ x train, d.natAbs ≤ ns 25000 ∨ s.ref.state ≠ .qualified →
         adoptionCandidate s.mem.closedRecord = some x → s.mem.newest = some train →
         let n := adoptionNumber x train s.ts.epoch
         (n = s.ts.epoch → t.ts.pendAdopt = s.ts.pendAdopt ∧
           t.mem.adoptionOutstanding = s.mem.adoptionOutstanding) ∧
         (n ≠ s.ts.epoch → t.ts.pendAdopt = some n ∧ t.mem.adoptionOutstanding = true)))) ∧
  ((∀ (closed : List FrameNote) (n : FrameNote), closed.find? (fun x => x.anchored) = some n →
     adoptionCandidate closed = some n.epoch) ∧
   (∀ (closed : List FrameNote), closed.find? (fun x => x.anchored) = none →
     let pool := if closed.any (fun x => decide (x.kind = .census)) then
       closed.filter (fun x => x.kind = .census) else closed
     adoptionCandidate closed = (pool.find? (fun n => pool.all (fun o =>
       decide ((pool.filter (fun x => x.epoch = o.epoch)).length ≤
         (pool.filter (fun x => x.epoch = n.epoch)).length)))).map (·.epoch)) ∧
   (∀ (x now : Epoch) (train : TrainStart),
     let b : Int := (train.stamp.phase : Int) - ns (62500 * train.lowest.val)
     adoptionNumber x train now =
       x + 1 + now - (if b ≤ 8000000000 then train.stamp.epoch else train.stamp.epoch + 1)) ∧
   (∀ (s : State) (x : Epoch) (train : TrainStart), adoptionCandidate s.mem.closedRecord = some x →
     s.mem.newest = some train →
     let n := adoptionNumber x train s.ts.epoch
     (n = s.ts.epoch → s.adoptEnsemble = s) ∧
     (n ≠ s.ts.epoch → s.adoptEnsemble = { s with ts.pendAdopt := some n, mem.adoptionOutstanding := true }))) ∧
  (∀ (s : State) (step : Option Int) (forward : Option Nat) (discarded : Bool) (n : Epoch),
     let t := s.boundaryProper step forward discarded
     let posted : Lane → Prop := fun lane =>
       (⟨lane, n + 1, .epochAdopted, none, some (s.ts.epoch + 1), none⟩ : Posting) ∈ t.port.outbox
     s.ts.pendAdopt = some n → t.ts.epoch = n + 1 ∧ t.ts.pendAdopt = none ∧
       t.mem.adoptionOutstanding = false ∧ (s.mem.adoptionOutstanding = true → posted .membership) ∧
       t.roster.adoptionOutstanding = false ∧ (s.roster.adoptionOutstanding = true → posted .roster) ∧
       (s.mem.state = .member → t.mem.state = .member → t.roster.entries = s.roster.entries.map (fun e => { e with
         lastEpoch := e.lastEpoch + (n - s.ts.epoch)
         ring := e.ring.map (fun x => { x with epoch := x.epoch + (n - s.ts.epoch) }) }))) ∧
  (∀ (s : State) (ev : BoundaryEvent),
     (ev.adoptedOver = none → s.rosterBoundary ev = s ∧ s.memberAdopted ev = s) ∧
     (∀ other, ev.adoptedOver = some other →
       let shift := s.ts.epoch - other
       let moved : State := { s with
         roster.entries := s.roster.entries.map (fun e => { e with
           lastEpoch := e.lastEpoch + shift
           ring := e.ring.map (fun x => { x with epoch := x.epoch + shift }) }) }
       (s.roster.adoptionOutstanding = false → s.rosterBoundary ev = moved) ∧
       (s.roster.adoptionOutstanding = true → s.rosterBoundary ev = { moved with
         roster := { moved.roster with
           adoptionOutstanding := false
           diffs := (s.roster.diffs.map (fun r => { r with runCount := 0 })).filter (fun r => r.now.isSome) }
         port.outbox := s.port.outbox ++ [⟨.roster, s.ts.epoch, .epochAdopted, none, some other, none⟩] }) ∧
       (s.mem.adoptionOutstanding = false → s.memberAdopted ev = s) ∧
       (s.mem.adoptionOutstanding = true → s.memberAdopted ev = { s with
         mem.adoptionOutstanding := false
         port.outbox := s.port.outbox ++ [⟨.membership, s.ts.epoch, .epochAdopted, none, some other, none⟩] })))

/-- At the end of an epoch a node in LISTEN or APART that heard nothing counts a quiet epoch, and at the first-member
count becomes MEMBER with MEMBERSHIP_CHANGE; an epoch without a train start empties its history (R84, R86). A JOINING
node becomes MEMBER, with MEMBERSHIP_CHANGE, by a majority of the CENSUS senders it heard, or after four epochs with
nothing heard; at the sixteenth it posts JOIN_TIMEOUT and returns to LISTEN (R91). The boundary of the membership unit
is this judgement in each state, after an adoption, the evidence of the two epochs and the history have been moved
(R82, R86, R90, R92), and every boundary proper makes it (R5): the node is MEMBER after it unless an own-window edge
of ID 0 makes it CONFLICT at once (R49, R92). While capture is suspended the next epoch counts as heard from its
start. The model's: log entries 12, 16, 21. -/
def Obligations.ListeningAndJoiningAreJudged : Prop :=
  (∀ (s : State), s.mem.state = .listen ∨ s.mem.state = .apart →
     let quiet := if s.mem.heard then 0 else min 64 (s.mem.quietCount + 1)
     let judged : State := { s with
       mem := { s.mem with
         quietCount := quiet
         heard := s.mark.fault
         trainStart := false
         history := if s.mem.trainStart then s.mem.history else []
         newest := if s.mem.trainStart then s.mem.newest else none } }
     let t := s.judgeListening
     (quiet < s.cfg.firstMember → t = judged) ∧
     (s.cfg.firstMember ≤ quiet → t = { judged with
       mem.state := .member
       port.outbox := s.port.outbox ++ [⟨.membership, s.ts.epoch, .membershipChange, none, some 5, none⟩] })) ∧
  (∀ (s : State), s.mem.state = .joining →
     let senders := s.mem.joinSenders
     let yes := (senders.filter (·.lists)).length
     let majority := 1 ≤ senders.length ∧ senders.length ≤ 2 * yes
     let t := s.judgeJoining
     let joined : Nat → State := fun quiet => { s with
       mem := { s.mem with state := .member, joinSenders := [], joinHeard := false, joinQuiet := quiet }
       port.outbox := s.port.outbox ++ [⟨.membership, s.ts.epoch, .membershipChange, none, some 5, none⟩] }
     (majority → t = joined s.mem.joinQuiet) ∧
     (¬ majority → s.mem.joinHeard = false → 3 ≤ s.mem.joinQuiet → t = joined 4) ∧
     (¬ majority → (s.mem.joinHeard = true ∨ s.mem.joinQuiet < 3) → s.mem.joinCounter < 15 →
       t = { s with mem := { s.mem with joinSenders := [], joinHeard := false
                                        joinQuiet := if s.mem.joinHeard then 0 else s.mem.joinQuiet + 1
                                        joinCounter := s.mem.joinCounter + 1 } }) ∧
     (¬ majority → (s.mem.joinHeard = true ∨ s.mem.joinQuiet < 3) → 15 ≤ s.mem.joinCounter →
       t.mem.state = .listen ∧ t.roster.entries = [] ∧ t.port.outbox = s.port.outbox ++
         [⟨.membership, s.ts.epoch, .joinTimeout, none, none, none⟩,
           ⟨.membership, s.ts.epoch, .membershipChange, none, some 1, none⟩])) ∧
  (∀ (s : State) (ev : BoundaryEvent),
     let a := s.memberAdopted ev
     let b : State := { a with
       mem := { a.mem with
         evidenceLast := s.mem.evidenceThis
         evidenceThis := false
         history := if ev.step.isSome then [] else s.mem.history
         newest := if ev.step.isSome then none else s.mem.newest } }
     (s.mem.state = .listen ∨ s.mem.state = .apart → s.memberBoundary ev = b.judgeListening) ∧
     (s.mem.state = .joining → s.memberBoundary ev = b.judgeJoining) ∧
     (s.mem.state = .aligning → s.mem.aligningCount < 2 → s.memberBoundary ev = b) ∧
     (s.mem.state = .aligning → 2 ≤ s.mem.aligningCount → s.memberBoundary ev = { b with
       mem := { b.mem with state := .joining, joinCounter := 0, joinQuiet := 0, joinSenders := [], joinHeard := false }
       port.outbox := b.port.outbox ++ [⟨.membership, s.ts.epoch, .membershipChange, none, some 4, none⟩] }) ∧
     (s.mem.state = .unconfigured ∨ s.mem.state = .member ∨ s.mem.state = .withdrawn ∨ s.mem.state = .conflict →
       s.memberBoundary ev = b)) ∧
  (∀ (s : State) (step : Option Int) (forward : Option Nat) (discarded : Bool),
     let t := s.boundaryProper step forward discarded
     let kept := s.mark.earlyOwn ≠ .ended ∨ s.mark.fault = true ∨ s.mem.evidenceThis = false
     let quiet := if s.mem.heard then 0 else min 64 (s.mem.quietCount + 1)
     let senders := s.mem.joinSenders
     let majority := 1 ≤ senders.length ∧ senders.length ≤ 2 * (senders.filter (·.lists)).length
     let posted : BitVec 32 → Prop := fun code =>
       (⟨.membership, t.ts.epoch, .membershipChange, none, some code, none⟩ : Posting) ∈ t.port.outbox
     (s.mem.state = .listen ∨ s.mem.state = .apart →
       (quiet < s.cfg.firstMember → t.mem.state = s.mem.state ∧ t.mem.quietCount = quiet ∧
         t.mem.heard = s.mark.fault ∧ t.mem.trainStart = false) ∧
       (s.cfg.firstMember ≤ quiet → posted 5 ∧ (kept → t.mem.state = .member))) ∧
     (s.mem.state = .joining →
       let quietRun := if s.mem.joinHeard then 0 else min 4 (s.mem.joinQuiet + 1)
       (majority ∨ 4 ≤ quietRun → posted 5 ∧ (kept → t.mem.state = .member)) ∧
       (¬ majority → quietRun < 4 → s.mem.joinCounter < 15 → kept → t.mem.state = .joining ∧
         t.mem.joinCounter = s.mem.joinCounter + 1 ∧ t.mem.joinQuiet = quietRun ∧ t.mem.joinSenders = [] ∧
         t.mem.joinHeard = false) ∧
       (¬ majority → quietRun < 4 → 15 ≤ s.mem.joinCounter → posted 1 ∧ t.mem.state = .listen ∧
         t.roster.entries = [])))

/-- The solve-point exchange of the roster (R105). An entry whose slot reads ONE is marked. A verdict moves the deviation or the restore count (R109). What
the epoch brought ages an entry (R106 to R108): four good epochs admit, three silent or markless or eight excluded ones
make suspect, the evidence of its own kind restores, and misses remove. A declared mask is compared with the opening
mask, the bits of both nodes ignored, and the eighth difference running is posted once (R113). A difference of epoch
numbers that lasts for three epochs is adopted, toward the lowest-ID anchored sender, else toward a sender below the own
ID (R115, R116). Over the whole roster each entry is judged, aged and compared by itself; an aged-out one is gone from
the roster and from the solver's last sets, and the full-posted set is then empty (R101, R143); the events come entry by
entry in ascending ID order, an entry's state event before its mismatch event; and the flags and columns of the epoch are
cleared at the end (R105). -/
def Obligations.SolvePointExchangeAgesTheRoster : Prop :=
  (∀ (s : State) (verdicts : NodeId → Verdict), ascending s.roster.entries →
     let aged := fun (e : Entry) => (e.applyVerdict (verdicts e.id)).age
     let compared := fun (e : Entry) =>
       (aged e).entry.map (fun x => x.compareMasks s.mem.nodeId s.roster.openingMask)
     let gone := fun (k : NodeId) => s.roster.entries.any (fun e => e.id == k && (aged e).entry.isNone)
     let posted := fun (e : Entry) =>
       (match (aged e).event with
         | some (kind, v) => [(⟨.roster, s.ts.epoch, kind, some e.id, v.map signed32, none⟩ : Posting)]
         | none => []) ++
       (match (compared e).bind (·.2) with
         | some m => [⟨.roster, s.ts.epoch, .rosterMismatch, some e.id, some m, none⟩]
         | none => [])
     let t := (s.rosterAge verdicts).rosterNumbers
     s.rosterMarks = { s with
       roster.entries := s.roster.entries.map (fun e =>
         { e with marked := e.marked || (s.readSlot e.id).isOne }) } ∧
     s.rosterAge verdicts = { s with
       roster := { s.roster with
         entries := s.roster.entries.filterMap (fun e => (compared e).map (·.1))
         fullPosted := if s.roster.entries.any (fun e => (aged e).entry.isNone) then [] else s.roster.fullPosted }
       solver := { s.solver with
         lastC := s.solver.lastC.filter (fun k => !gone k)
         lastA := s.solver.lastA.filter (fun k => !gone k) }
       port.outbox := s.port.outbox ++ s.roster.entries.flatMap posted } ∧
     s.rosterComplete verdicts = { t with
       roster := { t.roster with
         entries := t.roster.entries.map (fun e => { e with received := .none, marked := false, sampled := false })
         diffs := (t.roster.diffs.map (fun d => { d with now := none })).filter (fun d => d.runCount != 0)
         openingMask := none } }) ∧
  (∀ (e : Entry),
     e.applyVerdict .excluded = { e with deviation := min 8 (e.deviation + 1) } ∧
     e.applyVerdict .included = { e with deviation := 0 } ∧
     e.applyVerdict .within = { e with restore := min 8 (e.restore + 1) } ∧
     e.applyVerdict .outside = { e with restore := 0 } ∧
     (e.state = .suspect → e.cause = some .deviation → e.applyVerdict .notJudged = { e with restore := 0 }) ∧
     (e.state ≠ .suspect ∨ e.cause ≠ some .deviation → e.applyVerdict .notJudged = e)) ∧
  (∀ (e : Entry),
     let good := e.received ≠ .none ∧ e.marked = true
     (e.state = .heard →
       (good → e.goodRun < 3 →
         e.age = ⟨some { e with goodRun := e.goodRun + 1, censusMiss := 0 }, none⟩) ∧
       (good → 3 ≤ e.goodRun → e.age = ⟨some { e with
         state := .admitted, goodRun := 0, censusMiss := 0, markMiss := 0, deviation := 0, restore := 0
         mismatch := 0 }, some (.peerAdmitted, none)⟩) ∧
       (¬ good → e.censusMiss < 3 →
         e.age = ⟨some { e with goodRun := 0, censusMiss := e.censusMiss + 1 }, none⟩) ∧
       (¬ good → 3 ≤ e.censusMiss → e.age = ⟨none, some (.peerRemoved, some 0)⟩)) ∧
     (e.state = .admitted →
       let silent := if e.received = .none then e.censusMiss + 1 else 0
       let unmarked := if e.marked then 0
         else if e.received = .none then e.markMiss else min 3 (e.markMiss + 1)
       let counted : Entry := { e with censusMiss := silent, markMiss := unmarked }
       let suspect : SuspectCause → Entry := fun c =>
         { counted with state := .suspect, cause := some c, goodRun := 0, restore := 0 }
       (3 ≤ silent → e.age = ⟨some (suspect .censusMiss), some (.peerSuspect, some 0)⟩) ∧
       (silent < 3 → 3 ≤ unmarked → e.age = ⟨some (suspect .markMiss), some (.peerSuspect, some 1)⟩) ∧
       (silent < 3 → unmarked < 3 → 8 ≤ e.deviation →
         e.age = ⟨some (suspect .deviation), some (.peerSuspect, some 2)⟩) ∧
       (silent < 3 → unmarked < 3 → e.deviation < 8 → e.age = ⟨some counted, none⟩)) ∧
     (e.state = .suspect →
       let silent := if e.received = .none then e.censusMiss + 1 else 0
       let run := if e.cause = some .deviation then e.goodRun
         else if e.received ≠ .none ∧ e.marked = true then e.goodRun + 1 else 0
       let restored := if e.cause = some .deviation then 8 ≤ e.restore else 2 ≤ run
       (8 ≤ silent → e.age = ⟨none, some (.peerRemoved, some 0)⟩) ∧
       (silent < 8 → restored → e.age = ⟨some { e with
         state := .admitted, cause := none, goodRun := 0, censusMiss := 0, markMiss := 0, deviation := 0
         restore := 0 }, some (.peerRestored, none)⟩) ∧
       (silent < 8 → ¬ restored → e.age = ⟨some { e with censusMiss := silent, goodRun := run }, none⟩))) ∧
  (∀ (own : NodeId) (opening : Option Mask) (e : Entry),
     (opening = none ∨ e.state ≠ .admitted ∨ e.received ≠ .census → e.compareMasks own opening = (e, none)) ∧
     (∀ x d, opening = some x → e.state = .admitted → e.received = .census → e.declared = some d →
       let agree := ∀ k : NodeId, k ≠ own → k ≠ e.id → maskHas x k = maskHas d.mask k
       (agree → e.compareMasks own opening = ({ e with mismatch := 0, mismatchPosted := false }, none)) ∧
       (¬ agree → e.mismatch < 7 ∨ e.mismatchPosted = true →
         e.compareMasks own opening = ({ e with mismatch := min 8 (e.mismatch + 1) }, none)) ∧
       (¬ agree → 7 ≤ e.mismatch → e.mismatchPosted = false → e.compareMasks own opening =
         ({ e with mismatch := 8, mismatchPosted := true },
           some (BitVec.ofNat 32 (x.toNat * 65536 + d.mask.toNat)))))) ∧
  (∀ (r : DiffRow),
     (r.now = none → r.run = { r with runCount := 0 }) ∧
     (∀ c, r.now = some c →
       (c.diff = 0 → r.run = { r with runCount := 0 }) ∧
       (c.diff ≠ 0 → c.diff = r.runDiff → 1 ≤ r.runCount → r.run = { r with runCount := min 3 (r.runCount + 1) }) ∧
       (c.diff ≠ 0 → c.diff ≠ r.runDiff ∨ r.runCount = 0 → r.run = { r with runDiff := c.diff, runCount := 1 }))) ∧
  (∀ (s : State),
     let rows := s.roster.diffs.map DiffRow.run
     let v : State := { s with roster.diffs := rows }
     let adopts : DiffRow → Prop := fun r => r.runCount = 3 ∧
       (rows.find? (·.anchored) = some r ∨
         (rows.find? (·.anchored) = none ∧ rows.find? (fun x => x.now.isSome) = some r ∧ r.id < s.mem.nodeId))
     (s.mem.state ≠ .member → s.rosterNumbers = s) ∧
     (s.mem.state = .member → s.roster.adoptionOutstanding = true ∨ s.solver.timing = .anchored ∨
       (∀ r, ¬ adopts r) → s.rosterNumbers = v) ∧
     (∀ r, s.mem.state = .member → s.roster.adoptionOutstanding = false → s.solver.timing ≠ .anchored → adopts r →
       s.rosterNumbers = { v with
         ts.pendAdopt := some (s.ts.epoch + r.runDiff)
         roster.adoptionOutstanding := true }))

/-! ## Membership by command and supply (R94 to R96) -/

/-- SUPPLY SENSE below the low threshold for the debounce time is a supply-low event, above the high threshold a
supply-restored event; a crossing back sets the timer to 0 (R96). Supply-low leads to WITHDRAWN, with a LEAVE from
JOINING or MEMBER and none from LISTEN, APART or ALIGNING, and a talk frame not in flight is discarded at every entry;
supply-restored leads to LISTEN where it empties the reason set (R68, R71, R94, R95). The model's: log entry 1. -/
def Obligations.SupplyEventsFollowTheDebounceTime : Prop :=
  (∀ (s : State) (dt mv : Nat),
    let u := s.advance dt
    let runs := if s.mem.supplyIsLow then s.cfg.supplyHigh < mv else mv < s.cfg.supplyLow
    (runs → exec (.supplySenseCrossing dt mv) s = .next { u with pins.supply := mv }) ∧
    (¬ runs → exec (.supplySenseCrossing dt mv) s = .next { u with
      pins.supply := mv, mem.supplyTimer := 0 })) ∧
  (∀ (s : State), s.begun = true → s.mem.supplyIsLow = false → s.pins.supply < s.cfg.supplyLow →
    s.dueWithin (ns (1000000 * s.cfg.supplyDebounce) - s.mem.supplyTimer) = true → s.port.outbox = [] →
    let u := s.runTo (s.ts.sitePhase + (ns (1000000 * s.cfg.supplyDebounce) - s.mem.supplyTimer))
    ∃ t, exec .supplyLow s = .next t ∧ t.mem.supplyIsLow = true ∧ t.mem.supplyTimer = 0 ∧
      t.mem.reasonSupply = true ∧ t.mem.reasonCommand = s.mem.reasonCommand ∧
      (s.mem.state = .withdrawn ∨ s.mem.state = .conflict →
        t = ({ u with mem := { u.mem with supplyIsLow := true, supplyTimer := 0
                                          reasonSupply := true } }.stored .supplyLow none none)) ∧
      (s.mem.state ≠ .withdrawn → s.mem.state ≠ .conflict → t.mem.state = .withdrawn ∧
        t.roster.entries = [] ∧
        t.port = ((u.stored .supplyLow none none).stored .membershipChange none (some 6)).port ∧
        (s.frame.inFlight ≠ some .talk → t.frame.talk = none) ∧
        (s.mem.state = .listen ∨ s.mem.state = .apart ∨ s.mem.state = .aligning → t.frame = { u.frame with
          talk := if s.frame.inFlight = some .talk then s.frame.talk else none
          returnedTalk := s.frame.returnedTalk.map (fun r => { r with void := true }) }) ∧
        (s.mem.state = .joining ∨ s.mem.state = .member →
          t.frame.leave = some .supply ∧ t.mark.drive = none))) ∧
  (∀ (s : State), s.begun = true → s.mem.supplyIsLow = true → s.cfg.supplyHigh < s.pins.supply →
    s.dueWithin (ns (1000000 * s.cfg.supplyDebounce) - s.mem.supplyTimer) = true → s.port.outbox = [] →
    let u := s.runTo (s.ts.sitePhase + (ns (1000000 * s.cfg.supplyDebounce) - s.mem.supplyTimer))
    ∃ t, exec .supplyRestored s = .next t ∧ t.mem.supplyIsLow = false ∧ t.mem.supplyTimer = 0 ∧
      t.mem.reasonSupply = false ∧ t.mem.reasonCommand = s.mem.reasonCommand ∧
      (s.mem.state ≠ .withdrawn ∨ s.mem.reasonCommand = true →
        t = ({ u with mem := { u.mem with supplyIsLow := false, supplyTimer := 0
                                          reasonSupply := false } }.stored .supplyRestored none none)) ∧
      (s.mem.state = .withdrawn → s.mem.reasonCommand = false → t.mem.state = .listen ∧
        t.port = ((u.stored .supplyRestored none none).stored .membershipChange none (some 1)).port))

/-- WITHDRAW adds COMMAND and leads to WITHDRAWN, with a LEAVE from JOINING or MEMBER and none from LISTEN, APART or
ALIGNING; a talk frame not in flight is discarded at every entry; RESUME removes COMMAND and, the set then empty,
leads to LISTEN; each is refused in every other state and then changes nothing (R68, R71, R94, R95, R187). The
model's: log entries 1, 6. -/
def Obligations.WithdrawAndResumeMoveTheReasonSet : Prop :=
  ∀ (s : State) (dt : Nat) (x : Slot), s.port.transaction = some x → s.port.outbox = [] →
    let u : State := { s.advance dt with port.transaction := none, port.sdo := none }
    (s.mem.state = .unconfigured ∨ s.mem.state = .withdrawn ∨ s.mem.state = .conflict →
      exec (.withdraw dt) s = .next { u with port.slot := .pending ⟨0x08, .refusedState, 0, []⟩ }) ∧
    (s.mem.state ≠ .unconfigured → s.mem.state ≠ .withdrawn → s.mem.state ≠ .conflict →
      ∃ t, exec (.withdraw dt) s = .next t ∧ t.mem.state = .withdrawn ∧ t.mem.reasonCommand = true ∧
        t.mem.reasonSupply = s.mem.reasonSupply ∧ t.roster.entries = [] ∧
        (s.frame.inFlight ≠ some .talk → t.frame.talk = none) ∧
        (s.mem.state = .listen ∨ s.mem.state = .apart ∨ s.mem.state = .aligning → t.frame = { u.frame with
          talk := if s.frame.inFlight = some .talk then s.frame.talk else none
          returnedTalk := s.frame.returnedTalk.map (fun r => { r with void := true }) }) ∧
        (s.mem.state = .joining ∨ s.mem.state = .member →
          t.frame.leave = some .command ∧ t.mark.drive = none) ∧
        t.port = { (u.stored .membershipChange none (some 6)).port with
          slot := .pending ⟨0x08, .ok, 0, []⟩ }) ∧
    (s.mem.state ≠ .withdrawn ∨ s.mem.reasonCommand = false →
      exec (.resume dt) s = .next { u with port.slot := .pending ⟨0x09, .refusedState, 0, []⟩ }) ∧
    (s.mem.state = .withdrawn → s.mem.reasonCommand = true → s.mem.reasonSupply = true →
      exec (.resume dt) s = .next { u with
        mem.reasonCommand := false, port.slot := .pending ⟨0x09, .ok, 0, []⟩ }) ∧
    (s.mem.state = .withdrawn → s.mem.reasonCommand = true → s.mem.reasonSupply = false →
      ∃ t, exec (.resume dt) s = .next t ∧ t.mem.state = .listen ∧ t.mem.reasonCommand = false ∧
        t.mem.quietCount = 0 ∧ t.mem.history = [] ∧ t.mem.evidenceLast = false ∧
        (s.frame.inFlight ≠ some .leave → t.frame.leave = none) ∧
        t.port = { (u.stored .membershipChange none (some 1)).port with
          slot := .pending ⟨0x09, .ok, 0, []⟩ })

/-! ## The reference (R19 to R36) -/

/-- From BEGIN with a reference fitted and the clock running, a transition of REFIN in the selected direction becomes the
candidate with its stamp and the tally there, unless it is blanked or one is held; the other direction discards a
candidate; with a debounce of 0 the edge is accepted at once (R19 to R22). The candidate held through its debounce time
is accepted: it starts the blanking timer, counted from its transition, and in ABSENT starts probation with the first
entry of the ring, REFVALID standing asserted where it is used (R20, R21, R23, R25); in PROBATION it counts, and in
QUALIFIED and DISPUTED an edge in the window around the prediction is taken and any other is an outlier (R26, R29 to R31).
Where the two newest entries share an interval the rate is free. The blanking timer ends after its time (R21). The
model's: log entries 1, 8, 15, 32. -/
def Obligations.ReferenceEdgesAreDebouncedAndCaptured : Prop :=
  (∀ (s : State) (dt : Nat) (rising : Bool),
     let u := s.advance dt
     let level : Level := if rising then .high else .low
     let v : State := { u with pins.refin := level, pins.refinPin := level }
     let same : State := { u with pins.refinPin := level }
     let works := s.begun = true ∧ s.cfg.refFitted = true
     let selected := rising = !s.cfg.edgeFalling
     let free := u.ref.blanking.getD 0 = 0 ∧ s.ref.candidate = none
     (s.pins.oscRunning = true → s.port.outbox = [] → s.pins.refin = level →
       exec (.refinTransition dt rising) s = .next same) ∧
     (s.pins.oscRunning = true → s.port.outbox = [] → s.pins.refin ≠ level → ¬ works → exec (.refinTransition dt rising) s = .next v) ∧
     (s.pins.oscRunning = true → s.port.outbox = [] → s.pins.refin ≠ level → works → ¬ selected →
       exec (.refinTransition dt rising) s = .next { v with ref.candidate := none }) ∧
     (s.pins.oscRunning = true → s.port.outbox = [] → s.pins.refin ≠ level → works → selected → ¬ free →
       exec (.refinTransition dt rising) s = .next v) ∧
     (s.pins.oscRunning = true → s.port.outbox = [] → s.pins.refin ≠ level → works → selected → free →
       s.cfg.debounce ≠ .none →
       exec (.refinTransition dt rising) s = .next { v with
         ref.candidate := some ⟨v.stampNow, v.tallyNow, 0⟩ }) ∧
     (s.pins.oscRunning = true → s.pins.refin ≠ level → works → selected → free → s.cfg.debounce = .none →
       exec (.refinTransition dt rising) s = .next (v.acceptEdge ⟨v.stampNow, v.tallyNow, 0⟩).settle)) ∧
  ((∀ (s : State) (c0 c : RefCandidate), s.ref.candidate = some c0 →
     s.dueWithin (s.cfg.debounce.ticks - c0.age) = true → s.port.outbox = [] →
     let u := s.runTo (s.ts.sitePhase + (s.cfg.debounce.ticks - c0.age))
     u.ref.candidate = some c →
     let r := fold (fold c.stamp.phase - 16 * s.cfg.refOffset)
     let e : RefEntry := ⟨s.ref.interval, r, fold (r - c.tally)⟩
     let v : State := { u with
       ref := { u.ref with candidate := none, blanking := some (ns 500000000 - c.age) } }
     (s.ref.state = .absent → s.cfg.useRefvalid = true → s.pins.refvalid = false →
       exec .refinEdgeAccepted s = .next { u with ref.candidate := none }) ∧
     (s.ref.state = .absent → s.cfg.useRefvalid = false ∨ s.pins.refvalid = true →
       exec .refinEdgeAccepted s = .next { v with
         ref := { v.ref with
           state := .probation, ring := [e], probCount := 1, missCount := 0, outliers := []
           record := { s.ref.record with accepted := true, offset := some r } } }) ∧
     (∀ e1 e0 rest, s.ref.state = .qualified ∨ s.ref.state = .disputed →
       s.ref.ring.reverse = e1 :: e0 :: rest → e1.index ≠ e0.index →
       let rate := Int.tdiv (fold (e1.u - e0.u)) ((e1.index - e0.index).toNat : Int)
       let p := fold (e1.u + ((s.ref.interval - e1.index).toNat : Int) * rate)
       (fold (e.u - p)).natAbs ≤ ns (1000 * s.cfg.halfWidth) →
       exec .refinEdgeAccepted s = .next { v with
         ref := { v.ref with
           ring := appendBounded 16 s.ref.ring e, missCount := 0, outliers := []
           record := { s.ref.record with accepted := true, offset := some r } } }) ∧
     (∀ e1 e0 rest, s.ref.state = .qualified ∨ s.ref.state = .disputed →
       s.ref.ring.reverse = e1 :: e0 :: rest → e1.index ≠ e0.index →
       let rate := Int.tdiv (fold (e1.u - e0.u)) ((e1.index - e0.index).toNat : Int)
       let p := fold (e1.u + ((s.ref.interval - e1.index).toNat : Int) * rate)
       ns (1000 * s.cfg.halfWidth) < (fold (e.u - p)).natAbs →
       exec .refinEdgeAccepted s = .next (v.takeOutlier e).settle) ∧
     (∀ e1 e0 rest, s.ref.state = .qualified ∨ s.ref.state = .disputed →
       s.ref.ring.reverse = e1 :: e0 :: rest → e1.index = e0.index → ∃ rate : Int,
       let p := fold (e1.u + ((s.ref.interval - e1.index).toNat : Int) * rate)
       let w : State := { v with freeCount := s.freeCount + 1 }
       ((fold (e.u - p)).natAbs ≤ ns (1000 * s.cfg.halfWidth) →
         exec .refinEdgeAccepted s = .next { w with
           ref := { v.ref with
             ring := appendBounded 16 s.ref.ring e, missCount := 0, outliers := []
             record := { s.ref.record with accepted := true, offset := some r } } }) ∧
       (ns (1000 * s.cfg.halfWidth) < (fold (e.u - p)).natAbs →
         exec .refinEdgeAccepted s = .next (w.takeOutlier e).settle)) ∧
     (s.ref.state = .probation → exec .refinEdgeAccepted s = .next (v.takeEdge e).settle)) ∧
   (∀ (s : State) (n : Nat), s.ref.blanking = some n → s.dueWithin n = true →
     exec .blankingEnd s = .next { s.runTo (s.ts.sitePhase + n) with ref.blanking := none }))

/-- Probation, outliers and the close of an interval (R26 to R28, R31 to R33). In PROBATION the first edge of an interval
extends the ring and counts where its second difference is within 1,000 ns; a second one replaces the newest entry; the
count reaching Q qualifies. An outlier counts a miss; three of them that agree start a probation of their own; M
misses lose the reference, at the edge or at the close of an interval without an edge; a probation interval without an
edge ends it. The model's: log entry 26. -/
def Obligations.ReferenceIsQualifiedSteppedOrLost : Prop :=
  (∀ (s : State) (e : RefEntry) (ring : List RefEntry) (count : Nat), s.ref.state = .probation →
    (s.ref.record.accepted = true → ring = s.ref.ring.dropLast ++ [e] ∧ count = 1) →
    (s.ref.record.accepted = false → ring = appendBounded 16 s.ref.ring e) →
    (s.ref.record.accepted = false →
      (∀ e3 e2 e1 older, ring.reverse = e3 :: e2 :: e1 :: older →
        count = if (fold (e3.u - e2.u) - fold (e2.u - e1.u)).natAbs ≤ ns 1000
          then min 64 (s.ref.probCount + 1) else 1) ∧
      (∀ e2 e1, ring.reverse = [e2, e1] → count = 2) ∧
      (∀ e1, ring.reverse = [e1] → count = s.ref.probCount)) →
    let v : State := { s with
      ref := { s.ref with
        ring := ring, probCount := count
        record := { s.ref.record with accepted := true, offset := some e.r } } }
    (count < s.cfg.qualCount → s.takeEdge e = v) ∧
    (s.cfg.qualCount ≤ count → s.takeEdge e = { v with
      ref := { v.ref with state := .qualified, missCount := 0, outliers := [] }
      port.outbox := s.port.outbox ++
        [⟨.qualifier, s.ts.epoch, .refQualified, none, some (signed32 (Int.tdiv e.r 16)), none⟩] })) ∧
  (∀ (s : State) (e : RefEntry) (outliers : List RefEntry), s.ref.state = .qualified ∨ s.ref.state = .disputed →
    (∀ last, s.ref.outliers.getLast? = some last → last.index = e.index →
      outliers = s.ref.outliers.dropLast ++ [e]) →
    ((∀ last, s.ref.outliers.getLast? = some last → last.index ≠ e.index) →
      outliers = appendBounded 3 s.ref.outliers e) →
    let miss := min 16 (s.ref.missCount + 1)
    let near : RefEntry → RefEntry → Prop := fun x y => (fold (x.u - y.u)).natAbs ≤ ns 1000
    let three := ∃ a b c, outliers = [a, b, c] ∧ near a b ∧ near b c ∧ near a c
    let t := s.takeOutlier e
    (¬ three → miss < s.cfg.missLimit → t = { s with
      ref := { s.ref with
        missCount := miss, outliers := outliers
        record := { s.ref.record with accepted := true, outlierSeen := true } } }) ∧
    (¬ three → s.cfg.missLimit ≤ miss →
      t.ref = { s.ref with
        state := .absent, ring := [], outliers := [], probCount := 0, missCount := 0
        record := { s.ref.record with accepted := true, outlierSeen := true } } ∧
      (⟨.qualifier, s.ts.epoch, .refLost, none, some 0, none⟩ : Posting) ∈ t.port.outbox) ∧
    (∀ a b c, outliers = [a, b, c] → near a b → near b c → near a c →
      t.ref = { s.ref with
        state := .probation, ring := [a, b, c], outliers := [], missCount := 0
        probCount := if (fold (c.u - b.u) - fold (b.u - a.u)).natAbs ≤ ns 1000 then 3 else 1
        record := ⟨true, true, some c.r⟩ } ∧
      (⟨.qualifier, s.ts.epoch, .refStep, none, some (signed32 (Int.tdiv c.r 16)), none⟩ : Posting) ∈
        t.port.outbox)) ∧
  (∀ (s : State),
    let t := s.closeByState
    let miss := if s.ref.record.accepted then s.ref.missCount else min 16 (s.ref.missCount + 1)
    (s.ref.state = .absent ∨ (s.ref.state = .probation ∧ s.ref.record.accepted = true) → t = s) ∧
    (s.ref.state = .probation → s.ref.record.accepted = false →
      t = { s with ref := { s.ref with state := .absent, ring := [], probCount := 0 } }) ∧
    (s.ref.state = .qualified ∨ s.ref.state = .disputed → miss < s.cfg.missLimit → t = { s with
      ref := { s.ref with missCount := miss
                          outliers := if s.ref.record.outlierSeen then s.ref.outliers else [] } }) ∧
    (s.ref.state = .qualified ∨ s.ref.state = .disputed → s.cfg.missLimit ≤ miss →
      t.ref = { s.ref with state := .absent, ring := [], outliers := [], probCount := 0, missCount := 0 } ∧
      (⟨.qualifier, s.ts.epoch, .refLost, none, some 0, none⟩ : Posting) ∈ t.port.outbox))

/-- Where REFVALID is used, its deassertion in PROBATION, QUALIFIED or DISPUTED makes the reference ABSENT with
REF_LOST of cause REFVALID (R36). Out of QUALIFIED, in ANCHORED or in ACQUIRING toward it, the solver re-evaluates at
once: the transition rule on the source that the last sets give, then a hand-over of the steer F and a slew of 0,
STATE_CHANGE coming after REF_LOST; an ANCHORED member with another anchor in the last sets goes to BORROWING (R126,
R143). In any other timing state the loss is all. While ABSENT, or not used, it has no effect, and neither has its
assertion. All of it with the clock running (R19). The model's: log entries 1, 4, 8. -/
def Obligations.RefvalidLossMakesTheReferenceAbsent : Prop :=
  ∀ (s : State) (dt : Nat),
    let u := s.advance dt
    let used := s.begun = true ∧ s.cfg.refFitted = true ∧ s.cfg.useRefvalid = true
    s.pins.oscRunning = true → s.port.outbox = [] →
    exec (.refvalidAssert dt) s = .next { u with pins.refvalid := true, pins.refvalidPin := true } ∧
    (s.pins.refvalid = false → exec (.refvalidDeassert dt) s = .next { u with pins.refvalidPin := false }) ∧
    (s.pins.refvalid = true → ¬ used ∨ s.ref.state = .absent →
      exec (.refvalidDeassert dt) s = .next { u with pins.refvalid := false, pins.refvalidPin := false }) ∧
    (s.pins.refvalid = true → used → s.ref.state ≠ .absent →
      let v : State := { u with
        pins.refvalid := false
        pins.refvalidPin := false
        ref := { u.ref with
          state := .absent, ring := [], outliers := [], probCount := 0, missCount := 0
          record := { s.ref.record with offset := none } } }
      (s.ref.state ≠ .qualified →
        exec (.refvalidDeassert dt) s = .next (v.stored .refLost none (some 1))) ∧
      (s.ref.state = .qualified → ∃ t, exec (.refvalidDeassert dt) s = .next t ∧ t.ref = v.ref ∧
        t.solver.timing ≠ .anchored ∧ t.pins = v.pins ∧ t.mem = u.mem ∧ t.mark = u.mark ∧
        t.frame = u.frame ∧ t.roster = u.roster ∧
        (s.port.queue.length + 3 ≤ 32 → ∃ r ∈ t.port.queue.drop s.port.queue.length,
          r.epoch = s.ts.epoch ∧ r.kind = .refLost ∧ r.subject = none ∧ r.value = some 1)) ∧
      (let relies := s.solver.timing = .anchored ∨ (s.solver.timing = .acquiring ∧ s.solver.target = some .anchored)
       let others := fun (ids : List NodeId) => ids.filter (fun k => k ≠ s.mem.nodeId)
       let member := decide (s.mem.state = .member)
       let source := sourceOf false member (!(others s.solver.lastA).isEmpty) (!(others s.solver.lastC).isEmpty)
       let growth := growthOf member s.cfg.cls (s.classesOf (others s.solver.lastC))
       let w := ({ v with port.outbox := [⟨.qualifier, s.ts.epoch, .refLost, none, some 1, none⟩] } : State).transition
         (some .qualifier) source growth
       (s.ref.state = .qualified → ¬ relies → exec (.refvalidDeassert dt) s = .next (v.stored .refLost none (some 1))) ∧
       (s.ref.state = .qualified → relies → exec (.refvalidDeassert dt) s =
         .next ({ w with ts.pendF := some (clampPpt w.solver.steerF), ts.pendC := some 0 } : State).settle) ∧
       (s.ref.state = .qualified → s.solver.timing = .anchored → s.solver.timeValid = true → s.mem.state = .member →
         others s.solver.lastA ≠ [] → exec (.refvalidDeassert dt) s = .next (({ v with
           solver := { v.solver with
             timing := .borrowing, target := none, stateHeld := 0, overBudget := false, validTime := true }
           ts.pendF := some (clampPpt s.solver.steerF)
           ts.pendC := some 0 }.stored .refLost none (some 1)).stored .stateChange none (some 3)))))

/-! ## The solve (R122 to R146) -/

/-- The solve point closes the reference interval, completes the roster's exchange and hands F and c over; before
BEGIN it is raised and does nothing more (R24, R105, R120, R122, R146). Its nine steps follow one another. The record
closed is the reference state with its offset, no offset where it is ABSENT, and the next interval starts empty (R24).
The view of a solve is formed from it: its peers are the candidates of the entries and, with the node itself, the set
C; those anchored and, where it stands in A, the node the set A (R121, R123, R124). The source of the priority is
applied by the transition rule (R125, R126). A solve that ends ANCHORED with e sets the bound to the reference
uncertainty plus |e|; in BORROWING, to the smallest declared bound of the anchored peers kept, plus 16 ns, plus |e|;
up to 10^15 fs (R136, R138); FREE and ACQUIRING leave it, and so does a solve without e. The hand-over holds the
state-held count, the clamped F and c, and the roster's completion, and writes nothing
else outside the temperature unit (R146). F is recorded as
the last F, and learned into the bin of T where the state after the solve is ANCHORED or BORROWING and has been held
for 16 solves, |c| is below the slew limit, the epoch did not begin by a step, the supply is NORMAL, and T is present
and in range; any other solve learns nothing (R152). The model's: log entries 1, 13, 14, 20. -/
def Obligations.SolvePointHandsItsResultsOver : Prop :=
  (∀ (s : State), s.pointDue .solve = true →
    let u := s.raise .solve
    (s.begun = false → s.port.outbox = [] → exec .solvePoint s = .next u) ∧
    (s.begun = true → ∃ t, exec .solvePoint s = .next t ∧
      t.ref.interval = s.ref.interval + 1 ∧ t.ref.record = ⟨false, false, none⟩ ∧
      t.roster.openingMask = none ∧
      (∀ e ∈ t.roster.entries, e.received = .none ∧ e.marked = false ∧ e.sampled = false) ∧
      (∀ d ∈ t.roster.diffs, d.now = none) ∧
      t.ts.pendF = some (clampPpt t.solver.steerF) ∧ t.ts.pendC.isSome = true ∧
      t.temp.lastF = t.solver.steerF ∧ t.temp.samples = s.temp.samples ∧
      1 ≤ t.solver.stateHeld ∧ t.solver.stateHeld ≤ 65535 ∧
      t.mem = u.mem ∧ t.mark = u.mark ∧ t.frame = u.frame ∧ t.pins = s.pins ∧
      t.ts.epoch = s.ts.epoch ∧ t.ts.sitePhase = u.ts.sitePhase) ∧
    (s.begun = true →
      let r := u.closeInterval
      let a := r.2.rosterMarks
      let v := a.solveView r.1
      let b := (a.solveOpens v).settleSource v
      let p := b.phaseError v
      let q := (b.judgeSelf p).steer v p
      exec .solvePoint s =
        .next ((q.2.updateBound v p).handResults q.1 ((b.judgeSelf p).verdictOn p)).settle)) ∧
  (∀ s : State,
    let a := s.closeByState
    s.closeInterval = (⟨a.ref.state, if a.ref.state = .absent then none else a.ref.record.offset⟩,
      { a with ref := { a.ref with interval := a.ref.interval + 1, record := ⟨false, false, none⟩ } })) ∧
  (∀ (s : State) (r : IntervalResult),
    let v := s.solveView r
    v.offset = r.offset ∧ (v.member = true ↔ s.mem.state = .member) ∧
    v.peers = (if s.mem.state = .member then s.roster.entries.filterMap Entry.candidate else []) ∧
    (v.ownAnchored = true ↔ s.mem.state = .member ∧ s.solver.timing = .anchored ∧ r.state = .qualified)) ∧
  (∀ (s : State) (v : SolveView),
    let own : Bool → List NodeId := fun stands => if stands then [s.mem.nodeId] else []
    v.anchors = v.peers.filter (·.anchored) ∧
    s.solveOpens v = { s with
      solver := { s.solver with
        validTime := if s.ts.stepBegan then false else s.solver.validTime
        lockCount := if s.ts.stepBegan then 0 else s.solver.lockCount
        lastC := own v.member ++ v.peers.map (·.id)
        lastA := own v.ownAnchored ++ v.anchors.map (·.id) } } ∧
    s.applySource v = s.transition none
      (sourceOf (decide (s.ref.state = .qualified)) v.member (!v.anchors.isEmpty) (!v.peers.isEmpty))
      (growthOf v.member s.cfg.cls (v.peers.map (fun p : Peer => p.cls))) ∧
    s.settleSource v = ((s.judgeUndispute v).applySource v).judgeAnchors v) ∧
  (∀ (s : State) (v : SolveView) (p : PhaseError),
    let bounded := fun (b : Nat) => ({ s with solver.bound := min 1000000000000000 b } : State)
    let declared := (v.peers.filter (fun q => q.anchored && p.kept.contains q.id)).filterMap
      (fun q => q.declared.map (fun d : Declared => d.bound))
    (s.solver.timing = .free ∨ s.solver.timing = .acquiring → s.updateBound v p = s) ∧
    (s.solver.timing = .anchored ∨ s.solver.timing = .borrowing → p.e = none → s.updateBound v p = s) ∧
    (∀ e, s.solver.timing = .anchored → p.e = some e →
      s.updateBound v p = bounded (s.cfg.refUncertainty * 1000000 + e.natAbs * 62500)) ∧
    (∀ e, s.solver.timing = .borrowing → p.e = some e → declared ≠ [] →
      ∃ d ∈ declared, (∀ x ∈ declared, d ≤ x) ∧
        s.updateBound v p = bounded (d * 4000000 + 16000000 + e.natAbs * 62500))) ∧
  (∀ (s : State) (c : Int) (verdicts : NodeId → Verdict),
    let held := min 65535 (s.solver.stateHeld + 1)
    let f := s.solver.steerF
    let settled := ((s.solver.timing = .anchored ∧ (c.natAbs : Int) < 16 * (s.cfg.slewAnchor : Int)) ∨
        (s.solver.timing = .borrowing ∧ (c.natAbs : Int) < 16 * (s.cfg.slewBorrow : Int))) ∧
      16 ≤ held ∧ s.ts.stepBegan = false ∧ s.mem.supplyIsLow = false
    let t := s.handResults c verdicts
    let w : State := { s with
      solver.stateHeld := held
      ts.pendF := some (clampPpt f)
      ts.pendC := some (clampInt (-32000) 32000 c) }
    t = { w.rosterComplete verdicts with temp := t.temp } ∧
    t.solver.stateHeld = held ∧ t.solver.bound = s.solver.bound ∧ t.solver.timing = s.solver.timing ∧
    t.ts.pendF = some (clampPpt f) ∧ t.ts.pendC = some (clampInt (-32000) 32000 c) ∧
    (∀ x, s.temp.mean = some x → settled → -800 ≤ x → x ≤ 1759 →
      let i := ((x + 800) / 32).toNat
      t.temp = { s.temp with lastF := f, table := s.temp.table.setIfInBounds i ((s.temp.bin i).learn f) }) ∧
    (∀ x, s.temp.mean = some x → ¬ settled ∨ x < -800 ∨ 1759 < x → t.temp = { s.temp with lastF := f }) ∧
    (s.temp.mean = none → t.temp = { s.temp with lastF := f }))

/-- The source priority and the transition rule (R125, R126), and what an entry to a timing state does (R120, R126,
R137 to R139): STATE_CHANGE with the codes of state and target, the state-held count at 0, the flags and the bound of
the state, in holdover H, trim and the growth of its class, and time-valid by its rule. The growth of a set is its
number of members and the highest class among them, the node's own counting where it stands in the set (R137). The
model's: log entries 4 (where OVER_BUDGET comes at the entry, its order with STATE_CHANGE) and 14. -/
def Obligations.SourcePriorityMovesTheTimingState : Prop :=
  (∀ qualified member anchored peer : Bool, sourceOf qualified member anchored peer =
    if qualified then some .anchored
    else if member = true ∧ anchored = true then some .borrowing
    else if member = true ∧ peer = true then some .coasting
    else none) ∧
  (∀ (s : State) (after : Option Lane) (source : Option Target) (g : Growth),
    let t := s.transition after source g
    let now := s.solver.timing
    (now = .free ∨ now = .alone → source = none → t = s) ∧
    (∀ x, now = .free → source = some x → t = s.enter after .acquiring (some x) g none) ∧
    (∀ x, now = .acquiring → source = some x → s.solver.target = some x → t = s) ∧
    (∀ x, now = .acquiring → source = some x → s.solver.target ≠ some x →
      t = s.enter after .acquiring (some x) g none) ∧
    (now = .acquiring → source = none → s.solver.validTime = true → t = s.enter after .alone none g none) ∧
    (now = .acquiring → source = none → s.solver.validTime = false → t = s.enter after .free none g none) ∧
    (now = .anchored ∨ now = .borrowing ∨ now = .coasting → source = none →
      t = s.enter after .alone none g none) ∧
    (∀ x, now = .anchored ∨ now = .borrowing ∨ now = .coasting ∨ now = .alone → source = some x →
      (now = x.state → t = s) ∧
      (now ≠ x.state → s.solver.timeValid = true → t = s.enter after x.state none g none) ∧
      (now ≠ x.state → s.solver.timeValid = false → t = s.enter after .acquiring (some x) g none))) ∧
  (∀ (s : State) (after : Option Lane) (new : TimingState) (target : Option Target) (g : Growth)
      (start : Option Nat),
    let t := s.enter after new target g start
    let old := s.solver.timing
    let holdover : TimingState → Prop := fun x => x = .coasting ∨ x = .alone
    let change : Posting := ⟨.solver, s.ts.epoch, .stateChange, none,
      some (signed32 (new.code + 256 * (match target with | some x => x.state.code | none => 0))), after⟩
    t.solver.timing = new ∧ t.solver.target = target ∧ t.solver.stateHeld = 0 ∧
    t.solver.steerF = s.solver.steerF ∧ t.solver.lastE = s.solver.lastE ∧ t.ref = s.ref ∧ t.mem = s.mem ∧
    t.roster = s.roster ∧ t.ts = s.ts ∧ change ∈ t.port.outbox ∧
    (t.solver.timeValid = true ↔ new = .anchored ∨ new = .borrowing ∨
      (holdover new ∧ t.solver.overBudget = false)) ∧
    (t.solver.overBudget = true ↔ holdover new ∧
      ((holdover old ∧ s.solver.overBudget = true) ∨ s.cfg.budget * 1000000 < t.solver.bound)) ∧
    (¬ holdover new → t.port.outbox = s.port.outbox ++ [change] ∧ t.temp = s.temp) ∧
    (new = .free ∨ new = .acquiring → t.solver.bound = 1000000000000000 ∧ t.solver.lockCount = 0 ∧
      t.solver.validTime = s.solver.validTime) ∧
    (new = .anchored ∨ new = .borrowing → t.solver.bound = s.solver.bound ∧ t.solver.validTime = true) ∧
    (holdover new →
      t.solver.anchorH = s.solver.steerF - t.temp.predict.1 ∧ t.solver.trim = 0 ∧
      t.solver.rate = rate0 t.solver.growthClass * ensembleFactor t.solver.growthN ∧
      (holdover old → t.temp = s.temp) ∧
      (¬ holdover old → t.temp = { s.temp with
        lastF := s.solver.steerF
        frozen := some { s.temp with lastF := s.solver.steerF }.predict.1 })) ∧
    (new = .coasting → t.solver.validTime = true ∧ t.solver.growthClass = g.cls ∧ t.solver.growthN = g.n ∧
      t.solver.bound = start.getD s.solver.bound) ∧
    (new = .alone → t.solver.validTime = s.solver.validTime ∧ t.solver.growthClass = s.cfg.cls ∧
      t.solver.growthN = 1 ∧ t.solver.bound = s.solver.bound)) ∧
  (∀ (member : Bool) (own : OscClass) (classes : List OscClass),
    let g := growthOf member own classes
    g.n = classes.length + (if member then 1 else 0) ∧ (∀ c ∈ classes, c ≤ g.cls) ∧ (member = true → own ≤ g.cls) ∧
    (g.cls ∈ classes ∨ (g.cls = own ∧ (member = true ∨ classes = [])))) ∧
  ([0, 1, 2, 3].map rate0 = [500000, 100000, 10000, 2000] ∧ [0, 1, 2, 3].map accel = [100000, 20000, 2000, 300] ∧
    (List.range 10).map ensembleFactor = [1000, 1000, 707, 577, 500, 447, 408, 378, 354, 333])

/-- Disputes and splits (R34, R35, R140 to R142). While DISPUTED a solve compares the node's offset with the median of the
anchored peers: the eighth within the threshold running ends the dispute, and so does a solve without anchored peers. An
ANCHORED solve of a member with two or more anchored peers compares it with the median of all anchors, itself among
them: the fourth beyond the threshold running requests DISPUTED, and the source is then chosen again. With just one
anchored peer a difference beyond the threshold is a split, posted when it begins. Outside the test the count becomes 0,
at a solve without an offset too. The model's: log entries 13, 35. -/
def Obligations.DisputesAndSplitsAreCounted : Prop :=
  ∀ (s : State) (v : SolveView),
    let offsets := v.anchors.map (·.offset)
    let limit := ns s.cfg.dispute
    let set := fun (n : Nat) => ({ s with solver.undisputeCount := n } : State)
    let ended : State := { set 0 with
      ref.state := .qualified
      port.outbox := s.port.outbox ++ [⟨.qualifier, s.ts.epoch, .refUndisputed, none, none, none⟩] }
    let count := fun (n : Nat) => ({ s with solver.disputeCount := n } : State)
    let disputed : State := { count 0 with
      ref.state := .disputed
      port.outbox := s.port.outbox ++ [⟨.qualifier, s.ts.epoch, .refDisputed, none, none, none⟩] }
    let tested := v.member = true ∧ v.ownAnchored = true ∧ 2 ≤ v.anchors.length
    let split := fun (x : Bool) => ({ s with solver.split := x } : State)
    (s.ref.state ≠ .disputed → s.judgeUndispute v = set 0) ∧
    (s.ref.state = .disputed →
      (v.anchors = [] → s.judgeUndispute v = ended) ∧
      (v.anchors ≠ [] → v.offset = none → s.judgeUndispute v = s) ∧
      (∀ r, v.anchors ≠ [] → v.offset = some r →
        (limit < (-r - lowerMedian offsets).natAbs → s.judgeUndispute v = set 0) ∧
        ((-r - lowerMedian offsets).natAbs ≤ limit → s.solver.undisputeCount < 7 →
          s.judgeUndispute v = set (s.solver.undisputeCount + 1)) ∧
        ((-r - lowerMedian offsets).natAbs ≤ limit → 7 ≤ s.solver.undisputeCount →
          s.judgeUndispute v = ended))) ∧
    (¬ tested → s.judgeDispute v = count 0) ∧
    (tested → v.offset = none → s.judgeDispute v = s) ∧
    (∀ r, tested → v.offset = some r →
      ((-r - lowerMedian (-r :: offsets)).natAbs ≤ limit → s.judgeDispute v = count 0) ∧
      (limit < (-r - lowerMedian (-r :: offsets)).natAbs → s.solver.disputeCount < 3 →
        s.judgeDispute v = count (s.solver.disputeCount + 1)) ∧
      (limit < (-r - lowerMedian (-r :: offsets)).natAbs → 3 ≤ s.solver.disputeCount →
        (s.ref.state = .qualified → s.judgeDispute v = disputed.applySource v) ∧
        (s.ref.state ≠ .qualified → s.judgeDispute v = (count 0).applySource v))) ∧
    ((∀ j r, v.anchors = [j] → v.offset = some r → v.ownAnchored = false) → s.judgeSplit v = split false) ∧
    (∀ j r, v.anchors = [j] → v.offset = some r → v.ownAnchored = true →
      ((-r - j.offset).natAbs ≤ limit → s.judgeSplit v = split false) ∧
      (limit < (-r - j.offset).natAbs → s.solver.split = true → s.judgeSplit v = s) ∧
      (limit < (-r - j.offset).natAbs → s.solver.split = false → s.judgeSplit v = { split true with
        port.outbox := s.port.outbox ++ [⟨.solver, s.ts.epoch, .anchorSplit, some j.id,
          some (signed32 (Int.tdiv (j.offset + r) 16)), none⟩] })) ∧
    (s.solver.timing ≠ .anchored →
      s.judgeAnchors v = { s with solver := { s.solver with disputeCount := 0, split := false } }) ∧
    (s.solver.timing = .anchored → s.judgeAnchors v = (s.judgeSplit v).judgeDispute v)

/-- The phase error of a solve (R123, R127 to R130): its own offset where the node steers to its reference, else minus
the weighted mean of the anchored peers, or of the members with the node itself at 0; a two-way sample weighs twice a
one-way one, and each class twice the one below. With three or more, those beyond the dispute threshold from the lower
median are left out, and the verdicts say so, each for the entry held under its ID; a coasting node so left out is
self-excluded (R129). Of several samples made since the last solve the newest counts (the model's, log entry 34). -/
def Obligations.PhaseErrorsAreWeighedAndJudged : Prop :=
  (∀ (xs : List Int), xs ≠ [] → lowerMedian xs ∈ xs ∧
    (xs.filter (fun x => x < lowerMedian xs)).length ≤ (xs.length - 1) / 2 ∧
    (xs.length - 1) / 2 < (xs.filter (fun x => x ≤ lowerMedian xs)).length) ∧
  (∀ (s : State) (members : List Weighed),
    let median := lowerMedian (members.map (·.offset))
    let kept := members.filter (fun x => (x.offset - median).natAbs ≤ ns s.cfg.dispute)
    let mean := fun (xs : List Weighed) => Int.tdiv (sumInt (xs.map (fun x => (x.weight : Int) * x.offset)))
      (sumInt (xs.map (fun x => (x.weight : Int))))
    (members.length < 3 → s.ensembleError members =
      ⟨some (-mean members), members.map (·.id), [], some (mean members)⟩) ∧
    (3 ≤ members.length → s.ensembleError members =
      ⟨some (-mean kept), kept.map (·.id), members.map (·.id), some median⟩)) ∧
  (∀ (s : State) (v : SolveView),
    let steers : Target → Prop := fun t => s.solver.timing = t.state ∨
      (s.solver.timing = .acquiring ∧ s.solver.target = some t)
    let own : List Weighed := if v.member then [⟨s.mem.nodeId, 0, 2 * 2 ^ s.cfg.cls.val⟩] else []
    let weighed := fun (ps : List Peer) => ps.map (fun p => (⟨p.id, p.offset, p.weight⟩ : Weighed))
    (s.solver.timing = .free ∨ s.solver.timing = .alone → s.phaseError v = ⟨none, [], [], none⟩) ∧
    (steers .anchored → s.phaseError v = ⟨v.offset, [], [], some 0⟩) ∧
    (steers .borrowing → s.phaseError v = s.ensembleError (weighed (v.peers.filter (·.anchored)))) ∧
    (steers .coasting → s.phaseError v = s.ensembleError (own ++ weighed v.peers))) ∧
  (∀ (e : Entry),
    (e.state ≠ .admitted ∨ e.sampled = false ∨ e.ring = [] → e.candidate = none) ∧
    (∀ x, e.state = .admitted → e.sampled = true → e.ring.getLast? = some x → e.candidate = some
      ⟨e.id, x.offset, (match x.kind with | .twoWay => 2 | .oneWay => 1) * 2 ^ e.cls.val,
        decide (e.received = .census ∧ e.declared.map (·.timing) = some .anchored), e.cls, e.declared⟩)) ∧
  (∀ (s : State) (p : PhaseError) (e : Entry),
    (e.id ∈ p.judged → e.id ∈ p.kept → s.verdict p e = .included) ∧
    (e.id ∈ p.judged → e.id ∉ p.kept → s.verdict p e = .excluded) ∧
    (∀ x y, e.id ∉ p.judged → e.state = .suspect → e.cause = some .deviation → e.sampled = true →
      p.point = some x → e.ring.getLast? = some y →
      s.verdict p e = if (y.offset - x).natAbs ≤ ns s.cfg.dispute then .within else .outside) ∧
    (e.id ∉ p.judged → e.state ≠ .suspect ∨ e.cause ≠ some .deviation ∨ e.sampled = false ∨ p.point = none ∨
      e.ring = [] → s.verdict p e = .notJudged) ∧
    (s.roster.entries.find? (fun x => x.id = e.id) = some e → s.verdictOn p e.id = s.verdict p e)) ∧
  (∀ (s : State) (p : PhaseError),
    let steers := s.solver.timing = .coasting ∨
      (s.solver.timing = .acquiring ∧ s.solver.target = some .coasting)
    let out := steers ∧ s.mem.nodeId ∈ p.judged ∧ s.mem.nodeId ∉ p.kept
    (¬ out → s.judgeSelf p = { s with solver.selfExcluded := false }) ∧
    (∀ median, out → p.point = some median →
      (s.solver.selfExcluded = true → s.judgeSelf p = s) ∧
      (s.solver.selfExcluded = false → s.judgeSelf p = { s with
        solver.selfExcluded := true
        port.outbox := s.port.outbox ++
          [⟨.solver, s.ts.epoch, .selfExcluded, none, some (signed32 (Int.tdiv (-median) 16)), none⟩] })))

/-- A solve steers against its phase error (R127, R131 to R134): the slew is −e within the limit of the state, F
falls by e × 1,000 / 1,024; COASTING moves the trim and forms F from prediction, H and trim; ACQUIRING beyond the
step threshold requests a step of −e instead. Without e the slew is 0 and F stands, but follows the prediction in
ALONE, and the last e is kept, in FREE and ALONE too (the model's reading, log entry 28). The eighth ACQUIRING solve
running within the lock threshold locks: the timing state becomes the target's (R135), with the starting bound that the
peers' declared bounds give (R138). -/
def Obligations.SolvesSteerAgainstTheirError : Prop :=
  (∀ (v : SolveView) (p : PhaseError) (s : State),
     let limit : Int := match s.solver.timing with
       | .anchored | .acquiring => 16 * (s.cfg.slewAnchor : Int)
       | .borrowing => 16 * (s.cfg.slewBorrow : Int)
       | .coasting => 16 * (s.cfg.slewCoast : Int)
       | .free | .alone => 0
     (p.e = none → s.solver.timing ≠ .alone → s.steer v p = (0, s)) ∧
     (p.e = none → s.solver.timing = .alone → s.steer v p = (0, { s with
       solver.steerF := clampPpt (s.temp.predict.1 + s.solver.anchorH) })) ∧
     (∀ e, p.e = some e → s.solver.timing = .acquiring → ns s.cfg.stepLimit < e.natAbs →
       s.solver.timeValid = false →
       s.steer v p = (0, { s with
         solver := { s.solver with lastE := some e, lockCount := 0 }
         ts.pendStep := some (fold (-e)) })) ∧
     (∀ e, p.e = some e → s.solver.timing = .anchored ∨ s.solver.timing = .borrowing →
       s.steer v p = (clampInt (-limit) limit (-e), { s with
         solver := { s.solver with
           lastE := some e
           steerF := clampPpt (s.solver.steerF - Int.tdiv (e * 1000) 1024) } })) ∧
     (∀ e, p.e = some e → s.solver.timing = .coasting →
       let trim := clampPpt (s.solver.trim - Int.tdiv (e * 1000) 1024)
       s.steer v p = (clampInt (-limit) limit (-e), { s with
         solver := { s.solver with
           lastE := some e
           trim := trim
           steerF := clampPpt (s.temp.predict.1 + s.solver.anchorH + trim) } })) ∧
     (∀ e, p.e = some e → s.solver.timing = .acquiring → e.natAbs ≤ ns s.cfg.stepLimit →
       let w : State := { s with
         solver := { s.solver with
           lastE := some e
           steerF := clampPpt (s.solver.steerF - Int.tdiv (e * 1000) 1024) } }
       (ns s.cfg.lockLimit < e.natAbs →
         s.steer v p = (clampInt (-limit) limit (-e), { w with solver.lockCount := 0 })) ∧
       (e.natAbs ≤ ns s.cfg.lockLimit → s.solver.lockCount < 7 →
         s.steer v p = (clampInt (-limit) limit (-e), { w with
           solver.lockCount := s.solver.lockCount + 1 })) ∧
       (∀ target, e.natAbs ≤ ns s.cfg.lockLimit → 7 ≤ s.solver.lockCount → s.solver.target = some target →
         s.steer v p = (clampInt (-limit) limit (-e), { w with solver.lockCount := 8 }.enter none target.state none
           (growthOf v.member s.cfg.cls (v.peers.map (fun p : Peer => p.cls))) (some (startingBound v.peers))) ∧
         (s.steer v p).2.solver.timing = target.state ∧ (s.steer v p).2.solver.target = none ∧
         (s.steer v p).2.solver.validTime = true))) ∧
  (∀ (peers : List Peer),
     let declared := peers.filterMap (·.declared)
     let good := declared.filter (fun d => d.overBudget = false)
     (∀ d ∈ good, startingBound peers ≤ d.bound * 4000000 + 16000000) ∧
     (good ≠ [] → ∃ d ∈ good, startingBound peers = d.bound * 4000000 + 16000000) ∧
     (good = [] → (∀ d ∈ declared, d.bound * 4000000 ≤ startingBound peers) ∧
       (declared ≠ [] → ∃ d ∈ declared, startingBound peers = d.bound * 4000000) ∧
       (declared = [] → startingBound peers = 1000000000000000)))

/-- The growth of holdover at each solve (R137, R139, R120). B grows by R / 1,000 fs rounded up, and R by the
acceleration of its class, both up to 10^15. The bound step of a solve whose state is COASTING or ALONE, the solve of
entry included, makes this growth; where B then exceeds the holdover budget and the over-budget flag is clear, it sets
the flag and posts OVER_BUDGET with B in ns, rounded up and up to 2,147,483,647; then time-valid is formed again, low
with the flag and high without it. The grown B and R stand after SOLVE_POINT. Over the whole part: while the timing state
stays COASTING or ALONE no command makes the error bound fall. -/
def Obligations.HoldoverBoundNeverDecreases : Prop :=
  (∀ v : Solver,
    v.grow.bound = min 1000000000000000 (v.bound + (v.rate + 999) / 1000) ∧
    v.grow.rate = min 1000000000000000 (v.rate + accel v.growthClass * ensembleFactor v.growthN / 1000) ∧
    v.grow = { v with bound := v.grow.bound, rate := v.grow.rate }) ∧
  (∀ (s : State) (v : SolveView) (p : PhaseError), s.solver.timing = .coasting ∨ s.solver.timing = .alone →
    let grown : State := { s with solver := s.solver.grow }
    let exceeds := s.solver.overBudget = false ∧ s.cfg.budget * 1000000 < s.solver.grow.bound
    let inNs := min 2147483647 ((s.solver.grow.bound + 999999) / 1000000)
    let t := s.updateBound v p
    (¬ exceeds → t = grown.refreshTimeValid ∧ t.solver.overBudget = s.solver.overBudget ∧
      t.port.outbox = s.port.outbox) ∧
    (exceeds → t = ({ grown with
        solver.overBudget := true
        port.outbox := s.port.outbox ++
          [⟨.solver, s.ts.epoch, .overBudget, none, some (BitVec.ofNat 32 inNs), none⟩] } : State).refreshTimeValid ∧
      t.solver.overBudget = true ∧ t.port.outbox = s.port.outbox ++
        [⟨.solver, s.ts.epoch, .overBudget, none, some (BitVec.ofNat 32 inNs), none⟩]) ∧
    t.solver.timeValid = !t.solver.overBudget ∧ t.solver.timing = s.solver.timing ∧
    t.solver.bound = s.solver.grow.bound ∧ t.solver.rate = s.solver.grow.rate) ∧
  (∀ (s : State), s.pointDue .solve = true → s.begun = true →
    let r := (s.raise .solve).closeInterval
    let a := r.2.rosterMarks
    let v := a.solveView r.1
    let b := (a.solveOpens v).settleSource v
    let p := b.phaseError v
    let q := ((b.judgeSelf p).steer v p).2
    q.solver.timing = .coasting ∨ q.solver.timing = .alone → ∃ t, exec .solvePoint s = .next t ∧
      t.solver.timing = q.solver.timing ∧ t.solver.bound = q.solver.grow.bound ∧
      t.solver.rate = q.solver.grow.rate ∧ t.solver.overBudget = (q.updateBound v p).solver.overBudget ∧
      t.solver.timeValid = !t.solver.overBudget) ∧
  (∀ (c : Instr) (s t : State), exec c s = .next t →
    s.solver.timing = .coasting ∨ s.solver.timing = .alone →
    t.solver.timing = .coasting ∨ t.solver.timing = .alone →
    s.solver.bound ≤ 1000000000000000 →
    s.solver.bound ≤ t.solver.bound)

/-! ## Temperature (R148 to R161) -/

/-- A die sample joins the list of eight, clamped to the sensor's range; T is the mean of the list, and TEMP_RANGE
is posted from BEGIN when T leaves the table's range (R148 to R150). The model's: log entry 1. -/
def Obligations.TemperatureSamplesFormTheMean : Prop :=
  ∀ (s : State) (die : Int), s.pointDue .temperature = true → s.port.outbox = [] →
    let u := s.raise .temperature
    let samples := appendBounded 8 s.temp.samples (clampInt (-1024) 2560 die)
    let x := Int.tdiv (sumInt samples) samples.length
    let out := x < -800 ∨ 1759 < x
    let v : State := { u with temp := { s.temp with samples := samples, excursion := decide out } }
    v.temp.mean = some x ∧
    (¬ out ∨ s.temp.excursion = true ∨ s.begun = false → exec (.temperatureSample die) s = .next v) ∧
    (out → s.temp.excursion = false → s.begun = true →
      exec (.temperatureSample die) s = .next (v.stored .tempRange none (some (signed32 x))))

/-- A learned sample is the bin's first value, or moves it by its share of the difference, and the new value lies
between the old and the sample (R153). -/
def Obligations.LearnedSamplesMoveTheirBin : Prop :=
  ∀ (x : Int) (b : TempBin),
    (b.count = 0 → b.learn x = ⟨x, 1⟩) ∧
    (0 < b.count → b.count < 255 →
      b.learn x = ⟨b.value + Int.tdiv (x - b.value) (b.count + 1), b.count + 1⟩) ∧
    (b.count = 255 → b.learn x = ⟨b.value + Int.tdiv (x - b.value) 256, 255⟩) ∧
    (0 < b.count → b.count ≤ 255 →
      min b.value x ≤ (b.learn x).value ∧ (b.learn x).value ≤ max b.value x)

/-- The prediction is the bin of T when it has a count of 8, else the nearest within ten bins that has, the lower
first, else the frozen value, else the last F (R149, R154). -/
def Obligations.PredictionReadsTheNearestLearnedBin : Prop :=
  ∀ (t : TempUnit),
    let fallback : Int := match t.frozen with | some v => v | none => t.lastF
    (t.samples = [] → t.predict = (fallback, .frozen)) ∧
    (∀ x, t.mean = some x →
      let b := binOf x
      let ok : Nat → Prop := fun i => 8 ≤ (t.bin i).count
      (-800 ≤ x → x ≤ 1759 → (b : Int) = (x + 800) / 32) ∧ (x < -800 → b = 0) ∧ (1759 < x → b = 79) ∧
      (ok b → t.predict = ((t.bin b).value, .bin)) ∧
      (∀ d, ¬ ok b → 1 ≤ d → d ≤ 10 →
        (∀ d', 1 ≤ d' → d' < d → (d' ≤ b → ¬ ok (b - d')) ∧ ¬ ok (b + d')) →
        (d ≤ b → ok (b - d) → t.predict = ((t.bin (b - d)).value, .neighbour)) ∧
        ((d ≤ b → ¬ ok (b - d)) → ok (b + d) → t.predict = ((t.bin (b + d)).value, .neighbour))) ∧
      (¬ ok b → (∀ d, 1 ≤ d → d ≤ 10 → (d ≤ b → ¬ ok (b - d)) ∧ ¬ ok (b + d)) →
        t.predict = (fallback, .frozen)))

/-- A bin of the table changes only at power-on reset, by LOAD TABLE PAGE while UNCONFIGURED, or by learning at a
solve that ends ANCHORED or BORROWING; and no count passes 255 (R151). -/
def Obligations.TheTableChangesOnlyByResetLoadOrLearning : Prop :=
  (∀ (c : Instr) (s t : State), exec c s = .next t → t.temp.table ≠ s.temp.table →
    c = .powerOnReset ∨ (∃ dt payload, c = .loadTablePage dt payload ∧ s.mem.state = .unconfigured) ∨
      (c = .solvePoint ∧ (t.solver.timing = .anchored ∨ t.solver.timing = .borrowing))) ∧
  (∀ (c : Instr) (s t : State), exec c s = .next t → (∀ i, (s.temp.bin i).count ≤ 255) →
    ∀ i, (t.temp.bin i).count ≤ 255)

/-! ## Generators (R162 to R174) -/

/-- The search for a next start finds the first phase of the generator's grid, O plus the group's offset modulo the
period, that is still to be raised in this epoch, or else the first of the next (R166). A RUNNING generator that reaches
its next start in the epoch starts its pulse timer with the width, shown unless inhibit is in force, and its next start
moves one period on, into the next epoch where it passes the end of this one; the timer that has counted the width is
idle (R163, R167, R173). The model's: log entry 1. -/
def Obligations.PulsesStartOnTheGridAndLastTheWidth : Prop :=
  (∀ (t : Timescale) (g : GenSettings) (taken : Bool), 1 ≤ g.period → g.period ≤ 1000000 →
     let n := searchStart t g taken
     let offset := (t.groupOffset g.group).current
     let onGrid : Int → Prop := fun q => (q - (g.offset + offset)) % (1000 * (g.period : Int)) = 0
     let ahead : Int → Prop := fun q => if taken then (t.sitePhase : Int) < 16 * q else (t.sitePhase : Int) ≤ 16 * q
     onGrid n.phase ∧ 0 ≤ n.phase ∧ n.phase < 1000000000 ∧
     (n.nextEpoch = false → t.replay = false ∧ ahead n.phase ∧ ∀ q, onGrid q → ahead q → 0 ≤ q → n.phase ≤ q) ∧
     (n.nextEpoch = true → (∀ q, onGrid q → 0 ≤ q → n.phase ≤ q) ∧
       (t.replay = true ∨ ∀ q, onGrid q → ahead q → 0 ≤ q → 1000000000 ≤ q))) ∧
  ((∀ (s : State) (i : Fin 4) (n : NextStart), (s.gen.gens.get i).run = .running →
     (s.gen.gens.get i).next = some n → n.nextEpoch = false → s.ts.replay = false →
     s.dueWithin (ns n.phase.toNat - s.ts.sitePhase) = true →
     let u := s.runTo (s.ts.sitePhase + (ns n.phase.toNat - s.ts.sitePhase))
     let after := n.phase + 1000 * ((s.cfg.gens.get i).period : Int)
     exec (.generatorStart i) s = .next { u with
       gen.gens := u.gen.gens.set i { u.gen.gens.get i with
         pulse := some ⟨ns (s.cfg.gens.get i).width, !s.gen.inForce⟩
         next := some (if 1000000000 ≤ after then ⟨after - 1000000000, true⟩ else ⟨after, false⟩) } }) ∧
   (∀ (s : State) (i : Fin 4) (p : Pulse), (s.gen.gens.get i).pulse = some p → s.dueWithin p.remaining = true →
     let u := s.runTo (s.ts.sitePhase + p.remaining)
     exec (.pulseEnd i) s = .next { u with
       gen.gens := u.gen.gens.set i { u.gen.gens.get i with pulse := none } }))

/-- Time-valid is recomputed from the timing state and the over-budget flag, and a change reaches the generator unit
(R120). From BEGIN on a rise makes a HOLDING generator RUNNING, its next start searched afresh, or SKIPPING where it has
boundaries to skip; a fall makes a SKIPPING one HOLDING, and a RUNNING one too, its timer idle, unless its invalid
behaviour is RUN (R169). A grid phase at the very instant of a rise is taken or not, for each generator alike or
unlike (the model's, log entry 4). -/
def Obligations.TimeValidMovesTheGenerators : Prop :=
  (∀ s : State,
    let level := decide (s.solver.timing = .anchored ∨ s.solver.timing = .borrowing ∨
      ((s.solver.timing = .coasting ∨ s.solver.timing = .alone) ∧ s.solver.overBudget = false))
    (s.solver.timeValid = level → s.refreshTimeValid = s) ∧
    (s.solver.timeValid ≠ level →
      s.refreshTimeValid = { s with solver.timeValid := level }.genTimeValid level)) ∧
  (∀ (s : State) (level : Bool), s.begun = false → s.genTimeValid level = s) ∧
  (∀ (s : State), s.begun = true →
    let t := s.genTimeValid true
    t = { s with gen := { s.gen with timeValid := true, gens := t.gen.gens }, freeCount := s.freeCount + 1 } ∧
    ∀ i : Fin 4,
      let g := s.gen.gens.get i
      let g' := t.gen.gens.get i
      let set := s.cfg.gens.get i
      (g.run = .holding → set.skip = 0 →
        g' = { g with run := .running, skip := 0, next := some (searchStart s.ts set false) } ∨
        (onGrid s.ts set = true ∧
          g' = { g with run := .running, skip := 0, next := some (searchStart s.ts set true) })) ∧
      (g.run = .holding → set.skip ≠ 0 → g' = { g with run := .skipping, skip := set.skip }) ∧
      (g.run ≠ .holding → g' = g)) ∧
  (∀ (s : State), s.begun = true →
    let t := s.genTimeValid false
    t = { s with gen := { s.gen with timeValid := false, gens := t.gen.gens } } ∧
    ∀ i : Fin 4,
      let g := s.gen.gens.get i
      let g' := t.gen.gens.get i
      let set := s.cfg.gens.get i
      (g.run = .skipping → g' = { g with run := .holding, skip := 0 }) ∧
      (g.run = .running → set.invalid ≠ .run → g' = { g with run := .holding, next := none, pulse := none }) ∧
      (g.run = .disabled ∨ g.run = .holding ∨ (g.run = .running ∧ set.invalid = .run) → g' = g)) ∧
  (∀ (t : Timescale) (g : GenSettings), 1 ≤ g.period →
    (onGrid t g = true ↔ t.sitePhase % 16 = 0 ∧
      (((t.sitePhase / 16 : Nat) : Int) - (g.offset + (t.groupOffset g.group).current)) %
        (1000 * (g.period : Int)) = 0))

/-- INHIBIT, synchronised to OSCIN (the clock running), acts after 1,000 ns at its new level: it comes into force when
the filtered level is asserted, and in FOLLOW mode ends when it is deasserted; CLEAR INHIBIT ends it only where it is
latched with the pin deasserted (R171 to R173). Every pulse in progress is cut at the onset. The model's: log entries 1,
6, 8. -/
def Obligations.InhibitFollowsTheFilteredPin : Prop :=
  (∀ (s : State) (dt : Nat) (level : Bool),
    s.pins.oscRunning = true →
    let u : State := { s.advance dt with pins.inhibitPin := level }
    (s.pins.inhibit = level → exec (.inhibitPinChange dt level) s = .next u) ∧
    (s.pins.inhibit ≠ level → s.begun = false →
      exec (.inhibitPinChange dt level) s = .next { u with pins.inhibit := level }) ∧
    (s.pins.inhibit ≠ level → s.begun = true →
      exec (.inhibitPinChange dt level) s = .next { u with
        pins.inhibit := level
        gen.filterTimer := if level = s.gen.filtered then none else some 0 })) ∧
  (∀ (s : State) (n : Nat), s.gen.filterTimer = some n → s.dueWithin (ns 1000 - n) = true →
    s.port.outbox = [] →
    let u := s.runTo (s.ts.sitePhase + (ns 1000 - n))
    let v : State := { u with gen := { u.gen with filtered := s.pins.inhibit, filterTimer := none } }
    (s.pins.inhibit = true → s.gen.inForce = false → exec .filteredLevelChange s = .next
      ({ v with gen := { v.gen.hidePulses with inForce := true } }.stored .inhibit none (some 1))) ∧
    (s.pins.inhibit = false → s.gen.inForce = true → s.cfg.inhibitMode = .follow →
      exec .filteredLevelChange s = .next ({ v with gen.inForce := false }.stored .inhibit none (some 0))) ∧
    (s.pins.inhibit = s.gen.inForce ∨ (s.gen.inForce = true ∧ s.cfg.inhibitMode = .latched) →
      exec .filteredLevelChange s = .next v)) ∧
  (∀ (s : State) (dt : Nat) (x : Slot), s.port.transaction = some x → s.port.outbox = [] →
    let u : State := { s.advance dt with port.transaction := none, port.sdo := none }
    let open_ := s.begun = true ∧ s.gen.inForce = true ∧ s.cfg.inhibitMode = .latched ∧ s.gen.filtered = false
    (open_ → exec (.clearInhibit dt) s = .next
      ({ u with gen.inForce := false, port.slot := .pending ⟨0x0B, .ok, 0, []⟩ }.stored .inhibit none
        (some 0))) ∧
    (¬ open_ → exec (.clearInhibit dt) s = .next { u with
      port.slot := .pending ⟨0x0B, .refusedState, 0, []⟩ })) ∧
  (∀ (u : GenUnit) (i : Fin 4), ((u.hidePulses).gens.get i).shows = false)

/-- The output pins follow the state alone: TVALID is high from BEGIN while time-valid is high and inhibit is CLEAR
(R174); ATTN is low while the event queue holds a record (R191); a generator pin stands at the level of the first
condition that applies (R163). -/
def Obligations.OutputPinsFollowTheState : Prop :=
  (∀ s : State, s.tvalid = .high ↔ (s.begun = true ∧ s.gen.timeValid = true ∧ s.gen.inForce = false)) ∧
  (∀ s : State, s.attn = .low ↔ s.port.queue ≠ []) ∧
  (∀ (s : State) (i : Fin 4),
    let set := s.cfg.gens.get i
    let g := s.gen.gens.get i
    let idle : Level := if set.inverted then .high else .low
    let active : Level := if set.inverted then .low else .high
    let rest : Level := if set.invalid = .high then .high else .low
    (s.begun = false → s.genLevel i = .low) ∧
    (s.begun = true → s.gen.inForce = true → s.genLevel i = rest) ∧
    (s.begun = true → s.gen.inForce = false → g.run = .disabled → s.genLevel i = idle) ∧
    (s.begun = true → s.gen.inForce = false → g.run = .holding ∨ g.run = .skipping → s.genLevel i = rest) ∧
    (s.begun = true → s.gen.inForce = false → g.run = .running →
      s.genLevel i = if (∃ p, g.pulse = some p ∧ p.shown = true) then active else idle))

/-! ## The local port (R177 to R199) -/

/-- A transaction fixes the slot condition at the fall of CSN; fewer than 8 bits have no effect; READ RESPONSE
clocks that condition out; a command without effect on the part is answered at the rise, and its response is
READY at the completion (R177 to R180, R186). SDO is driven in a READ RESPONSE alone, and released from the fall of CSN in
every other transaction and outside one (R177, R194). The first byte clocked in names the command, and a code from 0C on
is unknown; a word spells the command of the transaction whose bytes it holds, and is put at the front of the queue
(R197). The model's: log entries 1, 5, 6, 24, 27, 30. -/
def Obligations.TransactionsAreAnsweredThroughTheSlot : Prop :=
  ((∀ (s : State) (dt : Nat),
     let u := s.advance dt
     (s.pins.resetHeld = false → s.port.transaction = none →
       exec (.transactionStart dt) s = .next { u with port.transaction := some s.port.slot, port.sdo := none }) ∧
     (s.pins.resetHeld = true ∨ s.port.transaction.isSome = true → exec (.transactionStart dt) s = .next u) ∧
     (∀ r, s.port.slot = .pending r → exec (.responseCompletion dt) s = .next { u with port.slot := .ready r })) ∧
   (∀ (s : State) (dt : Nat) (x : Slot), s.port.transaction = some x →
     let u : State := { s.advance dt with port.transaction := none, port.sdo := none }
     let answered : Response → State := fun r => { u with port.slot := .pending r }
     (∀ bits, exec (.shortTransaction dt bits) s = .next u) ∧
     (∀ n, exec (.readResponse dt n) s = .next { u with port.sdo := some (match x with
       | .empty => List.replicate n 0xB1
       | .pending _ => List.replicate n 0xB0
       | .ready r => ((r.code.byte :: BitVec.ofNat 8 r.field ::
           BitVec.ofNat 8 (r.payload.length / 256) :: BitVec.ofNat 8 r.payload.length :: r.payload) ++
             List.replicate n 0).take n) }) ∧
     (∀ code, 0x0C ≤ code.toNat → exec (.unknownCommand dt code) s = .next (answered ⟨code, .unknown, 0, []⟩)) ∧
     (∀ code, code.toNat < 0x0C → exec (.unknownCommand dt code) s = .next s) ∧
     exec (.status dt) s = .next (answered ⟨0x04, .ok, 0, u.statusRecord⟩) ∧
     exec (.roster dt) s = .next (answered ⟨0x05, .ok, 0, s.roster.record⟩) ∧
     (∀ b rest, b.toNat < 5 → exec (.tablePage dt (b :: rest)) s =
       .next (answered ⟨0x06, .ok, 0, s.temp.page b.toNat⟩)) ∧
     (∀ b rest, 5 ≤ b.toNat → exec (.tablePage dt (b :: rest)) s =
       .next (answered ⟨0x06, .refusedValue, 1, []⟩)) ∧
     exec (.tablePage dt []) s = .next (answered ⟨0x06, .refusedValue, 1, []⟩))) ∧
  (∀ s : State, s.drivesSdo = true ↔ s.port.transaction.isSome = true ∧ s.port.sdo.isSome = true) ∧
  (∀ (dt : Nat) (code : Byte) (payload : List Byte) (rest : Fin 8),
     Instr.ofTransaction dt [] rest = .shortTransaction dt rest.val ∧
     (0x0C ≤ code.toNat → Instr.ofTransaction dt (code :: payload) rest = .unknownCommand dt code) ∧
     [0x00#8, 0x01#8, 0x02#8, 0x03#8, 0x04#8, 0x05#8, 0x06#8, 0x07#8, 0x08#8, 0x09#8, 0x0A#8, 0x0B#8].map
         (fun c => Instr.ofTransaction dt (c :: payload) rest) =
       [.readResponse dt payload.length, .setup dt payload, .loadTablePage dt payload, .begin dt, .status dt,
         .roster dt, .tablePage dt payload, .events dt payload, .withdraw dt, .resume dt, .trimGroup dt payload,
         .clearInhibit dt]) ∧
  (∀ (bytes : List Byte) (s : State),
     let w := bytes.foldr (fun b n => b.toNat + 256 * n) 0
     (bytes ≠ [] → decodeTableWord (8 * bytes.length) w = some (Instr.ofTransaction 0 bytes 0) ∧
       s.withFetchWord (8 * bytes.length) w = { s with pending := Instr.ofTransaction 0 bytes 0 :: s.pending }) ∧
     (bytes = [] → s.withFetchWord 0 w = s))

/-- SETUP and LOAD TABLE PAGE are taken while UNCONFIGURED only: an accepted record replaces the one held and is
echoed, an accepted page replaces its 16 bins, and a refusal changes nothing but the answer (R159, R180, R181, R184).
A page is its number, below 5, and 16 bins of 5 bytes, each a value within ±100,000,000 and a count; bin i of the page
becomes bin 16 times the page plus i, and no other bin changes (R184, R198). A record is echoed with each value
big-endian in its field's width (R181, R198). The model's: log entries 1, 6. -/
def Obligations.ConfigurationIsTakenBeforeBegin : Prop :=
  (∀ (s : State) (dt : Nat) (x : Slot) (payload : List Byte), s.port.transaction = some x →
    let u : State := { s.advance dt with port.transaction := none, port.sdo := none }
    let answered : Response → State := fun r => { u with port.slot := .pending r }
    (s.begun = true → exec (.setup dt payload) s = .next (answered ⟨0x01, .refusedState, 0, []⟩)) ∧
    (s.begun = true → exec (.loadTablePage dt payload) s = .next (answered ⟨0x02, .refusedState, 0, []⟩)) ∧
    (∀ i, s.begun = false → parseFields setupFields 1 [] payload = .refused i →
      exec (.setup dt payload) s = .next (answered ⟨0x01, .refusedValue, i, []⟩)) ∧
    (∀ vs, s.begun = false → parseFields setupFields 1 [] payload = .accepted vs →
      exec (.setup dt payload) s = .next { u with
        port.record := some (settingsOf vs)
        port.slot := .pending ⟨0x01, .ok, 0, layOut setupFields vs⟩ }) ∧
    (∀ i, s.begun = false → parseFields tablePageFields 1 [] payload = .refused i →
      exec (.loadTablePage dt payload) s = .next (answered ⟨0x02, .refusedValue, i, []⟩)) ∧
    (∀ page bins, s.begun = false → parseFields tablePageFields 1 [] payload = .accepted (page :: bins) →
      exec (.loadTablePage dt payload) s = .next { u with
        temp.table := loadBins s.temp.table (16 * page) bins
        port.slot := .pending ⟨0x02, .ok, 0, []⟩ })) ∧
  (tablePageFields.map (·.width) = 1 :: List.replicate 16 5 ∧
   (let field : Nat → FieldSpec := fun i => tablePageFields.getD (i - 1) (anyField 0)
    (∀ acc v, (field 1).check acc v = if v < 5 then some v else none) ∧
    (∀ i, 2 ≤ i → i ≤ 17 → ∀ acc v, (field i).check acc v =
      if -100000000 ≤ signedOf (v / 256) ∧ signedOf (v / 256) ≤ 100000000 then some v else none))) ∧
  (∀ (payload : List Byte) (values : List Nat),
    parseFields tablePageFields 1 [] payload = .accepted values → ∃ page bins, values = page :: bins ∧
      page = (payload.getD 0 0).toNat ∧ page < 5 ∧ bins.length = 16 ∧
      ∀ i, i < 16 → bins.getD i 0 = fieldIn payload (1 + 5 * i) 5 ∧
        -100000000 ≤ signedOf (bins.getD i 0 / 256) ∧ signedOf (bins.getD i 0 / 256) ≤ 100000000) ∧
  (∀ (table : Vector TempBin 80) (page : Nat) (bins : List Nat), page < 5 → bins.length = 16 →
    ∀ i : Fin 80, (loadBins table (16 * page) bins).get i =
      if 16 * page ≤ i.val ∧ i.val < 16 * page + 16 then
        ⟨signedOf (bins.getD (i.val - 16 * page) 0 / 256), bins.getD (i.val - 16 * page) 0 % 256⟩
      else table.get i) ∧
  (∀ (f : FieldSpec) (fields : List FieldSpec) (v : Nat) (values : List Nat),
    layOut [] values = [] ∧ layOut (f :: fields) (v :: values) = bytesBE f.width v ++ layOut fields values ∧
    (bytesBE f.width v).length = f.width ∧ natBE (bytesBE f.width v) = v % 256 ^ f.width)

/-- SETUP's fields are judged in order, each by its width, and the lowest that fails is named (R180 to R183, R198): a code
field must hold one of its codes, a numeric one is clamped to its range, the supply high threshold must lie above the
low one, a period must divide one second, a phase offset lie within the period, a width is clamped below it; masks and
counts hold any value. The accepted values become the settings in the order of the record. -/
def Obligations.SetupFieldsAreCheckedAndClamped : Prop :=
  (∀ (f : FieldSpec) (fs : List FieldSpec) (i : Nat) (acc : List Nat) (bytes : List Byte),
    (bytes.length < f.width → parseFields (f :: fs) i acc bytes = .refused i) ∧
    (f.width ≤ bytes.length → f.check acc (natBE (bytes.take f.width)) = none →
      parseFields (f :: fs) i acc bytes = .refused i) ∧
    (∀ v, f.width ≤ bytes.length → f.check acc (natBE (bytes.take f.width)) = some v →
      parseFields (f :: fs) i acc bytes = parseFields fs (i + 1) (v :: acc) (bytes.drop f.width)) ∧
    parseFields [] i acc bytes = .accepted acc.reverse) ∧
  (setupFields.map (·.width) = [1, 1, 1, 1, 1, 1, 1, 4, 1, 2, 2, 2, 2, 2, 2, 2, 2, 1, 2, 2, 2, 1, 1, 1, 1] ++
    (List.replicate 4 [1, 4, 4, 4, 1, 1, 1, 1]).flatten) ∧
  (let field : Nat → FieldSpec := fun i => setupFields.getD (i - 1) (anyField 0)
   (∀ x ∈ [(1, 2), (2, 2), (3, 4), (4, 2), (9, 4), (23, 2)], ∀ acc v,
     (field x.1).check acc v = if v < x.2 then some v else none) ∧
   (∀ x ∈ [(5, 4, 64), (6, 1, 16), (7, 1, 100), (10, 1, 2000), (11, 1, 2000), (12, 1, 2000), (13, 50, 5000),
       (14, 1000, 20000), (15, 20, 1000), (16, 200, 20000), (17, 0, 1000), (18, 4, 64), (20, 0, 3300), (22, 1, 16),
       (24, 1, 16)], ∀ acc v, (field x.1).check acc v = some (max x.2.1 (min x.2.2 v))) ∧
   (∀ acc v, (field 19).check acc v = some v ∧ (field 25).check acc v = some v) ∧
   (∀ acc v, ∃ w, (field 8).check acc v = some w ∧ signedOf w = max (-100000) (min 100000 (signedOf v))) ∧
   (∀ low acc v, (field 21).check (low :: acc) v =
     if low < min 3300 v then some (min 3300 v) else none) ∧
   (∀ g, g < 4 → ∀ acc v,
     (field (26 + 8 * g)).check acc v = (if v < 2 then some v else none) ∧
     (field (27 + 8 * g)).check acc v = (if 1 ≤ v ∧ v ≤ 1000000 ∧ 1000000 % v = 0 then some v else none) ∧
     (∀ period, (field (28 + 8 * g)).check (period :: acc) v = if v < 1000 * period then some v else none) ∧
     (∀ offset period, (field (29 + 8 * g)).check (offset :: period :: acc) v =
       some (max 50 (min (1000 * period - 50) v))) ∧
     (field (30 + 8 * g)).check acc v = (if v < 2 then some v else none) ∧
     (field (31 + 8 * g)).check acc v = (if v < 2 then some v else none) ∧
     (field (32 + 8 * g)).check acc v = (if v < 3 then some v else none) ∧
     (field (33 + 8 * g)).check acc v = (if v < 16 then some v else none))) ∧
  (∀ vs : List Nat,
    let v := fun i => vs.getD (i - 1) 0
    let c := settingsOf vs
    [c.refFitted, c.edgeFalling, c.useRefvalid] = [v 1 == 1, v 2 == 1, v 4 == 1] ∧
    c.debounce.ticks = (match v 3 with | 1 => 1600 | 2 => 16000 | 3 => 160000 | _ => 0) ∧
    [c.qualCount, c.missLimit, c.halfWidth, c.slewAnchor, c.slewBorrow, c.slewCoast, c.dispute, c.stepLimit,
        c.lockLimit, c.budget, c.refUncertainty, c.firstMember, c.supplyLow, c.supplyHigh, c.supplyDebounce,
        c.snapPostscaler, c.snapSkip] =
      [v 5, v 6, v 7, v 10, v 11, v 12, v 13, v 14, v 15, v 16, v 17, v 18, v 20, v 21, v 22, v 24, v 25] ∧
    c.refOffset = signedOf (v 8) ∧ c.cls.val = v 9 % 4 ∧ c.admission.toNat = v 19 % 65536 ∧
    (c.inhibitMode = .follow ↔ v 23 = 1) ∧
    (∀ i : Fin 4,
      let g := c.gens.get i
      let w := fun j => v (26 + 8 * i.val + j)
      [g.enable, g.inverted] = [w 0 == 1, w 4 == 1] ∧ [g.period, g.offset, g.width, g.skip] = [w 1, w 2, w 3, w 7] ∧
      (g.group = .b ↔ w 5 = 1) ∧ (g.invalid = .high ↔ w 6 = 1) ∧ (g.invalid = .run ↔ w 6 = 2)))

/-- The records of R199, field by field at their offsets, and the table page of R198: the status record of 56 bytes,
the roster record and its entries of 35, an event record of 13, with their codes; quantities converted by R196. The
bin of an absent T reads 0 (the model's, log entry 25). -/
def Obligations.RecordsAreLaidOutInBytes : Prop :=
  (∀ s : State, s.statusRecord.length = 56 ∧
    ∀ x ∈ ([(0, 1, s.mem.state.code),
        (1, 1, weight s.mem.reasonCommand 1 + weight s.mem.reasonSupply 2),
        (2, 1, s.solver.timing.code),
        (3, 1, match s.solver.target with | some t => t.state.code | none => 255),
        (4, 1, s.ref.state.code),
        (5, 1, weight s.solver.overBudget 1 + weight s.solver.timeValid 2 + weight s.gen.inForce 4 +
          weight s.mem.supplyIsLow 8 + weight s.solver.lastE.isSome 16 + weight s.temp.mean.isSome 32),
        (6, 4, s.ts.epoch.toNat),
        (10, 4, (signed32 (Int.tdiv (s.solver.lastE.getD 0) 16)).toNat),
        (14, 4, (BitVec.ofInt 32 s.ts.f).toNat),
        (18, 2, min 65535 ((s.solver.bound + 3999999) / 4000000)),
        (20, 2, (BitVec.ofInt 16 (s.temp.mean.getD 0)).toNat),
        (22, 1, match s.temp.mean with | some t => binOf t | none => 0),
        (23, 1, s.temp.predict.2.code),
        (24, 2, s.mark.strayCount), (26, 2, s.mark.contestedCount), (28, 2, s.frame.crcErrors),
        (30, 2, s.frame.formatErrors), (32, 2, s.frame.truncatedErrors), (34, 2, s.frame.epochErrors),
        (36, 2, s.frame.unsent), (38, 1, s.port.queue.length), (39, 1, s.port.lost),
        (40, 4, (BitVec.ofInt 32 s.ts.groupA.current).toNat), (44, 4, (BitVec.ofInt 32 s.ts.groupA.target).toNat),
        (48, 4, (BitVec.ofInt 32 s.ts.groupB.current).toNat),
        (52, 4, (BitVec.ofInt 32 s.ts.groupB.target).toNat)] : List (Nat × Nat × Nat)),
      fieldIn s.statusRecord x.1 x.2.1 = x.2.2 % 256 ^ x.2.1) ∧
  (∀ r : Roster, r.record.length = 3 + 35 * r.entries.length ∧ fieldIn r.record 0 2 = r.ownMask.toNat ∧
    fieldIn r.record 2 1 = r.entries.length % 256 ∧
    ∀ i e, r.entries[i]? = some e → (r.record.drop (3 + 35 * i)).take 35 = e.bytes) ∧
  (∀ e : Entry, e.bytes.length = 35 ∧
    ∀ x ∈ ([(0, 1, e.id.val), (1, 1, e.state.code),
        (2, 1, match e.cause with | some .censusMiss => 0 | some .markMiss => 1 | some .deviation => 2 | none => 255),
        (3, 1, e.goodRun), (4, 1, e.censusMiss), (5, 1, e.markMiss), (6, 1, e.deviation), (7, 1, e.restore),
        (8, 1, e.mismatch), (9, 1, e.cls.val),
        (10, 1, weight e.declared.isSome 1 + weight e.delay.isSome 2 + weight e.mismatchPosted 4 +
          weight (match e.declared with | some d => d.overBudget | none => false) 8),
        (11, 1, match e.declared with | some d => d.timing.code | none => 0),
        (12, 2, match e.declared with | some d => d.bound | none => 0),
        (14, 2, match e.declared with | some d => d.mask.toNat | none => 0),
        (16, 4, e.lastEpoch.toNat), (20, 4, (BitVec.ofInt 32 (e.delay.getD 0)).toNat), (24, 1, e.ring.length),
        (25, 4, match e.ring.getLast? with | some x => x.epoch.toNat | none => 0),
        (29, 4, match e.ring.getLast? with | some x => (BitVec.ofInt 32 x.offset).toNat | none => 0),
        (33, 1, match e.ring.getLast? with
          | some ⟨_, _, .oneWay⟩ => 1
          | some ⟨_, _, .twoWay⟩ => 0
          | none => 0),
        (34, 1, (match e.received with | .none => 0 | .census => 1 | .join => 2 | .mismatched => 3) +
          weight e.marked 4 + weight e.sampled 8)] : List (Nat × Nat × Nat)),
      fieldIn e.bytes x.1 x.2.1 = x.2.2 % 256 ^ x.2.1) ∧
  (∀ r : EventRecord, r.bytes.length = 13 ∧
    ∀ x ∈ ([(0, 2, r.seq.toNat), (2, 4, r.epoch.toNat), (6, 1, r.kind.code),
        (7, 1, weight r.subject.isSome 1 + weight r.value.isSome 2),
        (8, 1, match r.subject with | some k => k.val | none => 0),
        (9, 4, match r.value with | some v => v.toNat | none => 0)] : List (Nat × Nat × Nat)),
      fieldIn r.bytes x.1 x.2.1 = x.2.2 % 256 ^ x.2.1) ∧
  (∀ (t : TempUnit) (p : Nat), (t.page p).length = 81 ∧ fieldIn (t.page p) 0 1 = p % 256 ∧
    ∀ i, i < 16 → fieldIn (t.page p) (1 + 5 * i) 4 = (BitVec.ofInt 32 (t.bin (16 * p + i)).value).toNat ∧
      fieldIn (t.page p) (5 + 5 * i) 1 = (t.bin (16 * p + i)).count % 256) ∧
  ([MembershipState.unconfigured, .listen, .apart, .aligning, .joining, .member, .withdrawn, .conflict].map
      MembershipState.code = [0, 1, 2, 3, 4, 5, 6, 7] ∧
    [TimingState.free, .acquiring, .anchored, .borrowing, .coasting, .alone].map TimingState.code =
      [0, 1, 2, 3, 4, 5] ∧
    [RefState.absent, .probation, .qualified, .disputed].map RefState.code = [0, 1, 2, 3] ∧
    [PredSource.bin, .neighbour, .frozen].map PredSource.code = [0, 1, 2] ∧
    [EntryState.heard, .admitted, .suspect].map EntryState.code = [0, 1, 2] ∧
    [EventKind.refQualified, .refLost, .refStep, .refDisputed, .refUndisputed, .stateChange, .overBudget,
        .selfExcluded, .anchorSplit, .peerAdmitted, .peerSuspect, .peerRestored, .peerRemoved, .rosterFull,
        .rosterMismatch, .membershipChange, .ensembleFar, .joinTimeout, .conflict, .epochAdopted, .censusUnsent,
        .frameError, .strayMark, .lineFault, .supplyLow, .supplyRestored, .tempRange, .inhibit, .snapshot].map
      EventKind.code = List.range' 1 29)

/-- BEGIN is taken with an accepted record while UNCONFIGURED: the node enters LISTEN, the mark and frame units
start by the levels of their lines, the generators take their settings, those of invalid behaviour RUN search their next
start, and the snapshot counts start; MEMBERSHIP_CHANGE is posted, INHIBIT where the pin stands asserted, and TEMP_RANGE
where the temperature is out of range; otherwise BEGIN is refused (R42, R56, R57, R83, R150, R162, R166, R171, R185, R193).
TRIM GROUP sets a group's target after BEGIN, and a group or a target out of range, or not received whole, is refused
(R165, R188). The model's: log entries 1, 4, 6, 8. -/
def Obligations.BeginStartsEveryBlock : Prop :=
  ∀ (s : State) (dt : Nat) (x : Slot), s.port.transaction = some x → s.port.outbox = [] →
    let u : State := { s.advance dt with port.transaction := none, port.sdo := none }
    (s.begun = true ∨ s.port.record = none →
      exec (.begin dt) s = .next { u with port.slot := .pending ⟨0x03, .refusedState, 0, []⟩ }) ∧
    (∀ cfg, s.begun = false → s.port.record = some cfg →
      ∃ t, exec (.begin dt) s = .next t ∧ t.mem.state = .listen ∧ t.mem.quietCount = 0 ∧
        t.mark.highTime = (if s.pins.mark = .high then some 0 else u.mark.highTime) ∧
        t.frame.idleTimer = (if s.pins.word = .high then some 0 else u.frame.idleTimer) ∧
        t.mark.lowTimer = (if s.pins.mark = .low then some 0 else u.mark.lowTimer) ∧
        t.frame.lowTimer = (if s.pins.word = .low then some 0 else u.frame.lowTimer) ∧
        t.frame.rx = .waitingIdle ∧ t.gen.timeValid = s.solver.timeValid ∧
        t.gen.filtered = s.pins.inhibit ∧ t.gen.inForce = (s.gen.inForce || s.pins.inhibit) ∧
        (∀ i, (t.gen.gens.get i).run = if (cfg.gens.get i).enable = false then .disabled
          else if (cfg.gens.get i).invalid = .run then .running else .holding) ∧
        (∀ i, (t.gen.gens.get i).run ≠ .running → (t.gen.gens.get i).next = none) ∧
        (∀ i, (t.gen.gens.get i).run = .running →
          (t.gen.gens.get i).next = some (searchStart u.ts (cfg.gens.get i) false) ∨
          (onGrid u.ts (cfg.gens.get i) = true ∧
            (t.gen.gens.get i).next = some (searchStart u.ts (cfg.gens.get i) true))) ∧
        (∀ i, (t.gen.gens.get i).pulse = none ∧ (t.gen.gens.get i).skip = 0) ∧
        t = (u.begin.accept 0x03 []).settle ∧
        u.begin.port.outbox = [⟨.membership, s.ts.epoch, .membershipChange, none, some 1, none⟩] ++
          (if s.pins.inhibit then [⟨.generator, s.ts.epoch, .inhibit, none, some 1, none⟩] else []) ++
          (match s.temp.excursion, s.temp.mean with
            | true, some x => [⟨.temperature, s.ts.epoch, .tempRange, none, some (signed32 x), none⟩]
            | _, _ => []) ∧
        t.port.snapSkip = cfg.snapSkip ∧ t.port.snapPost = 0 ∧ t.port.record = s.port.record ∧
        t.port.slot = .pending ⟨0x03, .ok, 0, []⟩ ∧ t.ts = u.ts ∧ t.solver.timing = s.solver.timing ∧
        t.temp = s.temp ∧ t.ref = u.ref ∧ t.roster.entries = []) ∧
    (∀ payload, s.begun = false → exec (.trimGroup dt payload) s =
      .next { u with port.slot := .pending ⟨0x0A, .refusedState, 0, []⟩ }) ∧
    (s.begun = true → exec (.trimGroup dt []) s =
      .next { u with port.slot := .pending ⟨0x0A, .refusedValue, 1, []⟩ }) ∧
    (∀ b more, s.begun = true → 2 ≤ b.toNat → exec (.trimGroup dt (b :: more)) s =
      .next { u with port.slot := .pending ⟨0x0A, .refusedValue, 1, []⟩ }) ∧
    (∀ b more, s.begun = true → b.toNat < 2 → more.length < 4 → exec (.trimGroup dt (b :: more)) s =
      .next { u with port.slot := .pending ⟨0x0A, .refusedValue, 2, []⟩ }) ∧
    (∀ group target more, s.begun = true → group < 2 → target < -1000000 ∨ 1000000 < target →
      -2147483648 ≤ target → target ≤ 2147483647 →
      exec (.trimGroup dt (BitVec.ofNat 8 group :: (bytesS32 target ++ more))) s =
        .next { u with port.slot := .pending ⟨0x0A, .refusedValue, 2, []⟩ }) ∧
    (∀ group target more, s.begun = true → group < 2 → -1000000 ≤ target → target ≤ 1000000 →
      let payload := BitVec.ofNat 8 group :: (bytesS32 target ++ more)
      let v : State := { u with port.slot := .pending ⟨0x0A, .ok, 0, []⟩ }
      exec (.trimGroup dt payload) s = .next (if group = 0 then { v with ts.groupA.target := target }
        else { v with ts.groupB.target := target }))

/-- EVENTS with a count of 1 to 8 removes the oldest records, answers them with the lost count, and clears it; a
count out of range removes nothing (R190, R192). An event offered to the queue is stored with the next sequence
number, or raises the lost count, saturating at 255 (R189, R190). The model's: log entries 1, 4, 6. -/
def Obligations.EventsAreStoredRemovedOrLost : Prop :=
  (∀ (s : State) (dt : Nat) (x : Slot) (b : Byte) (rest : List Byte), s.port.transaction = some x →
    let u : State := { s.advance dt with port.transaction := none, port.sdo := none }
    (1 ≤ b.toNat → b.toNat ≤ 8 → exec (.events dt (b :: rest)) s = .next { u with
      port := { u.port with
        queue := s.port.queue.drop b.toNat
        lost := 0
        slot := .pending ⟨0x07, .ok, 0, BitVec.ofNat 8 s.port.lost ::
          BitVec.ofNat 8 (s.port.queue.take b.toNat).length ::
            (s.port.queue.take b.toNat).flatMap EventRecord.bytes⟩ } }) ∧
    (b.toNat = 0 ∨ 8 < b.toNat → exec (.events dt (b :: rest)) s = .next { u with
      port.slot := .pending ⟨0x07, .refusedValue, 1, []⟩ }) ∧
    exec (.events dt []) s = .next { u with port.slot := .pending ⟨0x07, .refusedValue, 1, []⟩ }) ∧
  (∀ (s : State) (p : Posting),
    (s.port.queue.length < 32 → s.offer p = { s with
      port := { s.port with
        queue := s.port.queue ++ [⟨s.port.nextSeq, p.epoch, p.kind, p.subject, p.value⟩]
        nextSeq := s.port.nextSeq + 1 } }) ∧
    (32 ≤ s.port.queue.length → s.offer p = { s with port.lost := min 255 (s.port.lost + 1) }))

/-! ## Headline statements -/

/-- Every frame whose fields fit their widths survives the wire (R58, R60 to R63, R195): a receiver that takes its
bits one after another from the start bit holds exactly that frame, its CRC good, and nothing before the last
bit, whatever reception came before: the start bit begins one that is not the rest of the node's own. The model's: log
entries 29, 30. -/
def Obligations.FramesSurviveTheWire : Prop :=
  ∀ (f : Frame) (u : FrameUnit), f.fits → u.rx = .starting → u.receipt = none →
    (u.receive f.lineBits).receipt = some (.arrived f true) ∧
    (u.receive f.lineBits).rx = .waitingIdle ∧ (u.receiverSample .low).rxOwn = false ∧
    ∀ n, n < f.lineBits.length → (u.receive (f.lineBits.take n)).receipt = none

/-- The event queue keeps its form at every step (R189). The model's: log entry 5. -/
def Obligations.StepKeepsTheQueueForm : Prop :=
  ∀ s t : State, QueueForm s → step s = .next t → QueueForm t

/-- Time-valid keeps its meaning at every step (R120), and ANCHORED needs a QUALIFIED reference (R143). -/
def Obligations.StepKeepsTheTimingStatesHonest : Prop :=
  ∀ s t : State, TimeValidForm s ∧ AnchoredIsQualified s → step s = .next t →
    TimeValidForm t ∧ AnchoredIsQualified t

/-- The roster keeps its form at every step (R99, R100). The model's: log entry 7. -/
def Obligations.StepKeepsTheRosterForm : Prop :=
  ∀ s t : State, RosterForm s → step s = .next t → RosterForm t

/-- F, c, the carry and the epoch's length stay in their ranges at every step (R2, R3). -/
def Obligations.StepKeepsTheCorrectionsInRange : Prop :=
  ∀ s t : State, CorrectionsInRange s → step s = .next t → CorrectionsInRange t

/-- At every step the node drives MARK only in JOINING and MEMBER (R40), is WITHDRAWN only for a reason (R94), and
shows no pulse while inhibit is in force (R173). -/
def Obligations.StepKeepsDrivesReasonsAndInhibit : Prop :=
  ∀ s t : State, MarkDriveForm s ∧ WithdrawnForAReason s ∧ InhibitHidesPulses s → step s = .next t →
    MarkDriveForm t ∧ WithdrawnForAReason t ∧ InhibitHidesPulses t
end

