-- ==== Sys2Proof/Laws/State.lean ====
section
/-! SUPPORT. What each named update of State leaves alone and what it writes: one lemma per field, true by rfl. -/

namespace Sys2Proof.Machine

open Sys2Proof

/-! ## A posting -/

@[simp] theorem post_pins (s : State) (l : Lane) (k : EventKind) (j : Option NodeId) (v : Option (BitVec 32)) :
    (s.post l k j v).pins = s.pins := rfl

@[simp] theorem post_ts (s : State) (l : Lane) (k : EventKind) (j : Option NodeId) (v : Option (BitVec 32)) :
    (s.post l k j v).ts = s.ts := rfl

@[simp] theorem post_ref (s : State) (l : Lane) (k : EventKind) (j : Option NodeId) (v : Option (BitVec 32)) :
    (s.post l k j v).ref = s.ref := rfl

@[simp] theorem post_mark (s : State) (l : Lane) (k : EventKind) (j : Option NodeId) (v : Option (BitVec 32)) :
    (s.post l k j v).mark = s.mark := rfl

@[simp] theorem post_frame (s : State) (l : Lane) (k : EventKind) (j : Option NodeId) (v : Option (BitVec 32)) :
    (s.post l k j v).frame = s.frame := rfl

@[simp] theorem post_mem (s : State) (l : Lane) (k : EventKind) (j : Option NodeId) (v : Option (BitVec 32)) :
    (s.post l k j v).mem = s.mem := rfl

@[simp] theorem post_roster (s : State) (l : Lane) (k : EventKind) (j : Option NodeId) (v : Option (BitVec 32)) :
    (s.post l k j v).roster = s.roster := rfl

@[simp] theorem post_solver (s : State) (l : Lane) (k : EventKind) (j : Option NodeId) (v : Option (BitVec 32)) :
    (s.post l k j v).solver = s.solver := rfl

@[simp] theorem post_temp (s : State) (l : Lane) (k : EventKind) (j : Option NodeId) (v : Option (BitVec 32)) :
    (s.post l k j v).temp = s.temp := rfl

@[simp] theorem post_gen (s : State) (l : Lane) (k : EventKind) (j : Option NodeId) (v : Option (BitVec 32)) :
    (s.post l k j v).gen = s.gen := rfl

@[simp] theorem post_freeCount (s : State) (l : Lane) (k : EventKind) (j : Option NodeId) (v : Option (BitVec 32)) :
    (s.post l k j v).freeCount = s.freeCount := rfl

@[simp] theorem post_pending (s : State) (l : Lane) (k : EventKind) (j : Option NodeId) (v : Option (BitVec 32)) :
    (s.post l k j v).pending = s.pending := rfl

/-! ## A posting bound to another block's -/

@[simp] theorem postAfter_pins (s : State) (a : Option Lane) (l : Lane) (k : EventKind) (j : Option NodeId)
    (v : Option (BitVec 32)) : (s.postAfter a l k j v).pins = s.pins := rfl

@[simp] theorem postAfter_ts (s : State) (a : Option Lane) (l : Lane) (k : EventKind) (j : Option NodeId)
    (v : Option (BitVec 32)) : (s.postAfter a l k j v).ts = s.ts := rfl

@[simp] theorem postAfter_ref (s : State) (a : Option Lane) (l : Lane) (k : EventKind) (j : Option NodeId)
    (v : Option (BitVec 32)) : (s.postAfter a l k j v).ref = s.ref := rfl

@[simp] theorem postAfter_mark (s : State) (a : Option Lane) (l : Lane) (k : EventKind) (j : Option NodeId)
    (v : Option (BitVec 32)) : (s.postAfter a l k j v).mark = s.mark := rfl

@[simp] theorem postAfter_frame (s : State) (a : Option Lane) (l : Lane) (k : EventKind) (j : Option NodeId)
    (v : Option (BitVec 32)) : (s.postAfter a l k j v).frame = s.frame := rfl

@[simp] theorem postAfter_mem (s : State) (a : Option Lane) (l : Lane) (k : EventKind) (j : Option NodeId)
    (v : Option (BitVec 32)) : (s.postAfter a l k j v).mem = s.mem := rfl

@[simp] theorem postAfter_roster (s : State) (a : Option Lane) (l : Lane) (k : EventKind) (j : Option NodeId)
    (v : Option (BitVec 32)) : (s.postAfter a l k j v).roster = s.roster := rfl

@[simp] theorem postAfter_solver (s : State) (a : Option Lane) (l : Lane) (k : EventKind) (j : Option NodeId)
    (v : Option (BitVec 32)) : (s.postAfter a l k j v).solver = s.solver := rfl

@[simp] theorem postAfter_temp (s : State) (a : Option Lane) (l : Lane) (k : EventKind) (j : Option NodeId)
    (v : Option (BitVec 32)) : (s.postAfter a l k j v).temp = s.temp := rfl

@[simp] theorem postAfter_gen (s : State) (a : Option Lane) (l : Lane) (k : EventKind) (j : Option NodeId)
    (v : Option (BitVec 32)) : (s.postAfter a l k j v).gen = s.gen := rfl

@[simp] theorem postAfter_freeCount (s : State) (a : Option Lane) (l : Lane) (k : EventKind) (j : Option NodeId)
    (v : Option (BitVec 32)) : (s.postAfter a l k j v).freeCount = s.freeCount := rfl

@[simp] theorem postAfter_pending (s : State) (a : Option Lane) (l : Lane) (k : EventKind) (j : Option NodeId)
    (v : Option (BitVec 32)) : (s.postAfter a l k j v).pending = s.pending := rfl

@[simp] theorem postAfter_port_record (s : State) (a : Option Lane) (l : Lane) (k : EventKind) (j : Option NodeId)
    (v : Option (BitVec 32)) : (s.postAfter a l k j v).port.record = s.port.record := rfl

@[simp] theorem postAfter_port_transaction (s : State) (a : Option Lane) (l : Lane) (k : EventKind) (j : Option NodeId)
    (v : Option (BitVec 32)) : (s.postAfter a l k j v).port.transaction = s.port.transaction := rfl

@[simp] theorem postAfter_port_slot (s : State) (a : Option Lane) (l : Lane) (k : EventKind) (j : Option NodeId)
    (v : Option (BitVec 32)) : (s.postAfter a l k j v).port.slot = s.port.slot := rfl

@[simp] theorem postAfter_port_queue (s : State) (a : Option Lane) (l : Lane) (k : EventKind) (j : Option NodeId)
    (v : Option (BitVec 32)) : (s.postAfter a l k j v).port.queue = s.port.queue := rfl

@[simp] theorem postAfter_port_nextSeq (s : State) (a : Option Lane) (l : Lane) (k : EventKind) (j : Option NodeId)
    (v : Option (BitVec 32)) : (s.postAfter a l k j v).port.nextSeq = s.port.nextSeq := rfl

@[simp] theorem postAfter_port_lost (s : State) (a : Option Lane) (l : Lane) (k : EventKind) (j : Option NodeId)
    (v : Option (BitVec 32)) : (s.postAfter a l k j v).port.lost = s.port.lost := rfl

@[simp] theorem postAfter_port_snapSkip (s : State) (a : Option Lane) (l : Lane) (k : EventKind) (j : Option NodeId)
    (v : Option (BitVec 32)) : (s.postAfter a l k j v).port.snapSkip = s.port.snapSkip := rfl

@[simp] theorem postAfter_port_snapPost (s : State) (a : Option Lane) (l : Lane) (k : EventKind) (j : Option NodeId)
    (v : Option (BitVec 32)) : (s.postAfter a l k j v).port.snapPost = s.port.snapPost := rfl

@[simp] theorem postAfter_port_sdo (s : State) (a : Option Lane) (l : Lane) (k : EventKind) (j : Option NodeId)
    (v : Option (BitVec 32)) : (s.postAfter a l k j v).port.sdo = s.port.sdo := rfl

@[simp] theorem postAfter_port_outbox (s : State) (a : Option Lane) (l : Lane) (k : EventKind) (j : Option NodeId)
    (v : Option (BitVec 32)) : (s.postAfter a l k j v).port.outbox = s.port.outbox ++ [⟨l, s.ts.epoch, k, j, v, a⟩] := rfl

/-! ## A posting with a signed value -/

@[simp] theorem postInt_pins (s : State) (l : Lane) (k : EventKind) (j : Option NodeId) (v : Int) :
    (s.postInt l k j v).pins = s.pins := rfl

@[simp] theorem postInt_ts (s : State) (l : Lane) (k : EventKind) (j : Option NodeId) (v : Int) :
    (s.postInt l k j v).ts = s.ts := rfl

@[simp] theorem postInt_ref (s : State) (l : Lane) (k : EventKind) (j : Option NodeId) (v : Int) :
    (s.postInt l k j v).ref = s.ref := rfl

@[simp] theorem postInt_mark (s : State) (l : Lane) (k : EventKind) (j : Option NodeId) (v : Int) :
    (s.postInt l k j v).mark = s.mark := rfl

@[simp] theorem postInt_frame (s : State) (l : Lane) (k : EventKind) (j : Option NodeId) (v : Int) :
    (s.postInt l k j v).frame = s.frame := rfl

@[simp] theorem postInt_mem (s : State) (l : Lane) (k : EventKind) (j : Option NodeId) (v : Int) :
    (s.postInt l k j v).mem = s.mem := rfl

@[simp] theorem postInt_roster (s : State) (l : Lane) (k : EventKind) (j : Option NodeId) (v : Int) :
    (s.postInt l k j v).roster = s.roster := rfl

@[simp] theorem postInt_solver (s : State) (l : Lane) (k : EventKind) (j : Option NodeId) (v : Int) :
    (s.postInt l k j v).solver = s.solver := rfl

@[simp] theorem postInt_temp (s : State) (l : Lane) (k : EventKind) (j : Option NodeId) (v : Int) :
    (s.postInt l k j v).temp = s.temp := rfl

@[simp] theorem postInt_gen (s : State) (l : Lane) (k : EventKind) (j : Option NodeId) (v : Int) :
    (s.postInt l k j v).gen = s.gen := rfl

@[simp] theorem postInt_freeCount (s : State) (l : Lane) (k : EventKind) (j : Option NodeId) (v : Int) :
    (s.postInt l k j v).freeCount = s.freeCount := rfl

@[simp] theorem postInt_pending (s : State) (l : Lane) (k : EventKind) (j : Option NodeId) (v : Int) :
    (s.postInt l k j v).pending = s.pending := rfl

/-! ## A response -/

@[simp] theorem respond_pins (s : State) (c : Byte) (r : ResultCode) (i : Nat) (p : List Byte) :
    (s.respond c r i p).pins = s.pins := rfl

@[simp] theorem respond_ts (s : State) (c : Byte) (r : ResultCode) (i : Nat) (p : List Byte) :
    (s.respond c r i p).ts = s.ts := rfl

@[simp] theorem respond_ref (s : State) (c : Byte) (r : ResultCode) (i : Nat) (p : List Byte) :
    (s.respond c r i p).ref = s.ref := rfl

@[simp] theorem respond_mark (s : State) (c : Byte) (r : ResultCode) (i : Nat) (p : List Byte) :
    (s.respond c r i p).mark = s.mark := rfl

@[simp] theorem respond_frame (s : State) (c : Byte) (r : ResultCode) (i : Nat) (p : List Byte) :
    (s.respond c r i p).frame = s.frame := rfl

@[simp] theorem respond_mem (s : State) (c : Byte) (r : ResultCode) (i : Nat) (p : List Byte) :
    (s.respond c r i p).mem = s.mem := rfl

@[simp] theorem respond_roster (s : State) (c : Byte) (r : ResultCode) (i : Nat) (p : List Byte) :
    (s.respond c r i p).roster = s.roster := rfl

@[simp] theorem respond_solver (s : State) (c : Byte) (r : ResultCode) (i : Nat) (p : List Byte) :
    (s.respond c r i p).solver = s.solver := rfl

@[simp] theorem respond_temp (s : State) (c : Byte) (r : ResultCode) (i : Nat) (p : List Byte) :
    (s.respond c r i p).temp = s.temp := rfl

@[simp] theorem respond_gen (s : State) (c : Byte) (r : ResultCode) (i : Nat) (p : List Byte) :
    (s.respond c r i p).gen = s.gen := rfl

@[simp] theorem respond_freeCount (s : State) (c : Byte) (r : ResultCode) (i : Nat) (p : List Byte) :
    (s.respond c r i p).freeCount = s.freeCount := rfl

@[simp] theorem respond_pending (s : State) (c : Byte) (r : ResultCode) (i : Nat) (p : List Byte) :
    (s.respond c r i p).pending = s.pending := rfl

/-! ## Elapsed site time -/

@[simp] theorem age_pins (s : State) (d : Nat) :
    (s.age d).pins = s.pins := rfl

@[simp] theorem age_ts (s : State) (d : Nat) :
    (s.age d).ts = s.ts := rfl

@[simp] theorem age_roster (s : State) (d : Nat) :
    (s.age d).roster = s.roster := rfl

@[simp] theorem age_solver (s : State) (d : Nat) :
    (s.age d).solver = s.solver := rfl

@[simp] theorem age_temp (s : State) (d : Nat) :
    (s.age d).temp = s.temp := rfl

@[simp] theorem age_port (s : State) (d : Nat) :
    (s.age d).port = s.port := rfl

@[simp] theorem age_freeCount (s : State) (d : Nat) :
    (s.age d).freeCount = s.freeCount := rfl

@[simp] theorem age_pending (s : State) (d : Nat) :
    (s.age d).pending = s.pending := rfl

/-! ## Oscillator time -/

@[simp] theorem setTau_pins (s : State) (n : Nat) :
    (s.setTau n).pins = s.pins := rfl

@[simp] theorem setTau_roster (s : State) (n : Nat) :
    (s.setTau n).roster = s.roster := rfl

@[simp] theorem setTau_solver (s : State) (n : Nat) :
    (s.setTau n).solver = s.solver := rfl

@[simp] theorem setTau_temp (s : State) (n : Nat) :
    (s.setTau n).temp = s.temp := rfl

@[simp] theorem setTau_port (s : State) (n : Nat) :
    (s.setTau n).port = s.port := rfl

@[simp] theorem setTau_freeCount (s : State) (n : Nat) :
    (s.setTau n).freeCount = s.freeCount := rfl

@[simp] theorem setTau_pending (s : State) (n : Nat) :
    (s.setTau n).pending = s.pending := rfl

/-! ## Time run to a phase -/

@[simp] theorem runTo_pins (s : State) (p : Nat) :
    (s.runTo p).pins = s.pins := rfl

@[simp] theorem runTo_roster (s : State) (p : Nat) :
    (s.runTo p).roster = s.roster := rfl

@[simp] theorem runTo_solver (s : State) (p : Nat) :
    (s.runTo p).solver = s.solver := rfl

@[simp] theorem runTo_temp (s : State) (p : Nat) :
    (s.runTo p).temp = s.temp := rfl

@[simp] theorem runTo_port (s : State) (p : Nat) :
    (s.runTo p).port = s.port := rfl

@[simp] theorem runTo_freeCount (s : State) (p : Nat) :
    (s.runTo p).freeCount = s.freeCount := rfl

@[simp] theorem runTo_pending (s : State) (p : Nat) :
    (s.runTo p).pending = s.pending := rfl

/-! ## A hand-over -/

@[simp] theorem handOver_pins (s : State) (f c : Int) :
    (s.handOver f c).pins = s.pins := rfl

@[simp] theorem handOver_ref (s : State) (f c : Int) :
    (s.handOver f c).ref = s.ref := rfl

@[simp] theorem handOver_mark (s : State) (f c : Int) :
    (s.handOver f c).mark = s.mark := rfl

@[simp] theorem handOver_frame (s : State) (f c : Int) :
    (s.handOver f c).frame = s.frame := rfl

@[simp] theorem handOver_mem (s : State) (f c : Int) :
    (s.handOver f c).mem = s.mem := rfl

@[simp] theorem handOver_roster (s : State) (f c : Int) :
    (s.handOver f c).roster = s.roster := rfl

@[simp] theorem handOver_solver (s : State) (f c : Int) :
    (s.handOver f c).solver = s.solver := rfl

@[simp] theorem handOver_temp (s : State) (f c : Int) :
    (s.handOver f c).temp = s.temp := rfl

@[simp] theorem handOver_gen (s : State) (f c : Int) :
    (s.handOver f c).gen = s.gen := rfl

@[simp] theorem handOver_port (s : State) (f c : Int) :
    (s.handOver f c).port = s.port := rfl

@[simp] theorem handOver_freeCount (s : State) (f c : Int) :
    (s.handOver f c).freeCount = s.freeCount := rfl

@[simp] theorem handOver_pending (s : State) (f c : Int) :
    (s.handOver f c).pending = s.pending := rfl

/-! ## An adoption request -/

@[simp] theorem requestAdoption_pins (s : State) (n : Epoch) :
    (s.requestAdoption n).pins = s.pins := rfl

@[simp] theorem requestAdoption_ref (s : State) (n : Epoch) :
    (s.requestAdoption n).ref = s.ref := rfl

@[simp] theorem requestAdoption_mark (s : State) (n : Epoch) :
    (s.requestAdoption n).mark = s.mark := rfl

@[simp] theorem requestAdoption_frame (s : State) (n : Epoch) :
    (s.requestAdoption n).frame = s.frame := rfl

@[simp] theorem requestAdoption_mem (s : State) (n : Epoch) :
    (s.requestAdoption n).mem = s.mem := rfl

@[simp] theorem requestAdoption_roster (s : State) (n : Epoch) :
    (s.requestAdoption n).roster = s.roster := rfl

@[simp] theorem requestAdoption_solver (s : State) (n : Epoch) :
    (s.requestAdoption n).solver = s.solver := rfl

@[simp] theorem requestAdoption_temp (s : State) (n : Epoch) :
    (s.requestAdoption n).temp = s.temp := rfl

@[simp] theorem requestAdoption_gen (s : State) (n : Epoch) :
    (s.requestAdoption n).gen = s.gen := rfl

@[simp] theorem requestAdoption_port (s : State) (n : Epoch) :
    (s.requestAdoption n).port = s.port := rfl

@[simp] theorem requestAdoption_freeCount (s : State) (n : Epoch) :
    (s.requestAdoption n).freeCount = s.freeCount := rfl

@[simp] theorem requestAdoption_pending (s : State) (n : Epoch) :
    (s.requestAdoption n).pending = s.pending := rfl

/-! ## An entry removed -/

@[simp] theorem dropEntry_pins (s : State) (k : NodeId) :
    (s.dropEntry k).pins = s.pins := rfl

@[simp] theorem dropEntry_ts (s : State) (k : NodeId) :
    (s.dropEntry k).ts = s.ts := rfl

@[simp] theorem dropEntry_ref (s : State) (k : NodeId) :
    (s.dropEntry k).ref = s.ref := rfl

@[simp] theorem dropEntry_mark (s : State) (k : NodeId) :
    (s.dropEntry k).mark = s.mark := rfl

@[simp] theorem dropEntry_frame (s : State) (k : NodeId) :
    (s.dropEntry k).frame = s.frame := rfl

@[simp] theorem dropEntry_mem (s : State) (k : NodeId) :
    (s.dropEntry k).mem = s.mem := rfl

@[simp] theorem dropEntry_temp (s : State) (k : NodeId) :
    (s.dropEntry k).temp = s.temp := rfl

@[simp] theorem dropEntry_gen (s : State) (k : NodeId) :
    (s.dropEntry k).gen = s.gen := rfl

@[simp] theorem dropEntry_port (s : State) (k : NodeId) :
    (s.dropEntry k).port = s.port := rfl

@[simp] theorem dropEntry_freeCount (s : State) (k : NodeId) :
    (s.dropEntry k).freeCount = s.freeCount := rfl

@[simp] theorem dropEntry_pending (s : State) (k : NodeId) :
    (s.dropEntry k).pending = s.pending := rfl

/-! ## A clear of the roster -/

@[simp] theorem clearRoster_pins (s : State) :
    (s.clearRoster).pins = s.pins := rfl

@[simp] theorem clearRoster_ts (s : State) :
    (s.clearRoster).ts = s.ts := rfl

@[simp] theorem clearRoster_ref (s : State) :
    (s.clearRoster).ref = s.ref := rfl

@[simp] theorem clearRoster_mark (s : State) :
    (s.clearRoster).mark = s.mark := rfl

@[simp] theorem clearRoster_frame (s : State) :
    (s.clearRoster).frame = s.frame := rfl

@[simp] theorem clearRoster_mem (s : State) :
    (s.clearRoster).mem = s.mem := rfl

@[simp] theorem clearRoster_temp (s : State) :
    (s.clearRoster).temp = s.temp := rfl

@[simp] theorem clearRoster_gen (s : State) :
    (s.clearRoster).gen = s.gen := rfl

@[simp] theorem clearRoster_port (s : State) :
    (s.clearRoster).port = s.port := rfl

@[simp] theorem clearRoster_freeCount (s : State) :
    (s.clearRoster).freeCount = s.freeCount := rfl

@[simp] theorem clearRoster_pending (s : State) :
    (s.clearRoster).pending = s.pending := rfl

/-! ## The start of a replay -/

@[simp] theorem startReplay_pins (s : State) (x : Int) :
    (s.startReplay x).pins = s.pins := rfl

@[simp] theorem startReplay_frame (s : State) (x : Int) :
    (s.startReplay x).frame = s.frame := rfl

@[simp] theorem startReplay_mem (s : State) (x : Int) :
    (s.startReplay x).mem = s.mem := rfl

@[simp] theorem startReplay_roster (s : State) (x : Int) :
    (s.startReplay x).roster = s.roster := rfl

@[simp] theorem startReplay_solver (s : State) (x : Int) :
    (s.startReplay x).solver = s.solver := rfl

@[simp] theorem startReplay_temp (s : State) (x : Int) :
    (s.startReplay x).temp = s.temp := rfl

@[simp] theorem startReplay_gen (s : State) (x : Int) :
    (s.startReplay x).gen = s.gen := rfl

@[simp] theorem startReplay_port (s : State) (x : Int) :
    (s.startReplay x).port = s.port := rfl

@[simp] theorem startReplay_freeCount (s : State) (x : Int) :
    (s.startReplay x).freeCount = s.freeCount := rfl

@[simp] theorem startReplay_pending (s : State) (x : Int) :
    (s.startReplay x).pending = s.pending := rfl

/-! ## Inside the port -/

@[simp] theorem post_port_record (s : State) (l : Lane) (k : EventKind) (j : Option NodeId) (v : Option (BitVec 32)) :
    (s.post l k j v).port.record = s.port.record := rfl

@[simp] theorem post_port_transaction (s : State) (l : Lane) (k : EventKind) (j : Option NodeId) (v : Option (BitVec 32)) :
    (s.post l k j v).port.transaction = s.port.transaction := rfl

@[simp] theorem post_port_slot (s : State) (l : Lane) (k : EventKind) (j : Option NodeId) (v : Option (BitVec 32)) :
    (s.post l k j v).port.slot = s.port.slot := rfl

@[simp] theorem post_port_queue (s : State) (l : Lane) (k : EventKind) (j : Option NodeId) (v : Option (BitVec 32)) :
    (s.post l k j v).port.queue = s.port.queue := rfl

@[simp] theorem post_port_nextSeq (s : State) (l : Lane) (k : EventKind) (j : Option NodeId) (v : Option (BitVec 32)) :
    (s.post l k j v).port.nextSeq = s.port.nextSeq := rfl

@[simp] theorem post_port_lost (s : State) (l : Lane) (k : EventKind) (j : Option NodeId) (v : Option (BitVec 32)) :
    (s.post l k j v).port.lost = s.port.lost := rfl

@[simp] theorem post_port_snapSkip (s : State) (l : Lane) (k : EventKind) (j : Option NodeId) (v : Option (BitVec 32)) :
    (s.post l k j v).port.snapSkip = s.port.snapSkip := rfl

@[simp] theorem post_port_snapPost (s : State) (l : Lane) (k : EventKind) (j : Option NodeId) (v : Option (BitVec 32)) :
    (s.post l k j v).port.snapPost = s.port.snapPost := rfl

@[simp] theorem post_port_sdo (s : State) (l : Lane) (k : EventKind) (j : Option NodeId) (v : Option (BitVec 32)) :
    (s.post l k j v).port.sdo = s.port.sdo := rfl

@[simp] theorem postInt_port_record (s : State) (l : Lane) (k : EventKind) (j : Option NodeId) (v : Int) :
    (s.postInt l k j v).port.record = s.port.record := rfl

@[simp] theorem postInt_port_transaction (s : State) (l : Lane) (k : EventKind) (j : Option NodeId) (v : Int) :
    (s.postInt l k j v).port.transaction = s.port.transaction := rfl

@[simp] theorem postInt_port_slot (s : State) (l : Lane) (k : EventKind) (j : Option NodeId) (v : Int) :
    (s.postInt l k j v).port.slot = s.port.slot := rfl

@[simp] theorem postInt_port_queue (s : State) (l : Lane) (k : EventKind) (j : Option NodeId) (v : Int) :
    (s.postInt l k j v).port.queue = s.port.queue := rfl

@[simp] theorem postInt_port_nextSeq (s : State) (l : Lane) (k : EventKind) (j : Option NodeId) (v : Int) :
    (s.postInt l k j v).port.nextSeq = s.port.nextSeq := rfl

@[simp] theorem postInt_port_lost (s : State) (l : Lane) (k : EventKind) (j : Option NodeId) (v : Int) :
    (s.postInt l k j v).port.lost = s.port.lost := rfl

@[simp] theorem postInt_port_snapSkip (s : State) (l : Lane) (k : EventKind) (j : Option NodeId) (v : Int) :
    (s.postInt l k j v).port.snapSkip = s.port.snapSkip := rfl

@[simp] theorem postInt_port_snapPost (s : State) (l : Lane) (k : EventKind) (j : Option NodeId) (v : Int) :
    (s.postInt l k j v).port.snapPost = s.port.snapPost := rfl

@[simp] theorem postInt_port_sdo (s : State) (l : Lane) (k : EventKind) (j : Option NodeId) (v : Int) :
    (s.postInt l k j v).port.sdo = s.port.sdo := rfl

@[simp] theorem respond_port_record (s : State) (c : Byte) (r : ResultCode) (i : Nat) (p : List Byte) :
    (s.respond c r i p).port.record = s.port.record := rfl

@[simp] theorem respond_port_transaction (s : State) (c : Byte) (r : ResultCode) (i : Nat) (p : List Byte) :
    (s.respond c r i p).port.transaction = s.port.transaction := rfl

@[simp] theorem respond_port_queue (s : State) (c : Byte) (r : ResultCode) (i : Nat) (p : List Byte) :
    (s.respond c r i p).port.queue = s.port.queue := rfl

@[simp] theorem respond_port_nextSeq (s : State) (c : Byte) (r : ResultCode) (i : Nat) (p : List Byte) :
    (s.respond c r i p).port.nextSeq = s.port.nextSeq := rfl

@[simp] theorem respond_port_lost (s : State) (c : Byte) (r : ResultCode) (i : Nat) (p : List Byte) :
    (s.respond c r i p).port.lost = s.port.lost := rfl

@[simp] theorem respond_port_snapSkip (s : State) (c : Byte) (r : ResultCode) (i : Nat) (p : List Byte) :
    (s.respond c r i p).port.snapSkip = s.port.snapSkip := rfl

@[simp] theorem respond_port_snapPost (s : State) (c : Byte) (r : ResultCode) (i : Nat) (p : List Byte) :
    (s.respond c r i p).port.snapPost = s.port.snapPost := rfl

@[simp] theorem respond_port_sdo (s : State) (c : Byte) (r : ResultCode) (i : Nat) (p : List Byte) :
    (s.respond c r i p).port.sdo = s.port.sdo := rfl

@[simp] theorem respond_port_outbox (s : State) (c : Byte) (r : ResultCode) (i : Nat) (p : List Byte) :
    (s.respond c r i p).port.outbox = s.port.outbox := rfl

@[simp] theorem respond_port_slot (s : State) (c : Byte) (r : ResultCode) (i : Nat) (p : List Byte) :
    (s.respond c r i p).port.slot = .pending ⟨c, r, i, p⟩ := rfl

@[simp] theorem post_port_outbox (s : State) (l : Lane) (k : EventKind) (j : Option NodeId) (v : Option (BitVec 32)) :
    (s.post l k j v).port.outbox = s.port.outbox ++ [⟨l, s.ts.epoch, k, j, v, none⟩] := rfl

@[simp] theorem postInt_port_outbox (s : State) (l : Lane) (k : EventKind) (j : Option NodeId) (v : Int) :
    (s.postInt l k j v).port.outbox = s.port.outbox ++ [⟨l, s.ts.epoch, k, j, some (signed32 v), none⟩] := rfl

/-! ## Inside the timescale unit -/

@[simp] theorem setTau_ts_base (s : State) (n : Nat) :
    (s.setTau n).ts.base = s.ts.base := rfl

@[simp] theorem setTau_ts_len (s : State) (n : Nat) :
    (s.setTau n).ts.len = s.ts.len := rfl

@[simp] theorem setTau_ts_epoch (s : State) (n : Nat) :
    (s.setTau n).ts.epoch = s.ts.epoch := rfl

@[simp] theorem setTau_ts_f (s : State) (n : Nat) :
    (s.setTau n).ts.f = s.ts.f := rfl

@[simp] theorem setTau_ts_c (s : State) (n : Nat) :
    (s.setTau n).ts.c = s.ts.c := rfl

@[simp] theorem setTau_ts_pendF (s : State) (n : Nat) :
    (s.setTau n).ts.pendF = s.ts.pendF := rfl

@[simp] theorem setTau_ts_pendC (s : State) (n : Nat) :
    (s.setTau n).ts.pendC = s.ts.pendC := rfl

@[simp] theorem setTau_ts_carry (s : State) (n : Nat) :
    (s.setTau n).ts.carry = s.ts.carry := rfl

@[simp] theorem setTau_ts_pendStep (s : State) (n : Nat) :
    (s.setTau n).ts.pendStep = s.ts.pendStep := rfl

@[simp] theorem setTau_ts_pendAdopt (s : State) (n : Nat) :
    (s.setTau n).ts.pendAdopt = s.ts.pendAdopt := rfl

@[simp] theorem setTau_ts_replay (s : State) (n : Nat) :
    (s.setTau n).ts.replay = s.ts.replay := rfl

@[simp] theorem setTau_ts_stepBegan (s : State) (n : Nat) :
    (s.setTau n).ts.stepBegan = s.ts.stepBegan := rfl

@[simp] theorem setTau_ts_groupA (s : State) (n : Nat) :
    (s.setTau n).ts.groupA = s.ts.groupA := rfl

@[simp] theorem setTau_ts_groupB (s : State) (n : Nat) :
    (s.setTau n).ts.groupB = s.ts.groupB := rfl

@[simp] theorem setTau_ts_raised (s : State) (n : Nat) :
    (s.setTau n).ts.raised = s.ts.raised := rfl

@[simp] theorem runTo_ts_base (s : State) (p : Nat) :
    (s.runTo p).ts.base = s.ts.base := rfl

@[simp] theorem runTo_ts_len (s : State) (p : Nat) :
    (s.runTo p).ts.len = s.ts.len := rfl

@[simp] theorem runTo_ts_epoch (s : State) (p : Nat) :
    (s.runTo p).ts.epoch = s.ts.epoch := rfl

@[simp] theorem runTo_ts_f (s : State) (p : Nat) :
    (s.runTo p).ts.f = s.ts.f := rfl

@[simp] theorem runTo_ts_c (s : State) (p : Nat) :
    (s.runTo p).ts.c = s.ts.c := rfl

@[simp] theorem runTo_ts_pendF (s : State) (p : Nat) :
    (s.runTo p).ts.pendF = s.ts.pendF := rfl

@[simp] theorem runTo_ts_pendC (s : State) (p : Nat) :
    (s.runTo p).ts.pendC = s.ts.pendC := rfl

@[simp] theorem runTo_ts_carry (s : State) (p : Nat) :
    (s.runTo p).ts.carry = s.ts.carry := rfl

@[simp] theorem runTo_ts_pendStep (s : State) (p : Nat) :
    (s.runTo p).ts.pendStep = s.ts.pendStep := rfl

@[simp] theorem runTo_ts_pendAdopt (s : State) (p : Nat) :
    (s.runTo p).ts.pendAdopt = s.ts.pendAdopt := rfl

@[simp] theorem runTo_ts_replay (s : State) (p : Nat) :
    (s.runTo p).ts.replay = s.ts.replay := rfl

@[simp] theorem runTo_ts_stepBegan (s : State) (p : Nat) :
    (s.runTo p).ts.stepBegan = s.ts.stepBegan := rfl

@[simp] theorem runTo_ts_groupA (s : State) (p : Nat) :
    (s.runTo p).ts.groupA = s.ts.groupA := rfl

@[simp] theorem runTo_ts_groupB (s : State) (p : Nat) :
    (s.runTo p).ts.groupB = s.ts.groupB := rfl

@[simp] theorem runTo_ts_raised (s : State) (p : Nat) :
    (s.runTo p).ts.raised = s.ts.raised := rfl

@[simp] theorem setTau_ts_tau (s : State) (n : Nat) :
    (s.setTau n).ts.tau = n := rfl

/-! ## What time does to the membership unit -/

@[simp] theorem age_mem_nodeId (s : State) (d : Nat) :
    (s.age d).mem.nodeId = s.mem.nodeId := rfl

@[simp] theorem age_mem_state (s : State) (d : Nat) :
    (s.age d).mem.state = s.mem.state := rfl

@[simp] theorem age_mem_reasonCommand (s : State) (d : Nat) :
    (s.age d).mem.reasonCommand = s.mem.reasonCommand := rfl

@[simp] theorem age_mem_reasonSupply (s : State) (d : Nat) :
    (s.age d).mem.reasonSupply = s.mem.reasonSupply := rfl

@[simp] theorem age_mem_quietCount (s : State) (d : Nat) :
    (s.age d).mem.quietCount = s.mem.quietCount := rfl

@[simp] theorem age_mem_heard (s : State) (d : Nat) :
    (s.age d).mem.heard = s.mem.heard := rfl

@[simp] theorem age_mem_frameRecord (s : State) (d : Nat) :
    (s.age d).mem.frameRecord = s.mem.frameRecord := rfl

@[simp] theorem age_mem_closedRecord (s : State) (d : Nat) :
    (s.age d).mem.closedRecord = s.mem.closedRecord := rfl

@[simp] theorem age_mem_trainStart (s : State) (d : Nat) :
    (s.age d).mem.trainStart = s.mem.trainStart := rfl

@[simp] theorem age_mem_history (s : State) (d : Nat) :
    (s.age d).mem.history = s.mem.history := rfl

@[simp] theorem age_mem_newest (s : State) (d : Nat) :
    (s.age d).mem.newest = s.mem.newest := rfl

@[simp] theorem age_mem_aligningCount (s : State) (d : Nat) :
    (s.age d).mem.aligningCount = s.mem.aligningCount := rfl

@[simp] theorem age_mem_emptyCount (s : State) (d : Nat) :
    (s.age d).mem.emptyCount = s.mem.emptyCount := rfl

@[simp] theorem age_mem_joinSenders (s : State) (d : Nat) :
    (s.age d).mem.joinSenders = s.mem.joinSenders := rfl

@[simp] theorem age_mem_joinHeard (s : State) (d : Nat) :
    (s.age d).mem.joinHeard = s.mem.joinHeard := rfl

@[simp] theorem age_mem_joinCounter (s : State) (d : Nat) :
    (s.age d).mem.joinCounter = s.mem.joinCounter := rfl

@[simp] theorem age_mem_joinQuiet (s : State) (d : Nat) :
    (s.age d).mem.joinQuiet = s.mem.joinQuiet := rfl

@[simp] theorem age_mem_evidenceThis (s : State) (d : Nat) :
    (s.age d).mem.evidenceThis = s.mem.evidenceThis := rfl

@[simp] theorem age_mem_evidenceLast (s : State) (d : Nat) :
    (s.age d).mem.evidenceLast = s.mem.evidenceLast := rfl

@[simp] theorem age_mem_adoptionOutstanding (s : State) (d : Nat) :
    (s.age d).mem.adoptionOutstanding = s.mem.adoptionOutstanding := rfl

@[simp] theorem age_mem_supplyIsLow (s : State) (d : Nat) :
    (s.age d).mem.supplyIsLow = s.mem.supplyIsLow := rfl

@[simp] theorem setTau_mem_nodeId (s : State) (n : Nat) :
    (s.setTau n).mem.nodeId = s.mem.nodeId := rfl

@[simp] theorem setTau_mem_state (s : State) (n : Nat) :
    (s.setTau n).mem.state = s.mem.state := rfl

@[simp] theorem setTau_mem_reasonCommand (s : State) (n : Nat) :
    (s.setTau n).mem.reasonCommand = s.mem.reasonCommand := rfl

@[simp] theorem setTau_mem_reasonSupply (s : State) (n : Nat) :
    (s.setTau n).mem.reasonSupply = s.mem.reasonSupply := rfl

@[simp] theorem setTau_mem_quietCount (s : State) (n : Nat) :
    (s.setTau n).mem.quietCount = s.mem.quietCount := rfl

@[simp] theorem setTau_mem_heard (s : State) (n : Nat) :
    (s.setTau n).mem.heard = s.mem.heard := rfl

@[simp] theorem setTau_mem_frameRecord (s : State) (n : Nat) :
    (s.setTau n).mem.frameRecord = s.mem.frameRecord := rfl

@[simp] theorem setTau_mem_closedRecord (s : State) (n : Nat) :
    (s.setTau n).mem.closedRecord = s.mem.closedRecord := rfl

@[simp] theorem setTau_mem_trainStart (s : State) (n : Nat) :
    (s.setTau n).mem.trainStart = s.mem.trainStart := rfl

@[simp] theorem setTau_mem_history (s : State) (n : Nat) :
    (s.setTau n).mem.history = s.mem.history := rfl

@[simp] theorem setTau_mem_newest (s : State) (n : Nat) :
    (s.setTau n).mem.newest = s.mem.newest := rfl

@[simp] theorem setTau_mem_aligningCount (s : State) (n : Nat) :
    (s.setTau n).mem.aligningCount = s.mem.aligningCount := rfl

@[simp] theorem setTau_mem_emptyCount (s : State) (n : Nat) :
    (s.setTau n).mem.emptyCount = s.mem.emptyCount := rfl

@[simp] theorem setTau_mem_joinSenders (s : State) (n : Nat) :
    (s.setTau n).mem.joinSenders = s.mem.joinSenders := rfl

@[simp] theorem setTau_mem_joinHeard (s : State) (n : Nat) :
    (s.setTau n).mem.joinHeard = s.mem.joinHeard := rfl

@[simp] theorem setTau_mem_joinCounter (s : State) (n : Nat) :
    (s.setTau n).mem.joinCounter = s.mem.joinCounter := rfl

@[simp] theorem setTau_mem_joinQuiet (s : State) (n : Nat) :
    (s.setTau n).mem.joinQuiet = s.mem.joinQuiet := rfl

@[simp] theorem setTau_mem_evidenceThis (s : State) (n : Nat) :
    (s.setTau n).mem.evidenceThis = s.mem.evidenceThis := rfl

@[simp] theorem setTau_mem_evidenceLast (s : State) (n : Nat) :
    (s.setTau n).mem.evidenceLast = s.mem.evidenceLast := rfl

@[simp] theorem setTau_mem_adoptionOutstanding (s : State) (n : Nat) :
    (s.setTau n).mem.adoptionOutstanding = s.mem.adoptionOutstanding := rfl

@[simp] theorem setTau_mem_supplyIsLow (s : State) (n : Nat) :
    (s.setTau n).mem.supplyIsLow = s.mem.supplyIsLow := rfl

@[simp] theorem runTo_mem_nodeId (s : State) (p : Nat) :
    (s.runTo p).mem.nodeId = s.mem.nodeId := rfl

@[simp] theorem runTo_mem_state (s : State) (p : Nat) :
    (s.runTo p).mem.state = s.mem.state := rfl

@[simp] theorem runTo_mem_reasonCommand (s : State) (p : Nat) :
    (s.runTo p).mem.reasonCommand = s.mem.reasonCommand := rfl

@[simp] theorem runTo_mem_reasonSupply (s : State) (p : Nat) :
    (s.runTo p).mem.reasonSupply = s.mem.reasonSupply := rfl

@[simp] theorem runTo_mem_quietCount (s : State) (p : Nat) :
    (s.runTo p).mem.quietCount = s.mem.quietCount := rfl

@[simp] theorem runTo_mem_heard (s : State) (p : Nat) :
    (s.runTo p).mem.heard = s.mem.heard := rfl

@[simp] theorem runTo_mem_frameRecord (s : State) (p : Nat) :
    (s.runTo p).mem.frameRecord = s.mem.frameRecord := rfl

@[simp] theorem runTo_mem_closedRecord (s : State) (p : Nat) :
    (s.runTo p).mem.closedRecord = s.mem.closedRecord := rfl

@[simp] theorem runTo_mem_trainStart (s : State) (p : Nat) :
    (s.runTo p).mem.trainStart = s.mem.trainStart := rfl

@[simp] theorem runTo_mem_history (s : State) (p : Nat) :
    (s.runTo p).mem.history = s.mem.history := rfl

@[simp] theorem runTo_mem_newest (s : State) (p : Nat) :
    (s.runTo p).mem.newest = s.mem.newest := rfl

@[simp] theorem runTo_mem_aligningCount (s : State) (p : Nat) :
    (s.runTo p).mem.aligningCount = s.mem.aligningCount := rfl

@[simp] theorem runTo_mem_emptyCount (s : State) (p : Nat) :
    (s.runTo p).mem.emptyCount = s.mem.emptyCount := rfl

@[simp] theorem runTo_mem_joinSenders (s : State) (p : Nat) :
    (s.runTo p).mem.joinSenders = s.mem.joinSenders := rfl

@[simp] theorem runTo_mem_joinHeard (s : State) (p : Nat) :
    (s.runTo p).mem.joinHeard = s.mem.joinHeard := rfl

@[simp] theorem runTo_mem_joinCounter (s : State) (p : Nat) :
    (s.runTo p).mem.joinCounter = s.mem.joinCounter := rfl

@[simp] theorem runTo_mem_joinQuiet (s : State) (p : Nat) :
    (s.runTo p).mem.joinQuiet = s.mem.joinQuiet := rfl

@[simp] theorem runTo_mem_evidenceThis (s : State) (p : Nat) :
    (s.runTo p).mem.evidenceThis = s.mem.evidenceThis := rfl

@[simp] theorem runTo_mem_evidenceLast (s : State) (p : Nat) :
    (s.runTo p).mem.evidenceLast = s.mem.evidenceLast := rfl

@[simp] theorem runTo_mem_adoptionOutstanding (s : State) (p : Nat) :
    (s.runTo p).mem.adoptionOutstanding = s.mem.adoptionOutstanding := rfl

@[simp] theorem runTo_mem_supplyIsLow (s : State) (p : Nat) :
    (s.runTo p).mem.supplyIsLow = s.mem.supplyIsLow := rfl

/-! ## What time does to the lines, the qualifier and the generators -/

@[simp] theorem runTo_mark_capture (s : State) (p : Nat) :
    (s.runTo p).mark.capture = s.mark.capture := rfl

@[simp] theorem runTo_mark_early (s : State) (p : Nat) :
    (s.runTo p).mark.early = s.mark.early := rfl

@[simp] theorem runTo_mark_earlyOwn (s : State) (p : Nat) :
    (s.runTo p).mark.earlyOwn = s.mark.earlyOwn := rfl

@[simp] theorem runTo_mark_echo (s : State) (p : Nat) :
    (s.runTo p).mark.echo = s.mark.echo := rfl

@[simp] theorem runTo_mark_evidence (s : State) (p : Nat) :
    (s.runTo p).mark.evidence = s.mark.evidence := rfl

@[simp] theorem runTo_mark_strayCount (s : State) (p : Nat) :
    (s.runTo p).mark.strayCount = s.mark.strayCount := rfl

@[simp] theorem runTo_mark_contestedCount (s : State) (p : Nat) :
    (s.runTo p).mark.contestedCount = s.mark.contestedCount := rfl

@[simp] theorem runTo_mark_strayEpoch (s : State) (p : Nat) :
    (s.runTo p).mark.strayEpoch = s.mark.strayEpoch := rfl

@[simp] theorem runTo_mark_fault (s : State) (p : Nat) :
    (s.runTo p).mark.fault = s.mark.fault := rfl

@[simp] theorem runTo_frame_windowOpen (s : State) (p : Nat) :
    (s.runTo p).frame.windowOpen = s.frame.windowOpen := rfl

@[simp] theorem runTo_frame_talk (s : State) (p : Nat) :
    (s.runTo p).frame.talk = s.frame.talk := rfl

@[simp] theorem runTo_frame_leave (s : State) (p : Nat) :
    (s.runTo p).frame.leave = s.frame.leave := rfl

@[simp] theorem runTo_frame_inFlight (s : State) (p : Nat) :
    (s.runTo p).frame.inFlight = s.frame.inFlight := rfl

@[simp] theorem runTo_frame_tx (s : State) (p : Nat) :
    (s.runTo p).frame.tx = s.frame.tx := rfl

@[simp] theorem runTo_frame_txBits (s : State) (p : Nat) :
    (s.runTo p).frame.txBits = s.frame.txBits := rfl

@[simp] theorem runTo_frame_txPos (s : State) (p : Nat) :
    (s.runTo p).frame.txPos = s.frame.txPos := rfl

@[simp] theorem runTo_frame_txRead (s : State) (p : Nat) :
    (s.runTo p).frame.txRead = s.frame.txRead := rfl

@[simp] theorem runTo_frame_txDriving (s : State) (p : Nat) :
    (s.runTo p).frame.txDriving = s.frame.txDriving := rfl

@[simp] theorem runTo_frame_rx (s : State) (p : Nat) :
    (s.runTo p).frame.rx = s.frame.rx := rfl

@[simp] theorem runTo_frame_rxBits (s : State) (p : Nat) :
    (s.runTo p).frame.rxBits = s.frame.rxBits := rfl

@[simp] theorem runTo_frame_rxRun (s : State) (p : Nat) :
    (s.runTo p).frame.rxRun = s.frame.rxRun := rfl

@[simp] theorem runTo_frame_rxOwn (s : State) (p : Nat) :
    (s.runTo p).frame.rxOwn = s.frame.rxOwn := rfl

@[simp] theorem runTo_frame_receipt (s : State) (p : Nat) :
    (s.runTo p).frame.receipt = s.frame.receipt := rfl

@[simp] theorem runTo_frame_collision (s : State) (p : Nat) :
    (s.runTo p).frame.collision = s.frame.collision := rfl

@[simp] theorem runTo_frame_returnedTalk (s : State) (p : Nat) :
    (s.runTo p).frame.returnedTalk = s.frame.returnedTalk := rfl

@[simp] theorem runTo_frame_returnedLeave (s : State) (p : Nat) :
    (s.runTo p).frame.returnedLeave = s.frame.returnedLeave := rfl

@[simp] theorem runTo_frame_leaveVoid (s : State) (p : Nat) :
    (s.runTo p).frame.leaveVoid = s.frame.leaveVoid := rfl

@[simp] theorem runTo_frame_crcErrors (s : State) (p : Nat) :
    (s.runTo p).frame.crcErrors = s.frame.crcErrors := rfl

@[simp] theorem runTo_frame_formatErrors (s : State) (p : Nat) :
    (s.runTo p).frame.formatErrors = s.frame.formatErrors := rfl

@[simp] theorem runTo_frame_truncatedErrors (s : State) (p : Nat) :
    (s.runTo p).frame.truncatedErrors = s.frame.truncatedErrors := rfl

@[simp] theorem runTo_frame_epochErrors (s : State) (p : Nat) :
    (s.runTo p).frame.epochErrors = s.frame.epochErrors := rfl

@[simp] theorem runTo_frame_unsent (s : State) (p : Nat) :
    (s.runTo p).frame.unsent = s.frame.unsent := rfl

@[simp] theorem runTo_frame_errorEpoch (s : State) (p : Nat) :
    (s.runTo p).frame.errorEpoch = s.frame.errorEpoch := rfl

@[simp] theorem runTo_frame_fault (s : State) (p : Nat) :
    (s.runTo p).frame.fault = s.frame.fault := rfl

@[simp] theorem runTo_ref_state (s : State) (p : Nat) :
    (s.runTo p).ref.state = s.ref.state := rfl

@[simp] theorem runTo_ref_probCount (s : State) (p : Nat) :
    (s.runTo p).ref.probCount = s.ref.probCount := rfl

@[simp] theorem runTo_ref_missCount (s : State) (p : Nat) :
    (s.runTo p).ref.missCount = s.ref.missCount := rfl

@[simp] theorem runTo_ref_outliers (s : State) (p : Nat) :
    (s.runTo p).ref.outliers = s.ref.outliers := rfl

@[simp] theorem runTo_ref_ring (s : State) (p : Nat) :
    (s.runTo p).ref.ring = s.ref.ring := rfl

@[simp] theorem runTo_ref_tally (s : State) (p : Nat) :
    (s.runTo p).ref.tally = s.ref.tally := rfl

@[simp] theorem runTo_ref_interval (s : State) (p : Nat) :
    (s.runTo p).ref.interval = s.ref.interval := rfl

@[simp] theorem runTo_ref_record (s : State) (p : Nat) :
    (s.runTo p).ref.record = s.ref.record := rfl

@[simp] theorem runTo_gen_timeValid (s : State) (p : Nat) :
    (s.runTo p).gen.timeValid = s.gen.timeValid := rfl

@[simp] theorem runTo_gen_inForce (s : State) (p : Nat) :
    (s.runTo p).gen.inForce = s.gen.inForce := rfl

@[simp] theorem runTo_gen_filtered (s : State) (p : Nat) :
    (s.runTo p).gen.filtered = s.gen.filtered := rfl

@[simp] theorem setTau_mark_capture (s : State) (n : Nat) :
    (s.setTau n).mark.capture = s.mark.capture := rfl

@[simp] theorem setTau_mark_early (s : State) (n : Nat) :
    (s.setTau n).mark.early = s.mark.early := rfl

@[simp] theorem setTau_mark_earlyOwn (s : State) (n : Nat) :
    (s.setTau n).mark.earlyOwn = s.mark.earlyOwn := rfl

@[simp] theorem setTau_mark_echo (s : State) (n : Nat) :
    (s.setTau n).mark.echo = s.mark.echo := rfl

@[simp] theorem setTau_mark_evidence (s : State) (n : Nat) :
    (s.setTau n).mark.evidence = s.mark.evidence := rfl

@[simp] theorem setTau_mark_strayCount (s : State) (n : Nat) :
    (s.setTau n).mark.strayCount = s.mark.strayCount := rfl

@[simp] theorem setTau_mark_contestedCount (s : State) (n : Nat) :
    (s.setTau n).mark.contestedCount = s.mark.contestedCount := rfl

@[simp] theorem setTau_mark_strayEpoch (s : State) (n : Nat) :
    (s.setTau n).mark.strayEpoch = s.mark.strayEpoch := rfl

@[simp] theorem setTau_mark_fault (s : State) (n : Nat) :
    (s.setTau n).mark.fault = s.mark.fault := rfl

@[simp] theorem setTau_frame_windowOpen (s : State) (n : Nat) :
    (s.setTau n).frame.windowOpen = s.frame.windowOpen := rfl

@[simp] theorem setTau_frame_talk (s : State) (n : Nat) :
    (s.setTau n).frame.talk = s.frame.talk := rfl

@[simp] theorem setTau_frame_leave (s : State) (n : Nat) :
    (s.setTau n).frame.leave = s.frame.leave := rfl

@[simp] theorem setTau_frame_inFlight (s : State) (n : Nat) :
    (s.setTau n).frame.inFlight = s.frame.inFlight := rfl

@[simp] theorem setTau_frame_tx (s : State) (n : Nat) :
    (s.setTau n).frame.tx = s.frame.tx := rfl

@[simp] theorem setTau_frame_txBits (s : State) (n : Nat) :
    (s.setTau n).frame.txBits = s.frame.txBits := rfl

@[simp] theorem setTau_frame_txPos (s : State) (n : Nat) :
    (s.setTau n).frame.txPos = s.frame.txPos := rfl

@[simp] theorem setTau_frame_txRead (s : State) (n : Nat) :
    (s.setTau n).frame.txRead = s.frame.txRead := rfl

@[simp] theorem setTau_frame_txDriving (s : State) (n : Nat) :
    (s.setTau n).frame.txDriving = s.frame.txDriving := rfl

@[simp] theorem setTau_frame_rx (s : State) (n : Nat) :
    (s.setTau n).frame.rx = s.frame.rx := rfl

@[simp] theorem setTau_frame_rxBits (s : State) (n : Nat) :
    (s.setTau n).frame.rxBits = s.frame.rxBits := rfl

@[simp] theorem setTau_frame_rxRun (s : State) (n : Nat) :
    (s.setTau n).frame.rxRun = s.frame.rxRun := rfl

@[simp] theorem setTau_frame_rxOwn (s : State) (n : Nat) :
    (s.setTau n).frame.rxOwn = s.frame.rxOwn := rfl

@[simp] theorem setTau_frame_receipt (s : State) (n : Nat) :
    (s.setTau n).frame.receipt = s.frame.receipt := rfl

@[simp] theorem setTau_frame_collision (s : State) (n : Nat) :
    (s.setTau n).frame.collision = s.frame.collision := rfl

@[simp] theorem setTau_frame_returnedTalk (s : State) (n : Nat) :
    (s.setTau n).frame.returnedTalk = s.frame.returnedTalk := rfl

@[simp] theorem setTau_frame_returnedLeave (s : State) (n : Nat) :
    (s.setTau n).frame.returnedLeave = s.frame.returnedLeave := rfl

@[simp] theorem setTau_frame_leaveVoid (s : State) (n : Nat) :
    (s.setTau n).frame.leaveVoid = s.frame.leaveVoid := rfl

@[simp] theorem setTau_frame_crcErrors (s : State) (n : Nat) :
    (s.setTau n).frame.crcErrors = s.frame.crcErrors := rfl

@[simp] theorem setTau_frame_formatErrors (s : State) (n : Nat) :
    (s.setTau n).frame.formatErrors = s.frame.formatErrors := rfl

@[simp] theorem setTau_frame_truncatedErrors (s : State) (n : Nat) :
    (s.setTau n).frame.truncatedErrors = s.frame.truncatedErrors := rfl

@[simp] theorem setTau_frame_epochErrors (s : State) (n : Nat) :
    (s.setTau n).frame.epochErrors = s.frame.epochErrors := rfl

@[simp] theorem setTau_frame_unsent (s : State) (n : Nat) :
    (s.setTau n).frame.unsent = s.frame.unsent := rfl

@[simp] theorem setTau_frame_errorEpoch (s : State) (n : Nat) :
    (s.setTau n).frame.errorEpoch = s.frame.errorEpoch := rfl

@[simp] theorem setTau_frame_fault (s : State) (n : Nat) :
    (s.setTau n).frame.fault = s.frame.fault := rfl

@[simp] theorem setTau_ref_state (s : State) (n : Nat) :
    (s.setTau n).ref.state = s.ref.state := rfl

@[simp] theorem setTau_ref_probCount (s : State) (n : Nat) :
    (s.setTau n).ref.probCount = s.ref.probCount := rfl

@[simp] theorem setTau_ref_missCount (s : State) (n : Nat) :
    (s.setTau n).ref.missCount = s.ref.missCount := rfl

@[simp] theorem setTau_ref_outliers (s : State) (n : Nat) :
    (s.setTau n).ref.outliers = s.ref.outliers := rfl

@[simp] theorem setTau_ref_ring (s : State) (n : Nat) :
    (s.setTau n).ref.ring = s.ref.ring := rfl

@[simp] theorem setTau_ref_tally (s : State) (n : Nat) :
    (s.setTau n).ref.tally = s.ref.tally := rfl

@[simp] theorem setTau_ref_interval (s : State) (n : Nat) :
    (s.setTau n).ref.interval = s.ref.interval := rfl

@[simp] theorem setTau_ref_record (s : State) (n : Nat) :
    (s.setTau n).ref.record = s.ref.record := rfl

@[simp] theorem setTau_gen_timeValid (s : State) (n : Nat) :
    (s.setTau n).gen.timeValid = s.gen.timeValid := rfl

@[simp] theorem setTau_gen_inForce (s : State) (n : Nat) :
    (s.setTau n).gen.inForce = s.gen.inForce := rfl

@[simp] theorem setTau_gen_filtered (s : State) (n : Nat) :
    (s.setTau n).gen.filtered = s.gen.filtered := rfl

end Sys2Proof.Machine
end

