-- ==== Sys2Proof/Laws/Ops.lean ====
section
/-! SUPPORT. What the shared operations of Ops.lean do: one law for each, cited in place of unfolding it. -/

namespace Sys2Proof.Machine

open Sys2Proof

/-! ## An event offered to the queue (R189, R190) -/

/-- A queue with room takes the record. -/
theorem offer_stores (s : State) (p : Posting) (h : s.port.queue.length < 32) :
    s.offer p =
      { s with port := { s.port with
          queue := s.port.queue ++ [⟨s.port.nextSeq, p.epoch, p.kind, p.subject, p.value⟩]
          nextSeq := s.port.nextSeq + 1 } } := by
  simp [State.offer, h]

/-- A full queue loses the event. -/
theorem offer_loses (s : State) (p : Posting) (h : ¬ s.port.queue.length < 32) :
    s.offer p = { s with port := { s.port with lost := satAdd 255 s.port.lost 1 } } := by
  simp [State.offer, h]

@[simp] theorem offer_pins (s : State) (p : Posting) : (s.offer p).pins = s.pins := by
  unfold State.offer; split <;> rfl

@[simp] theorem offer_ts (s : State) (p : Posting) : (s.offer p).ts = s.ts := by
  unfold State.offer; split <;> rfl

@[simp] theorem offer_ref (s : State) (p : Posting) : (s.offer p).ref = s.ref := by
  unfold State.offer; split <;> rfl

@[simp] theorem offer_mark (s : State) (p : Posting) : (s.offer p).mark = s.mark := by
  unfold State.offer; split <;> rfl

@[simp] theorem offer_frame (s : State) (p : Posting) : (s.offer p).frame = s.frame := by
  unfold State.offer; split <;> rfl

@[simp] theorem offer_mem (s : State) (p : Posting) : (s.offer p).mem = s.mem := by
  unfold State.offer; split <;> rfl

@[simp] theorem offer_roster (s : State) (p : Posting) : (s.offer p).roster = s.roster := by
  unfold State.offer; split <;> rfl

@[simp] theorem offer_solver (s : State) (p : Posting) : (s.offer p).solver = s.solver := by
  unfold State.offer; split <;> rfl

@[simp] theorem offer_temp (s : State) (p : Posting) : (s.offer p).temp = s.temp := by
  unfold State.offer; split <;> rfl

@[simp] theorem offer_gen (s : State) (p : Posting) : (s.offer p).gen = s.gen := by
  unfold State.offer; split <;> rfl

@[simp] theorem offer_pending (s : State) (p : Posting) : (s.offer p).pending = s.pending := by
  unfold State.offer; split <;> rfl

@[simp] theorem offer_freeCount (s : State) (p : Posting) : (s.offer p).freeCount = s.freeCount := by
  unfold State.offer; split <;> rfl

@[simp] theorem offer_port_record (s : State) (p : Posting) : (s.offer p).port.record = s.port.record := by
  unfold State.offer; split <;> rfl

@[simp] theorem offer_port_transaction (s : State) (p : Posting) : (s.offer p).port.transaction = s.port.transaction := by
  unfold State.offer; split <;> rfl

@[simp] theorem offer_port_slot (s : State) (p : Posting) : (s.offer p).port.slot = s.port.slot := by
  unfold State.offer; split <;> rfl

@[simp] theorem offer_port_snapSkip (s : State) (p : Posting) : (s.offer p).port.snapSkip = s.port.snapSkip := by
  unfold State.offer; split <;> rfl

@[simp] theorem offer_port_snapPost (s : State) (p : Posting) : (s.offer p).port.snapPost = s.port.snapPost := by
  unfold State.offer; split <;> rfl

@[simp] theorem offer_port_sdo (s : State) (p : Posting) : (s.offer p).port.sdo = s.port.sdo := by
  unfold State.offer; split <;> rfl

@[simp] theorem offer_port_outbox (s : State) (p : Posting) : (s.offer p).port.outbox = s.port.outbox := by
  unfold State.offer; split <;> rfl

/-- Neither the lane of a posting nor the block it follows shows in the queue. -/
theorem offer_lane (s : State) (l l' : Lane) (a a' : Option Lane) (e : Epoch) (k : EventKind) (j : Option NodeId)
    (v : Option (BitVec 32)) : s.offer ⟨l, e, k, j, v, a⟩ = s.offer ⟨l', e, k, j, v, a'⟩ := rfl

/-! ## Free choices -/


@[simp] theorem freeNat_pins (s : State) : s.freeNat.2.pins = s.pins := rfl

@[simp] theorem freeNat_ts (s : State) : s.freeNat.2.ts = s.ts := rfl

@[simp] theorem freeNat_ref (s : State) : s.freeNat.2.ref = s.ref := rfl

@[simp] theorem freeNat_mark (s : State) : s.freeNat.2.mark = s.mark := rfl

@[simp] theorem freeNat_frame (s : State) : s.freeNat.2.frame = s.frame := rfl

@[simp] theorem freeNat_mem (s : State) : s.freeNat.2.mem = s.mem := rfl

@[simp] theorem freeNat_roster (s : State) : s.freeNat.2.roster = s.roster := rfl

@[simp] theorem freeNat_solver (s : State) : s.freeNat.2.solver = s.solver := rfl

@[simp] theorem freeNat_temp (s : State) : s.freeNat.2.temp = s.temp := rfl

@[simp] theorem freeNat_gen (s : State) : s.freeNat.2.gen = s.gen := rfl

@[simp] theorem freeNat_pending (s : State) : s.freeNat.2.pending = s.pending := rfl

@[simp] theorem freeNat_port (s : State) : s.freeNat.2.port = s.port := rfl

@[simp] theorem choose_pins {α : Type} (a : α) (as : List α) (s : State) :
    (s.choose a as).2.pins = s.pins := by
  unfold State.choose; cases as <;> rfl

@[simp] theorem choose_ts {α : Type} (a : α) (as : List α) (s : State) :
    (s.choose a as).2.ts = s.ts := by
  unfold State.choose; cases as <;> rfl

@[simp] theorem choose_ref {α : Type} (a : α) (as : List α) (s : State) :
    (s.choose a as).2.ref = s.ref := by
  unfold State.choose; cases as <;> rfl

@[simp] theorem choose_mark {α : Type} (a : α) (as : List α) (s : State) :
    (s.choose a as).2.mark = s.mark := by
  unfold State.choose; cases as <;> rfl

@[simp] theorem choose_frame {α : Type} (a : α) (as : List α) (s : State) :
    (s.choose a as).2.frame = s.frame := by
  unfold State.choose; cases as <;> rfl

@[simp] theorem choose_mem {α : Type} (a : α) (as : List α) (s : State) :
    (s.choose a as).2.mem = s.mem := by
  unfold State.choose; cases as <;> rfl

@[simp] theorem choose_roster {α : Type} (a : α) (as : List α) (s : State) :
    (s.choose a as).2.roster = s.roster := by
  unfold State.choose; cases as <;> rfl

@[simp] theorem choose_solver {α : Type} (a : α) (as : List α) (s : State) :
    (s.choose a as).2.solver = s.solver := by
  unfold State.choose; cases as <;> rfl

@[simp] theorem choose_temp {α : Type} (a : α) (as : List α) (s : State) :
    (s.choose a as).2.temp = s.temp := by
  unfold State.choose; cases as <;> rfl

@[simp] theorem choose_gen {α : Type} (a : α) (as : List α) (s : State) :
    (s.choose a as).2.gen = s.gen := by
  unfold State.choose; cases as <;> rfl

@[simp] theorem choose_pending {α : Type} (a : α) (as : List α) (s : State) :
    (s.choose a as).2.pending = s.pending := by
  unfold State.choose; cases as <;> rfl

@[simp] theorem choose_port {α : Type} (a : α) (as : List α) (s : State) :
    (s.choose a as).2.port = s.port := by
  unfold State.choose; cases as <;> rfl

/-- A choice is one of the alternatives. -/
theorem choose_in {α : Type} (a : α) (as : List α) (s : State) : (s.choose a as).1 ∈ a :: as := by
  cases as with
  | nil => simp [State.choose]
  | cons b bs =>
    simp only [State.choose]
    have h : (s.freeNat.1 % ((b :: bs).length + 1)) < (a :: b :: bs).length := by
      simpa using Nat.mod_lt _ (Nat.succ_pos _)
    rw [List.getD_eq_getElem _ _ h]
    exact List.getElem_mem h

/-! ## Two postings in either order -/

/-- A choice uses at most one free value. -/
theorem choose_shape {α : Type} (a : α) (as : List α) (s : State) :
    ∃ n, (s.choose a as).2 = { s with freeCount := n } := by
  cases as <;> exact ⟨_, rfl⟩

/-- Only the order of the postings, and the count of free values, can change. -/
theorem eitherOrder_shape (s : State) : ∃ o n, s.eitherOrder = { s with port.outbox := o, freeCount := n } := by
  unfold State.eitherOrder
  split
  · obtain ⟨n, h⟩ := choose_shape false [true] s
    generalize s.choose false [true] = c at h
    obtain ⟨b, s'⟩ := c
    cases b <;> (subst h; exact ⟨_, _, rfl⟩)
  · exact ⟨_, _, rfl⟩

@[simp] theorem eitherOrder_pins (s : State) : s.eitherOrder.pins = s.pins := by
  obtain ⟨o, n, h⟩ := eitherOrder_shape s; rw [h]

@[simp] theorem eitherOrder_ts (s : State) : s.eitherOrder.ts = s.ts := by
  obtain ⟨o, n, h⟩ := eitherOrder_shape s; rw [h]

@[simp] theorem eitherOrder_ref (s : State) : s.eitherOrder.ref = s.ref := by
  obtain ⟨o, n, h⟩ := eitherOrder_shape s; rw [h]

@[simp] theorem eitherOrder_mark (s : State) : s.eitherOrder.mark = s.mark := by
  obtain ⟨o, n, h⟩ := eitherOrder_shape s; rw [h]

@[simp] theorem eitherOrder_frame (s : State) : s.eitherOrder.frame = s.frame := by
  obtain ⟨o, n, h⟩ := eitherOrder_shape s; rw [h]

@[simp] theorem eitherOrder_mem (s : State) : s.eitherOrder.mem = s.mem := by
  obtain ⟨o, n, h⟩ := eitherOrder_shape s; rw [h]

@[simp] theorem eitherOrder_roster (s : State) : s.eitherOrder.roster = s.roster := by
  obtain ⟨o, n, h⟩ := eitherOrder_shape s; rw [h]

@[simp] theorem eitherOrder_solver (s : State) : s.eitherOrder.solver = s.solver := by
  obtain ⟨o, n, h⟩ := eitherOrder_shape s; rw [h]

@[simp] theorem eitherOrder_temp (s : State) : s.eitherOrder.temp = s.temp := by
  obtain ⟨o, n, h⟩ := eitherOrder_shape s; rw [h]

@[simp] theorem eitherOrder_gen (s : State) : s.eitherOrder.gen = s.gen := by
  obtain ⟨o, n, h⟩ := eitherOrder_shape s; rw [h]

@[simp] theorem eitherOrder_pending (s : State) : s.eitherOrder.pending = s.pending := by
  obtain ⟨o, n, h⟩ := eitherOrder_shape s; rw [h]

@[simp] theorem eitherOrder_port_record (s : State) : s.eitherOrder.port.record = s.port.record := by
  obtain ⟨o, n, h⟩ := eitherOrder_shape s; rw [h]

@[simp] theorem eitherOrder_port_transaction (s : State) : s.eitherOrder.port.transaction = s.port.transaction := by
  obtain ⟨o, n, h⟩ := eitherOrder_shape s; rw [h]

@[simp] theorem eitherOrder_port_slot (s : State) : s.eitherOrder.port.slot = s.port.slot := by
  obtain ⟨o, n, h⟩ := eitherOrder_shape s; rw [h]

@[simp] theorem eitherOrder_port_queue (s : State) : s.eitherOrder.port.queue = s.port.queue := by
  obtain ⟨o, n, h⟩ := eitherOrder_shape s; rw [h]

@[simp] theorem eitherOrder_port_nextSeq (s : State) : s.eitherOrder.port.nextSeq = s.port.nextSeq := by
  obtain ⟨o, n, h⟩ := eitherOrder_shape s; rw [h]

@[simp] theorem eitherOrder_port_lost (s : State) : s.eitherOrder.port.lost = s.port.lost := by
  obtain ⟨o, n, h⟩ := eitherOrder_shape s; rw [h]

@[simp] theorem eitherOrder_port_snapSkip (s : State) : s.eitherOrder.port.snapSkip = s.port.snapSkip := by
  obtain ⟨o, n, h⟩ := eitherOrder_shape s; rw [h]

@[simp] theorem eitherOrder_port_snapPost (s : State) : s.eitherOrder.port.snapPost = s.port.snapPost := by
  obtain ⟨o, n, h⟩ := eitherOrder_shape s; rw [h]

@[simp] theorem eitherOrder_port_sdo (s : State) : s.eitherOrder.port.sdo = s.port.sdo := by
  obtain ⟨o, n, h⟩ := eitherOrder_shape s; rw [h]

/-! ## The end of a step (R189) -/

/-- With no older posting there is none to wait for. -/
@[simp] theorem waits_nil (p : Posting) : p.waits [] = false := by
  unfold Posting.waits; split <;> rfl

/-- Every lane listed has a posting. -/
theorem lanesOf_mem (ps : List Posting) (older : List Lane) (l : Lane) (h : l ∈ lanesOf ps older) :
    ∃ p ∈ ps, p.lane = l := by
  induction ps generalizing older with
  | nil => simp [lanesOf] at h
  | cons p ps ih =>
    unfold lanesOf at h
    split at h
    · rcases ih _ h with ⟨q, hq, e⟩
      exact ⟨q, List.mem_cons_of_mem _ hq, e⟩
    · rcases List.mem_cons.mp h with h | h
      · exact ⟨p, List.mem_cons_self, h.symm⟩
      · rcases ih _ h with ⟨q, hq, e⟩
        exact ⟨q, List.mem_cons_of_mem _ hq, e⟩

/-- Dropping the first posting of a lane that has one leaves one posting less. -/
theorem dropFirst_length (l : Lane) (ps : List Posting) (h : ∃ p ∈ ps, p.lane = l) :
    (dropFirst l ps).length + 1 = ps.length := by
  induction ps with
  | nil => simp at h
  | cons p ps ih =>
    unfold dropFirst
    split
    · rfl
    · rename_i hne
      rcases h with ⟨q, hq, e⟩
      rcases List.mem_cons.mp hq with rfl | hq
      · exact absurd e hne
      · simp [ih ⟨q, hq, e⟩]


@[simp] theorem nextPosting_pins (p : Posting) (ps : List Posting) (s : State) :
    (s.nextPosting p ps).2.2.pins = s.pins := by
  unfold State.nextPosting; split <;> simp

@[simp] theorem nextPosting_ts (p : Posting) (ps : List Posting) (s : State) :
    (s.nextPosting p ps).2.2.ts = s.ts := by
  unfold State.nextPosting; split <;> simp

@[simp] theorem nextPosting_ref (p : Posting) (ps : List Posting) (s : State) :
    (s.nextPosting p ps).2.2.ref = s.ref := by
  unfold State.nextPosting; split <;> simp

@[simp] theorem nextPosting_mark (p : Posting) (ps : List Posting) (s : State) :
    (s.nextPosting p ps).2.2.mark = s.mark := by
  unfold State.nextPosting; split <;> simp

@[simp] theorem nextPosting_frame (p : Posting) (ps : List Posting) (s : State) :
    (s.nextPosting p ps).2.2.frame = s.frame := by
  unfold State.nextPosting; split <;> simp

@[simp] theorem nextPosting_mem (p : Posting) (ps : List Posting) (s : State) :
    (s.nextPosting p ps).2.2.mem = s.mem := by
  unfold State.nextPosting; split <;> simp

@[simp] theorem nextPosting_roster (p : Posting) (ps : List Posting) (s : State) :
    (s.nextPosting p ps).2.2.roster = s.roster := by
  unfold State.nextPosting; split <;> simp

@[simp] theorem nextPosting_solver (p : Posting) (ps : List Posting) (s : State) :
    (s.nextPosting p ps).2.2.solver = s.solver := by
  unfold State.nextPosting; split <;> simp

@[simp] theorem nextPosting_temp (p : Posting) (ps : List Posting) (s : State) :
    (s.nextPosting p ps).2.2.temp = s.temp := by
  unfold State.nextPosting; split <;> simp

@[simp] theorem nextPosting_gen (p : Posting) (ps : List Posting) (s : State) :
    (s.nextPosting p ps).2.2.gen = s.gen := by
  unfold State.nextPosting; split <;> simp

@[simp] theorem nextPosting_pending (p : Posting) (ps : List Posting) (s : State) :
    (s.nextPosting p ps).2.2.pending = s.pending := by
  unfold State.nextPosting; split <;> simp

@[simp] theorem nextPosting_port (p : Posting) (ps : List Posting) (s : State) :
    (s.nextPosting p ps).2.2.port = s.port := by
  unfold State.nextPosting; split <;> simp

/-- One posting is taken out. -/
theorem nextPosting_length (p : Posting) (ps : List Posting) (s : State) :
    (s.nextPosting p ps).2.1.length = ps.length := by
  unfold State.nextPosting
  split
  · rfl
  · rename_i l ls h
    have hm := choose_in l ls s
    rw [← h] at hm
    have := dropFirst_length _ _ (lanesOf_mem _ _ _ hm)
    simp at this
    simpa using this


@[simp] theorem settleLoop_pins (n : Nat) (s : State) : (settleLoop n s).pins = s.pins := by
  induction n generalizing s with
  | zero => rfl
  | succ n ih => unfold settleLoop; split <;> simp [ih]

@[simp] theorem settleLoop_ts (n : Nat) (s : State) : (settleLoop n s).ts = s.ts := by
  induction n generalizing s with
  | zero => rfl
  | succ n ih => unfold settleLoop; split <;> simp [ih]

@[simp] theorem settleLoop_ref (n : Nat) (s : State) : (settleLoop n s).ref = s.ref := by
  induction n generalizing s with
  | zero => rfl
  | succ n ih => unfold settleLoop; split <;> simp [ih]

@[simp] theorem settleLoop_mark (n : Nat) (s : State) : (settleLoop n s).mark = s.mark := by
  induction n generalizing s with
  | zero => rfl
  | succ n ih => unfold settleLoop; split <;> simp [ih]

@[simp] theorem settleLoop_frame (n : Nat) (s : State) : (settleLoop n s).frame = s.frame := by
  induction n generalizing s with
  | zero => rfl
  | succ n ih => unfold settleLoop; split <;> simp [ih]

@[simp] theorem settleLoop_mem (n : Nat) (s : State) : (settleLoop n s).mem = s.mem := by
  induction n generalizing s with
  | zero => rfl
  | succ n ih => unfold settleLoop; split <;> simp [ih]

@[simp] theorem settleLoop_roster (n : Nat) (s : State) : (settleLoop n s).roster = s.roster := by
  induction n generalizing s with
  | zero => rfl
  | succ n ih => unfold settleLoop; split <;> simp [ih]

@[simp] theorem settleLoop_solver (n : Nat) (s : State) : (settleLoop n s).solver = s.solver := by
  induction n generalizing s with
  | zero => rfl
  | succ n ih => unfold settleLoop; split <;> simp [ih]

@[simp] theorem settleLoop_temp (n : Nat) (s : State) : (settleLoop n s).temp = s.temp := by
  induction n generalizing s with
  | zero => rfl
  | succ n ih => unfold settleLoop; split <;> simp [ih]

@[simp] theorem settleLoop_gen (n : Nat) (s : State) : (settleLoop n s).gen = s.gen := by
  induction n generalizing s with
  | zero => rfl
  | succ n ih => unfold settleLoop; split <;> simp [ih]

@[simp] theorem settleLoop_pending (n : Nat) (s : State) : (settleLoop n s).pending = s.pending := by
  induction n generalizing s with
  | zero => rfl
  | succ n ih => unfold settleLoop; split <;> simp [ih]

@[simp] theorem settleLoop_port_record (n : Nat) (s : State) : (settleLoop n s).port.record = s.port.record := by
  induction n generalizing s with
  | zero => rfl
  | succ n ih => unfold settleLoop; split <;> simp [ih]

@[simp] theorem settleLoop_port_transaction (n : Nat) (s : State) : (settleLoop n s).port.transaction = s.port.transaction := by
  induction n generalizing s with
  | zero => rfl
  | succ n ih => unfold settleLoop; split <;> simp [ih]

@[simp] theorem settleLoop_port_slot (n : Nat) (s : State) : (settleLoop n s).port.slot = s.port.slot := by
  induction n generalizing s with
  | zero => rfl
  | succ n ih => unfold settleLoop; split <;> simp [ih]

@[simp] theorem settleLoop_port_snapSkip (n : Nat) (s : State) : (settleLoop n s).port.snapSkip = s.port.snapSkip := by
  induction n generalizing s with
  | zero => rfl
  | succ n ih => unfold settleLoop; split <;> simp [ih]

@[simp] theorem settleLoop_port_snapPost (n : Nat) (s : State) : (settleLoop n s).port.snapPost = s.port.snapPost := by
  induction n generalizing s with
  | zero => rfl
  | succ n ih => unfold settleLoop; split <;> simp [ih]

@[simp] theorem settleLoop_port_sdo (n : Nat) (s : State) : (settleLoop n s).port.sdo = s.port.sdo := by
  induction n generalizing s with
  | zero => rfl
  | succ n ih => unfold settleLoop; split <;> simp [ih]

@[simp] theorem settle_pins (s : State) : s.settle.pins = s.pins := settleLoop_pins _ s

@[simp] theorem settle_ts (s : State) : s.settle.ts = s.ts := settleLoop_ts _ s

@[simp] theorem settle_ref (s : State) : s.settle.ref = s.ref := settleLoop_ref _ s

@[simp] theorem settle_mark (s : State) : s.settle.mark = s.mark := settleLoop_mark _ s

@[simp] theorem settle_frame (s : State) : s.settle.frame = s.frame := settleLoop_frame _ s

@[simp] theorem settle_mem (s : State) : s.settle.mem = s.mem := settleLoop_mem _ s

@[simp] theorem settle_roster (s : State) : s.settle.roster = s.roster := settleLoop_roster _ s

@[simp] theorem settle_solver (s : State) : s.settle.solver = s.solver := settleLoop_solver _ s

@[simp] theorem settle_temp (s : State) : s.settle.temp = s.temp := settleLoop_temp _ s

@[simp] theorem settle_gen (s : State) : s.settle.gen = s.gen := settleLoop_gen _ s

@[simp] theorem settle_pending (s : State) : s.settle.pending = s.pending := settleLoop_pending _ s

@[simp] theorem settle_port_record (s : State) : s.settle.port.record = s.port.record := settleLoop_port_record _ s

@[simp] theorem settle_port_transaction (s : State) : s.settle.port.transaction = s.port.transaction := settleLoop_port_transaction _ s

@[simp] theorem settle_port_slot (s : State) : s.settle.port.slot = s.port.slot := settleLoop_port_slot _ s

@[simp] theorem settle_port_snapSkip (s : State) : s.settle.port.snapSkip = s.port.snapSkip := settleLoop_port_snapSkip _ s

@[simp] theorem settle_port_snapPost (s : State) : s.settle.port.snapPost = s.port.snapPost := settleLoop_port_snapPost _ s

@[simp] theorem settle_port_sdo (s : State) : s.settle.port.sdo = s.port.sdo := settleLoop_port_sdo _ s

/-- One turn of the loop. -/
theorem settleLoop_cons (n : Nat) (s : State) (p : Posting) (ps : List Posting) (h : s.port.outbox = p :: ps) :
    settleLoop (n + 1) s =
      settleLoop n ({ (s.nextPosting p ps).2.2 with port.outbox := (s.nextPosting p ps).2.1 }.offer
        (s.nextPosting p ps).1) := by
  rw [settleLoop, h]

/-- With as much fuel as postings, none is left. -/
theorem settleLoop_outbox (n : Nat) (s : State) (h : s.port.outbox.length ≤ n) :
    (settleLoop n s).port.outbox = [] := by
  induction n generalizing s with
  | zero => simpa [settleLoop] using h
  | succ n ih =>
    cases e : s.port.outbox with
    | nil => rw [settleLoop, e]; exact e
    | cons p ps =>
      rw [settleLoop_cons n s p ps e]
      refine ih _ ?_
      rw [offer_port_outbox]
      have len := nextPosting_length p ps s
      rw [e, List.length_cons] at h
      show (s.nextPosting p ps).2.1.length ≤ n
      rw [len]
      omega

/-- After a step no event waits to be offered. -/
@[simp] theorem settle_outbox (s : State) : s.settle.port.outbox = [] := settleLoop_outbox _ s (Nat.le_refl _)

/-- With nothing posted, the end of a step changes nothing. -/
theorem settle_nil (s : State) (h : s.port.outbox = []) : s.settle = s := by
  simp [State.settle, h, settleLoop]

/-- One event posted is offered. -/
theorem settle_single (s : State) (p : Posting) (h : s.port.outbox = [p]) :
    s.settle = { s with port.outbox := [] }.offer p := by
  have : s.nextPosting p [] = (p, [], s) := by
    simp [State.nextPosting, lanesOf, State.choose, dropFirst]
  simp [State.settle, h, settleLoop, this]

/-! ## Time (R1, R9) -/


@[simp] theorem advance_pins (s : State) (d : Nat) : (s.advance d).pins = s.pins := by
  unfold State.advance; split <;> rfl

@[simp] theorem advance_roster (s : State) (d : Nat) : (s.advance d).roster = s.roster := by
  unfold State.advance; split <;> rfl

@[simp] theorem advance_solver (s : State) (d : Nat) : (s.advance d).solver = s.solver := by
  unfold State.advance; split <;> rfl

@[simp] theorem advance_temp (s : State) (d : Nat) : (s.advance d).temp = s.temp := by
  unfold State.advance; split <;> rfl

@[simp] theorem advance_port (s : State) (d : Nat) : (s.advance d).port = s.port := by
  unfold State.advance; split <;> rfl

@[simp] theorem advance_freeCount (s : State) (d : Nat) : (s.advance d).freeCount = s.freeCount := by
  unfold State.advance; split <;> rfl

@[simp] theorem advance_pending (s : State) (d : Nat) : (s.advance d).pending = s.pending := by
  unfold State.advance; split <;> rfl

@[simp] theorem advance_ts_base (s : State) (d : Nat) : (s.advance d).ts.base = s.ts.base := by
  unfold State.advance; split <;> rfl

@[simp] theorem advance_ts_len (s : State) (d : Nat) : (s.advance d).ts.len = s.ts.len := by
  unfold State.advance; split <;> rfl

@[simp] theorem advance_ts_epoch (s : State) (d : Nat) : (s.advance d).ts.epoch = s.ts.epoch := by
  unfold State.advance; split <;> rfl

@[simp] theorem advance_ts_f (s : State) (d : Nat) : (s.advance d).ts.f = s.ts.f := by
  unfold State.advance; split <;> rfl

@[simp] theorem advance_ts_c (s : State) (d : Nat) : (s.advance d).ts.c = s.ts.c := by
  unfold State.advance; split <;> rfl

@[simp] theorem advance_ts_pendF (s : State) (d : Nat) : (s.advance d).ts.pendF = s.ts.pendF := by
  unfold State.advance; split <;> rfl

@[simp] theorem advance_ts_pendC (s : State) (d : Nat) : (s.advance d).ts.pendC = s.ts.pendC := by
  unfold State.advance; split <;> rfl

@[simp] theorem advance_ts_carry (s : State) (d : Nat) : (s.advance d).ts.carry = s.ts.carry := by
  unfold State.advance; split <;> rfl

@[simp] theorem advance_ts_pendStep (s : State) (d : Nat) : (s.advance d).ts.pendStep = s.ts.pendStep := by
  unfold State.advance; split <;> rfl

@[simp] theorem advance_ts_pendAdopt (s : State) (d : Nat) : (s.advance d).ts.pendAdopt = s.ts.pendAdopt := by
  unfold State.advance; split <;> rfl

@[simp] theorem advance_ts_replay (s : State) (d : Nat) : (s.advance d).ts.replay = s.ts.replay := by
  unfold State.advance; split <;> rfl

@[simp] theorem advance_ts_stepBegan (s : State) (d : Nat) : (s.advance d).ts.stepBegan = s.ts.stepBegan := by
  unfold State.advance; split <;> rfl

@[simp] theorem advance_ts_groupA (s : State) (d : Nat) : (s.advance d).ts.groupA = s.ts.groupA := by
  unfold State.advance; split <;> rfl

@[simp] theorem advance_ts_groupB (s : State) (d : Nat) : (s.advance d).ts.groupB = s.ts.groupB := by
  unfold State.advance; split <;> rfl

@[simp] theorem advance_ts_raised (s : State) (d : Nat) : (s.advance d).ts.raised = s.ts.raised := by
  unfold State.advance; split <;> rfl

@[simp] theorem advance_mem_nodeId (s : State) (d : Nat) : (s.advance d).mem.nodeId = s.mem.nodeId := by
  unfold State.advance; split <;> rfl

@[simp] theorem advance_mem_state (s : State) (d : Nat) : (s.advance d).mem.state = s.mem.state := by
  unfold State.advance; split <;> rfl

@[simp] theorem advance_mem_reasonCommand (s : State) (d : Nat) : (s.advance d).mem.reasonCommand = s.mem.reasonCommand := by
  unfold State.advance; split <;> rfl

@[simp] theorem advance_mem_reasonSupply (s : State) (d : Nat) : (s.advance d).mem.reasonSupply = s.mem.reasonSupply := by
  unfold State.advance; split <;> rfl

@[simp] theorem advance_mem_quietCount (s : State) (d : Nat) : (s.advance d).mem.quietCount = s.mem.quietCount := by
  unfold State.advance; split <;> rfl

@[simp] theorem advance_mem_heard (s : State) (d : Nat) : (s.advance d).mem.heard = s.mem.heard := by
  unfold State.advance; split <;> rfl

@[simp] theorem advance_mem_frameRecord (s : State) (d : Nat) : (s.advance d).mem.frameRecord = s.mem.frameRecord := by
  unfold State.advance; split <;> rfl

@[simp] theorem advance_mem_closedRecord (s : State) (d : Nat) : (s.advance d).mem.closedRecord = s.mem.closedRecord := by
  unfold State.advance; split <;> rfl

@[simp] theorem advance_mem_trainStart (s : State) (d : Nat) : (s.advance d).mem.trainStart = s.mem.trainStart := by
  unfold State.advance; split <;> rfl

@[simp] theorem advance_mem_history (s : State) (d : Nat) : (s.advance d).mem.history = s.mem.history := by
  unfold State.advance; split <;> rfl

@[simp] theorem advance_mem_newest (s : State) (d : Nat) : (s.advance d).mem.newest = s.mem.newest := by
  unfold State.advance; split <;> rfl

@[simp] theorem advance_mem_aligningCount (s : State) (d : Nat) : (s.advance d).mem.aligningCount = s.mem.aligningCount := by
  unfold State.advance; split <;> rfl

@[simp] theorem advance_mem_emptyCount (s : State) (d : Nat) : (s.advance d).mem.emptyCount = s.mem.emptyCount := by
  unfold State.advance; split <;> rfl

@[simp] theorem advance_mem_joinSenders (s : State) (d : Nat) : (s.advance d).mem.joinSenders = s.mem.joinSenders := by
  unfold State.advance; split <;> rfl

@[simp] theorem advance_mem_joinHeard (s : State) (d : Nat) : (s.advance d).mem.joinHeard = s.mem.joinHeard := by
  unfold State.advance; split <;> rfl

@[simp] theorem advance_mem_joinCounter (s : State) (d : Nat) : (s.advance d).mem.joinCounter = s.mem.joinCounter := by
  unfold State.advance; split <;> rfl

@[simp] theorem advance_mem_joinQuiet (s : State) (d : Nat) : (s.advance d).mem.joinQuiet = s.mem.joinQuiet := by
  unfold State.advance; split <;> rfl

@[simp] theorem advance_mem_evidenceThis (s : State) (d : Nat) : (s.advance d).mem.evidenceThis = s.mem.evidenceThis := by
  unfold State.advance; split <;> rfl

@[simp] theorem advance_mem_evidenceLast (s : State) (d : Nat) : (s.advance d).mem.evidenceLast = s.mem.evidenceLast := by
  unfold State.advance; split <;> rfl

@[simp] theorem advance_mem_adoptionOutstanding (s : State) (d : Nat) : (s.advance d).mem.adoptionOutstanding = s.mem.adoptionOutstanding := by
  unfold State.advance; split <;> rfl

@[simp] theorem advance_mem_supplyIsLow (s : State) (d : Nat) : (s.advance d).mem.supplyIsLow = s.mem.supplyIsLow := by
  unfold State.advance; split <;> rfl

@[simp] theorem advance_mark_capture (s : State) (d : Nat) : (s.advance d).mark.capture = s.mark.capture := by
  unfold State.advance; split <;> rfl

@[simp] theorem advance_mark_early (s : State) (d : Nat) : (s.advance d).mark.early = s.mark.early := by
  unfold State.advance; split <;> rfl

@[simp] theorem advance_mark_earlyOwn (s : State) (d : Nat) : (s.advance d).mark.earlyOwn = s.mark.earlyOwn := by
  unfold State.advance; split <;> rfl

@[simp] theorem advance_mark_echo (s : State) (d : Nat) : (s.advance d).mark.echo = s.mark.echo := by
  unfold State.advance; split <;> rfl

@[simp] theorem advance_mark_evidence (s : State) (d : Nat) : (s.advance d).mark.evidence = s.mark.evidence := by
  unfold State.advance; split <;> rfl

@[simp] theorem advance_mark_strayCount (s : State) (d : Nat) : (s.advance d).mark.strayCount = s.mark.strayCount := by
  unfold State.advance; split <;> rfl

@[simp] theorem advance_mark_contestedCount (s : State) (d : Nat) : (s.advance d).mark.contestedCount = s.mark.contestedCount := by
  unfold State.advance; split <;> rfl

@[simp] theorem advance_mark_strayEpoch (s : State) (d : Nat) : (s.advance d).mark.strayEpoch = s.mark.strayEpoch := by
  unfold State.advance; split <;> rfl

@[simp] theorem advance_mark_fault (s : State) (d : Nat) : (s.advance d).mark.fault = s.mark.fault := by
  unfold State.advance; split <;> rfl

@[simp] theorem advance_frame_windowOpen (s : State) (d : Nat) : (s.advance d).frame.windowOpen = s.frame.windowOpen := by
  unfold State.advance; split <;> rfl

@[simp] theorem advance_frame_talk (s : State) (d : Nat) : (s.advance d).frame.talk = s.frame.talk := by
  unfold State.advance; split <;> rfl

@[simp] theorem advance_frame_leave (s : State) (d : Nat) : (s.advance d).frame.leave = s.frame.leave := by
  unfold State.advance; split <;> rfl

@[simp] theorem advance_frame_inFlight (s : State) (d : Nat) : (s.advance d).frame.inFlight = s.frame.inFlight := by
  unfold State.advance; split <;> rfl

@[simp] theorem advance_frame_tx (s : State) (d : Nat) : (s.advance d).frame.tx = s.frame.tx := by
  unfold State.advance; split <;> rfl

@[simp] theorem advance_frame_txBits (s : State) (d : Nat) : (s.advance d).frame.txBits = s.frame.txBits := by
  unfold State.advance; split <;> rfl

@[simp] theorem advance_frame_txPos (s : State) (d : Nat) : (s.advance d).frame.txPos = s.frame.txPos := by
  unfold State.advance; split <;> rfl

@[simp] theorem advance_frame_txRead (s : State) (d : Nat) : (s.advance d).frame.txRead = s.frame.txRead := by
  unfold State.advance; split <;> rfl

@[simp] theorem advance_frame_txDriving (s : State) (d : Nat) : (s.advance d).frame.txDriving = s.frame.txDriving := by
  unfold State.advance; split <;> rfl

@[simp] theorem advance_frame_rx (s : State) (d : Nat) : (s.advance d).frame.rx = s.frame.rx := by
  unfold State.advance; split <;> rfl

@[simp] theorem advance_frame_rxBits (s : State) (d : Nat) : (s.advance d).frame.rxBits = s.frame.rxBits := by
  unfold State.advance; split <;> rfl

@[simp] theorem advance_frame_rxRun (s : State) (d : Nat) : (s.advance d).frame.rxRun = s.frame.rxRun := by
  unfold State.advance; split <;> rfl

@[simp] theorem advance_frame_rxOwn (s : State) (d : Nat) : (s.advance d).frame.rxOwn = s.frame.rxOwn := by
  unfold State.advance; split <;> rfl

@[simp] theorem advance_frame_receipt (s : State) (d : Nat) : (s.advance d).frame.receipt = s.frame.receipt := by
  unfold State.advance; split <;> rfl

@[simp] theorem advance_frame_collision (s : State) (d : Nat) : (s.advance d).frame.collision = s.frame.collision := by
  unfold State.advance; split <;> rfl

@[simp] theorem advance_frame_returnedTalk (s : State) (d : Nat) : (s.advance d).frame.returnedTalk = s.frame.returnedTalk := by
  unfold State.advance; split <;> rfl

@[simp] theorem advance_frame_returnedLeave (s : State) (d : Nat) : (s.advance d).frame.returnedLeave = s.frame.returnedLeave := by
  unfold State.advance; split <;> rfl

@[simp] theorem advance_frame_leaveVoid (s : State) (d : Nat) : (s.advance d).frame.leaveVoid = s.frame.leaveVoid := by
  unfold State.advance; split <;> rfl

@[simp] theorem advance_frame_crcErrors (s : State) (d : Nat) : (s.advance d).frame.crcErrors = s.frame.crcErrors := by
  unfold State.advance; split <;> rfl

@[simp] theorem advance_frame_formatErrors (s : State) (d : Nat) : (s.advance d).frame.formatErrors = s.frame.formatErrors := by
  unfold State.advance; split <;> rfl

@[simp] theorem advance_frame_truncatedErrors (s : State) (d : Nat) : (s.advance d).frame.truncatedErrors = s.frame.truncatedErrors := by
  unfold State.advance; split <;> rfl

@[simp] theorem advance_frame_epochErrors (s : State) (d : Nat) : (s.advance d).frame.epochErrors = s.frame.epochErrors := by
  unfold State.advance; split <;> rfl

@[simp] theorem advance_frame_unsent (s : State) (d : Nat) : (s.advance d).frame.unsent = s.frame.unsent := by
  unfold State.advance; split <;> rfl

@[simp] theorem advance_frame_errorEpoch (s : State) (d : Nat) : (s.advance d).frame.errorEpoch = s.frame.errorEpoch := by
  unfold State.advance; split <;> rfl

@[simp] theorem advance_frame_fault (s : State) (d : Nat) : (s.advance d).frame.fault = s.frame.fault := by
  unfold State.advance; split <;> rfl

@[simp] theorem advance_ref_state (s : State) (d : Nat) : (s.advance d).ref.state = s.ref.state := by
  unfold State.advance; split <;> rfl

@[simp] theorem advance_ref_probCount (s : State) (d : Nat) : (s.advance d).ref.probCount = s.ref.probCount := by
  unfold State.advance; split <;> rfl

@[simp] theorem advance_ref_missCount (s : State) (d : Nat) : (s.advance d).ref.missCount = s.ref.missCount := by
  unfold State.advance; split <;> rfl

@[simp] theorem advance_ref_outliers (s : State) (d : Nat) : (s.advance d).ref.outliers = s.ref.outliers := by
  unfold State.advance; split <;> rfl

@[simp] theorem advance_ref_ring (s : State) (d : Nat) : (s.advance d).ref.ring = s.ref.ring := by
  unfold State.advance; split <;> rfl

@[simp] theorem advance_ref_tally (s : State) (d : Nat) : (s.advance d).ref.tally = s.ref.tally := by
  unfold State.advance; split <;> rfl

@[simp] theorem advance_ref_interval (s : State) (d : Nat) : (s.advance d).ref.interval = s.ref.interval := by
  unfold State.advance; split <;> rfl

@[simp] theorem advance_ref_record (s : State) (d : Nat) : (s.advance d).ref.record = s.ref.record := by
  unfold State.advance; split <;> rfl

@[simp] theorem advance_gen_timeValid (s : State) (d : Nat) : (s.advance d).gen.timeValid = s.gen.timeValid := by
  unfold State.advance; split <;> rfl

@[simp] theorem advance_gen_inForce (s : State) (d : Nat) : (s.advance d).gen.inForce = s.gen.inForce := by
  unfold State.advance; split <;> rfl

@[simp] theorem advance_gen_filtered (s : State) (d : Nat) : (s.advance d).gen.filtered = s.gen.filtered := by
  unfold State.advance; split <;> rfl

/-- With the clock stopped or a reset held, no time passes (R1). -/
theorem advance_stopped (s : State) (d : Nat) (h : s.running = false) : s.advance d = s := by
  simp [State.advance, h]

/-- The events of a timer: it expires, or nothing happens. -/
theorem atExpiry_cases (r : Option Nat) (f : State → State) (s : State) :
    s.atExpiry r f = s ∨ ∃ n, r = some n ∧ s.dueWithin n = true ∧
      s.atExpiry r f = f (s.runTo (s.ts.sitePhase + n)) := by
  unfold State.atExpiry
  split
  · split
    · rename_i n h; exact Or.inr ⟨n, rfl, h, rfl⟩
    · exact Or.inl rfl
  · exact Or.inl rfl

/-- A timer that is due expires. -/
theorem atExpiry_due (n : Nat) (f : State → State) (s : State) (h : s.dueWithin n = true) :
    s.atExpiry (some n) f = f (s.runTo (s.ts.sitePhase + n)) := by
  simp [State.atExpiry, h]

/-- A point is raised, or nothing happens. -/
theorem atPoint_cases (p : PhasePoint) (f : State → State) (s : State) :
    s.atPoint p f = s ∨ (s.pointDue p = true ∧ s.atPoint p f = f (s.raise p)) := by
  unfold State.atPoint
  split
  · rename_i h; exact Or.inr ⟨h, rfl⟩
  · exact Or.inl rfl

/-- A point that is due is raised. -/
theorem atPoint_due (p : PhasePoint) (f : State → State) (s : State) (h : s.pointDue p = true) :
    s.atPoint p f = f (s.raise p) := by
  unfold State.atPoint; rw [if_pos h]

/-- A command is taken at the rise of CSN, or there is no transaction. -/
theorem atRise_cases (d : Nat) (f : State → State) (s : State) :
    (s.port.transaction = none ∧ s.atRise d f = s.advance d) ∨
      (s.port.transaction.isSome = true ∧ s.atRise d f = f { s.advance d with port.transaction := none, port.sdo := none }) := by
  unfold State.atRise
  simp only [advance_port]
  cases s.port.transaction with
  | none => exact Or.inl ⟨rfl, rfl⟩
  | some x => exact Or.inr ⟨rfl, rfl⟩

/-- A command is taken at the rise of CSN. -/
theorem atRise_some (d : Nat) (f : State → State) (s : State) (x : Slot) (h : s.port.transaction = some x) :
    s.atRise d f = f { s.advance d with port.transaction := none, port.sdo := none } := by
  simp [State.atRise, h]

end Sys2Proof.Machine
end

