-- ==== Sys2Proof/Laws/Blocks.lean ====
section
/-! SUPPORT. What each operation of the blocks leaves alone, one lemma for an operation: a proof about a command
rewrites with these and does not unfold the operation. -/

namespace Sys2Proof.Machine

open Sys2Proof

/-- What the raising of a phase point keeps: time runs on, and nothing else happens. -/
@[simp] theorem raise_keeps (p : PhasePoint) (s : State) :
    (s.raise p).pins = s.pins ∧ (s.raise p).roster = s.roster ∧ (s.raise p).solver = s.solver ∧
    (s.raise p).temp = s.temp ∧ (s.raise p).port = s.port ∧ (s.raise p).freeCount = s.freeCount ∧
    (s.raise p).pending = s.pending ∧ (s.raise p).ts.base = s.ts.base ∧ (s.raise p).ts.len = s.ts.len ∧
    (s.raise p).ts.epoch = s.ts.epoch ∧ (s.raise p).ts.f = s.ts.f ∧ (s.raise p).ts.c = s.ts.c ∧
    (s.raise p).ts.pendF = s.ts.pendF ∧ (s.raise p).ts.pendC = s.ts.pendC ∧ (s.raise p).ts.carry = s.ts.carry ∧
    (s.raise p).ts.pendStep = s.ts.pendStep ∧ (s.raise p).ts.pendAdopt = s.ts.pendAdopt ∧
    (s.raise p).ts.replay = s.ts.replay ∧ (s.raise p).ts.stepBegan = s.ts.stepBegan ∧
    (s.raise p).ts.groupA = s.ts.groupA ∧ (s.raise p).ts.groupB = s.ts.groupB ∧
    (s.raise p).mem.nodeId = s.mem.nodeId ∧ (s.raise p).mem.state = s.mem.state ∧
    (s.raise p).mem.reasonCommand = s.mem.reasonCommand ∧ (s.raise p).mem.reasonSupply = s.mem.reasonSupply ∧
    (s.raise p).mem.quietCount = s.mem.quietCount ∧ (s.raise p).mem.heard = s.mem.heard ∧
    (s.raise p).mem.frameRecord = s.mem.frameRecord ∧ (s.raise p).mem.closedRecord = s.mem.closedRecord ∧
    (s.raise p).mem.trainStart = s.mem.trainStart ∧ (s.raise p).mem.history = s.mem.history ∧
    (s.raise p).mem.newest = s.mem.newest ∧ (s.raise p).mem.aligningCount = s.mem.aligningCount ∧
    (s.raise p).mem.emptyCount = s.mem.emptyCount ∧ (s.raise p).mem.joinSenders = s.mem.joinSenders ∧
    (s.raise p).mem.joinHeard = s.mem.joinHeard ∧ (s.raise p).mem.joinCounter = s.mem.joinCounter ∧
    (s.raise p).mem.joinQuiet = s.mem.joinQuiet ∧ (s.raise p).mem.evidenceThis = s.mem.evidenceThis ∧
    (s.raise p).mem.evidenceLast = s.mem.evidenceLast ∧
    (s.raise p).mem.adoptionOutstanding = s.mem.adoptionOutstanding ∧
    (s.raise p).mem.supplyIsLow = s.mem.supplyIsLow ∧ (s.raise p).mark.capture = s.mark.capture ∧
    (s.raise p).mark.early = s.mark.early ∧ (s.raise p).mark.earlyOwn = s.mark.earlyOwn ∧
    (s.raise p).mark.echo = s.mark.echo ∧ (s.raise p).mark.evidence = s.mark.evidence ∧
    (s.raise p).mark.strayCount = s.mark.strayCount ∧ (s.raise p).mark.contestedCount = s.mark.contestedCount ∧
    (s.raise p).mark.strayEpoch = s.mark.strayEpoch ∧ (s.raise p).mark.fault = s.mark.fault ∧
    (s.raise p).frame.windowOpen = s.frame.windowOpen ∧ (s.raise p).frame.talk = s.frame.talk ∧
    (s.raise p).frame.leave = s.frame.leave ∧ (s.raise p).frame.inFlight = s.frame.inFlight ∧
    (s.raise p).frame.tx = s.frame.tx ∧ (s.raise p).frame.txBits = s.frame.txBits ∧
    (s.raise p).frame.txPos = s.frame.txPos ∧ (s.raise p).frame.txRead = s.frame.txRead ∧
    (s.raise p).frame.txDriving = s.frame.txDriving ∧ (s.raise p).frame.rx = s.frame.rx ∧
    (s.raise p).frame.rxBits = s.frame.rxBits ∧ (s.raise p).frame.rxRun = s.frame.rxRun ∧
    (s.raise p).frame.receipt = s.frame.receipt ∧ (s.raise p).frame.collision = s.frame.collision ∧
    (s.raise p).frame.returnedTalk = s.frame.returnedTalk ∧
    (s.raise p).frame.returnedLeave = s.frame.returnedLeave ∧ (s.raise p).frame.leaveVoid = s.frame.leaveVoid ∧
    (s.raise p).frame.crcErrors = s.frame.crcErrors ∧ (s.raise p).frame.formatErrors = s.frame.formatErrors ∧
    (s.raise p).frame.truncatedErrors = s.frame.truncatedErrors ∧
    (s.raise p).frame.epochErrors = s.frame.epochErrors ∧ (s.raise p).frame.unsent = s.frame.unsent ∧
    (s.raise p).frame.errorEpoch = s.frame.errorEpoch ∧ (s.raise p).frame.fault = s.frame.fault ∧
    (s.raise p).ref.state = s.ref.state ∧ (s.raise p).ref.probCount = s.ref.probCount ∧
    (s.raise p).ref.missCount = s.ref.missCount ∧ (s.raise p).ref.outliers = s.ref.outliers ∧
    (s.raise p).ref.ring = s.ref.ring ∧ (s.raise p).ref.tally = s.ref.tally ∧
    (s.raise p).ref.interval = s.ref.interval ∧ (s.raise p).ref.record = s.ref.record ∧
    (s.raise p).gen.timeValid = s.gen.timeValid ∧ (s.raise p).gen.inForce = s.gen.inForce ∧
    (s.raise p).gen.filtered = s.gen.filtered := by
  and_intros <;> rfl

/-- A raised point stands among those raised. -/
@[simp] theorem raise_raised (p : PhasePoint) (s : State) : (s.raise p).ts.raised = p :: s.ts.raised := rfl

/-- What `wordFalls` keeps. -/
@[simp] theorem wordFalls_keeps (s : State) :
    s.wordFalls.ts = s.ts ∧ s.wordFalls.ref = s.ref ∧ s.wordFalls.mark = s.mark ∧ s.wordFalls.mem = s.mem ∧
    s.wordFalls.roster = s.roster ∧ s.wordFalls.solver = s.solver ∧ s.wordFalls.temp = s.temp ∧
    s.wordFalls.gen = s.gen ∧ s.wordFalls.port = s.port ∧ s.wordFalls.freeCount = s.freeCount ∧
    s.wordFalls.pending = s.pending ∧ s.wordFalls.pins.oscRunning = s.pins.oscRunning ∧
    s.wordFalls.pins.resetHeld = s.pins.resetHeld ∧ s.wordFalls.pins.refin = s.pins.refin ∧
    s.wordFalls.pins.refvalid = s.pins.refvalid ∧ s.wordFalls.pins.refinPin = s.pins.refinPin ∧
    s.wordFalls.pins.refvalidPin = s.pins.refvalidPin ∧ s.wordFalls.pins.inhibitPin = s.pins.inhibitPin ∧
    s.wordFalls.pins.mark = s.pins.mark ∧
    s.wordFalls.pins.supply = s.pins.supply ∧ s.wordFalls.pins.inhibit = s.pins.inhibit ∧
    s.wordFalls.frame.talk = s.frame.talk ∧ s.wordFalls.frame.leave = s.frame.leave ∧
    s.wordFalls.frame.windowOpen = s.frame.windowOpen ∧ s.wordFalls.frame.tx = s.frame.tx ∧
    s.wordFalls.frame.txAge = s.frame.txAge ∧ s.wordFalls.frame.inFlight = s.frame.inFlight ∧
    s.wordFalls.frame.receipt = s.frame.receipt ∧ s.wordFalls.frame.fault = s.frame.fault := by
  and_intros <;> (simp only [State.wordFalls, FrameUnit.takeFall]; (repeat' split) <;> rfl)

/-- What `pullWord` keeps. -/
@[simp] theorem pullWord_keeps (s : State) :
    s.pullWord.ts = s.ts ∧ s.pullWord.ref = s.ref ∧ s.pullWord.mark = s.mark ∧ s.pullWord.mem = s.mem ∧
    s.pullWord.roster = s.roster ∧ s.pullWord.solver = s.solver ∧ s.pullWord.temp = s.temp ∧
    s.pullWord.gen = s.gen ∧ s.pullWord.port = s.port ∧ s.pullWord.freeCount = s.freeCount ∧
    s.pullWord.pending = s.pending ∧ s.pullWord.pins.oscRunning = s.pins.oscRunning ∧
    s.pullWord.pins.resetHeld = s.pins.resetHeld ∧ s.pullWord.pins.refin = s.pins.refin ∧
    s.pullWord.pins.refvalid = s.pins.refvalid ∧ s.pullWord.pins.refinPin = s.pins.refinPin ∧
    s.pullWord.pins.refvalidPin = s.pins.refvalidPin ∧ s.pullWord.pins.inhibitPin = s.pins.inhibitPin ∧
    s.pullWord.pins.mark = s.pins.mark ∧
    s.pullWord.pins.supply = s.pins.supply ∧ s.pullWord.pins.inhibit = s.pins.inhibit ∧
    s.pullWord.frame.talk = s.frame.talk ∧ s.pullWord.frame.leave = s.frame.leave ∧
    s.pullWord.frame.windowOpen = s.frame.windowOpen ∧ s.pullWord.frame.tx = s.frame.tx ∧
    s.pullWord.frame.txAge = s.frame.txAge ∧ s.pullWord.frame.inFlight = s.frame.inFlight ∧
    s.pullWord.frame.receipt = s.frame.receipt ∧ s.pullWord.frame.fault = s.frame.fault := by
  and_intros <;> (unfold State.pullWord; dsimp only; split <;> simp)

/-- What `startFrame` keeps. -/
@[simp] theorem startFrame_keeps (s : State) (w : InFlight) (f : Frame) :
    (s.startFrame w f).ts = s.ts ∧ (s.startFrame w f).ref = s.ref ∧ (s.startFrame w f).mark = s.mark ∧
    (s.startFrame w f).mem = s.mem ∧ (s.startFrame w f).roster = s.roster ∧
    (s.startFrame w f).solver = s.solver ∧ (s.startFrame w f).temp = s.temp ∧ (s.startFrame w f).gen = s.gen ∧
    (s.startFrame w f).port = s.port ∧ (s.startFrame w f).freeCount = s.freeCount ∧
    (s.startFrame w f).pending = s.pending ∧ (s.startFrame w f).pins.oscRunning = s.pins.oscRunning ∧
    (s.startFrame w f).pins.resetHeld = s.pins.resetHeld ∧ (s.startFrame w f).pins.refin = s.pins.refin ∧
    (s.startFrame w f).pins.refvalid = s.pins.refvalid ∧ (s.startFrame w f).pins.refinPin = s.pins.refinPin ∧
    (s.startFrame w f).pins.refvalidPin = s.pins.refvalidPin ∧
    (s.startFrame w f).pins.inhibitPin = s.pins.inhibitPin ∧ (s.startFrame w f).pins.mark = s.pins.mark ∧
    (s.startFrame w f).pins.supply = s.pins.supply ∧ (s.startFrame w f).pins.inhibit = s.pins.inhibit ∧
    (s.startFrame w f).frame.talk = s.frame.talk ∧ (s.startFrame w f).frame.leave = s.frame.leave ∧
    (s.startFrame w f).frame.windowOpen = s.frame.windowOpen ∧
    (s.startFrame w f).frame.receipt = s.frame.receipt ∧ (s.startFrame w f).frame.fault = s.frame.fault := by
  and_intros <;> (unfold State.startFrame; dsimp only; split <;> simp [FrameUnit.startBit])

/-- What `tryStart` keeps. -/
@[simp] theorem tryStart_keeps (s : State) :
    s.tryStart.ts = s.ts ∧ s.tryStart.ref = s.ref ∧ s.tryStart.mark = s.mark ∧ s.tryStart.mem = s.mem ∧
    s.tryStart.roster = s.roster ∧ s.tryStart.solver = s.solver ∧ s.tryStart.temp = s.temp ∧
    s.tryStart.gen = s.gen ∧ s.tryStart.port = s.port ∧ s.tryStart.freeCount = s.freeCount ∧
    s.tryStart.pending = s.pending ∧ s.tryStart.pins.oscRunning = s.pins.oscRunning ∧
    s.tryStart.pins.resetHeld = s.pins.resetHeld ∧ s.tryStart.pins.refin = s.pins.refin ∧
    s.tryStart.pins.refvalid = s.pins.refvalid ∧ s.tryStart.pins.refinPin = s.pins.refinPin ∧
    s.tryStart.pins.refvalidPin = s.pins.refvalidPin ∧ s.tryStart.pins.inhibitPin = s.pins.inhibitPin ∧
    s.tryStart.pins.mark = s.pins.mark ∧
    s.tryStart.pins.supply = s.pins.supply ∧ s.tryStart.pins.inhibit = s.pins.inhibit ∧
    s.tryStart.frame.talk = s.frame.talk ∧ s.tryStart.frame.leave = s.frame.leave ∧
    s.tryStart.frame.windowOpen = s.frame.windowOpen ∧ s.tryStart.frame.receipt = s.frame.receipt ∧
    s.tryStart.frame.fault = s.frame.fault := by
  and_intros <;> (unfold State.tryStart; (repeat' split) <;> simp)

/-- All that `withoutTalkStart` can do: nothing, or let the line go. -/
theorem withoutTalkStart_cases (s : State) :
    s.withoutTalkStart = s.frame ∨ s.withoutTalkStart = s.frame.release := by
  unfold State.withoutTalkStart
  split
  · exact Or.inr rfl
  · exact Or.inl rfl

/-- A talk frame in flight goes on, unless the window opens at this very instant (R71). -/
theorem withoutTalkStart_later (s : State) (h : s.talkOpensNow = false) : s.withoutTalkStart = s.frame := by
  simp [State.withoutTalkStart, h]

/-- What `withoutTalkStart` keeps. -/
@[simp] theorem withoutTalkStart_keeps (s : State) :
    s.withoutTalkStart.windowOpen = s.frame.windowOpen ∧ s.withoutTalkStart.receipt = s.frame.receipt ∧
    s.withoutTalkStart.fault = s.frame.fault ∧ s.withoutTalkStart.talk = s.frame.talk ∧
    s.withoutTalkStart.leave = s.frame.leave ∧ s.withoutTalkStart.rx = s.frame.rx ∧
    s.withoutTalkStart.idleTimer = s.frame.idleTimer ∧ s.withoutTalkStart.lowTimer = s.frame.lowTimer := by
  rcases withoutTalkStart_cases s with h | h <;> rw [h] <;> simp [FrameUnit.release]

/-- What `requestLeave` keeps. -/
@[simp] theorem requestLeave_keeps (s : State) (r : LeaveReason) :
    (s.requestLeave r).ts = s.ts ∧ (s.requestLeave r).ref = s.ref ∧ (s.requestLeave r).mark = s.mark ∧
    (s.requestLeave r).mem = s.mem ∧ (s.requestLeave r).roster = s.roster ∧
    (s.requestLeave r).solver = s.solver ∧ (s.requestLeave r).temp = s.temp ∧ (s.requestLeave r).gen = s.gen ∧
    (s.requestLeave r).port = s.port ∧ (s.requestLeave r).freeCount = s.freeCount ∧
    (s.requestLeave r).pending = s.pending ∧ (s.requestLeave r).pins.oscRunning = s.pins.oscRunning ∧
    (s.requestLeave r).pins.resetHeld = s.pins.resetHeld ∧ (s.requestLeave r).pins.refin = s.pins.refin ∧
    (s.requestLeave r).pins.refvalid = s.pins.refvalid ∧ (s.requestLeave r).pins.refinPin = s.pins.refinPin ∧
    (s.requestLeave r).pins.refvalidPin = s.pins.refvalidPin ∧
    (s.requestLeave r).pins.inhibitPin = s.pins.inhibitPin ∧ (s.requestLeave r).pins.mark = s.pins.mark ∧
    (s.requestLeave r).pins.supply = s.pins.supply ∧ (s.requestLeave r).pins.inhibit = s.pins.inhibit ∧
    (s.requestLeave r).frame.windowOpen = s.frame.windowOpen ∧
    (s.requestLeave r).frame.receipt = s.frame.receipt ∧ (s.requestLeave r).frame.fault = s.frame.fault := by
  and_intros <;> (unfold State.requestLeave; simp [FrameUnit.discardTalk])

/-- What `clearRoster` keeps. -/
@[simp] theorem clearRoster_keeps (s : State) :
    s.clearRoster.pins = s.pins ∧ s.clearRoster.ts = s.ts ∧ s.clearRoster.ref = s.ref ∧
    s.clearRoster.mark = s.mark ∧ s.clearRoster.frame = s.frame ∧ s.clearRoster.mem = s.mem ∧
    s.clearRoster.temp = s.temp ∧ s.clearRoster.gen = s.gen ∧ s.clearRoster.port = s.port ∧
    s.clearRoster.freeCount = s.freeCount ∧ s.clearRoster.pending = s.pending ∧
    s.clearRoster.roster.adoptionOutstanding = s.roster.adoptionOutstanding ∧
    s.clearRoster.solver.timing = s.solver.timing ∧ s.clearRoster.solver.target = s.solver.target ∧
    s.clearRoster.solver.validTime = s.solver.validTime ∧ s.clearRoster.solver.stateHeld = s.solver.stateHeld ∧
    s.clearRoster.solver.steerF = s.solver.steerF ∧ s.clearRoster.solver.bound = s.solver.bound ∧
    s.clearRoster.solver.overBudget = s.solver.overBudget ∧
    s.clearRoster.solver.timeValid = s.solver.timeValid := by
  and_intros <;> (simp [State.clearRoster, Solver.forget])

/-- What `dropEntry` keeps. -/
@[simp] theorem dropEntry_keeps (s : State) (k : NodeId) :
    (s.dropEntry k).pins = s.pins ∧ (s.dropEntry k).ts = s.ts ∧ (s.dropEntry k).ref = s.ref ∧
    (s.dropEntry k).mark = s.mark ∧ (s.dropEntry k).frame = s.frame ∧ (s.dropEntry k).mem = s.mem ∧
    (s.dropEntry k).temp = s.temp ∧ (s.dropEntry k).gen = s.gen ∧ (s.dropEntry k).port = s.port ∧
    (s.dropEntry k).freeCount = s.freeCount ∧ (s.dropEntry k).pending = s.pending ∧
    (s.dropEntry k).roster.adoptionOutstanding = s.roster.adoptionOutstanding ∧
    (s.dropEntry k).roster.openingMask = s.roster.openingMask ∧ (s.dropEntry k).roster.diffs = s.roster.diffs ∧
    (s.dropEntry k).solver.timing = s.solver.timing ∧ (s.dropEntry k).solver.target = s.solver.target ∧
    (s.dropEntry k).solver.validTime = s.solver.validTime ∧
    (s.dropEntry k).solver.stateHeld = s.solver.stateHeld ∧ (s.dropEntry k).solver.steerF = s.solver.steerF ∧
    (s.dropEntry k).solver.bound = s.solver.bound ∧ (s.dropEntry k).solver.overBudget = s.solver.overBudget ∧
    (s.dropEntry k).solver.timeValid = s.solver.timeValid := by
  and_intros <;> (simp [State.dropEntry, Solver.forget])

/-- What `changeState` keeps. -/
@[simp] theorem changeState_keeps (s : State) (n : MembershipState) :
    (s.changeState n).pins = s.pins ∧ (s.changeState n).ts = s.ts ∧ (s.changeState n).ref = s.ref ∧
    (s.changeState n).temp = s.temp ∧ (s.changeState n).gen = s.gen ∧
    (s.changeState n).freeCount = s.freeCount ∧ (s.changeState n).pending = s.pending ∧
    (s.changeState n).mem.nodeId = s.mem.nodeId ∧ (s.changeState n).mem.reasonCommand = s.mem.reasonCommand ∧
    (s.changeState n).mem.reasonSupply = s.mem.reasonSupply ∧
    (s.changeState n).mem.supplyIsLow = s.mem.supplyIsLow ∧
    (s.changeState n).mem.supplyTimer = s.mem.supplyTimer ∧
    (s.changeState n).mem.adoptionOutstanding = s.mem.adoptionOutstanding ∧
    (s.changeState n).mark.fault = s.mark.fault ∧ (s.changeState n).mark.strayCount = s.mark.strayCount ∧
    (s.changeState n).mark.contestedCount = s.mark.contestedCount ∧
    (s.changeState n).mark.strayEpoch = s.mark.strayEpoch ∧ (s.changeState n).mark.lowTimer = s.mark.lowTimer ∧
    (s.changeState n).mark.recovery = s.mark.recovery ∧ (s.changeState n).mark.highTime = s.mark.highTime ∧
    (s.changeState n).mark.candidate = s.mark.candidate ∧
    (s.changeState n).frame.windowOpen = s.frame.windowOpen ∧
    (s.changeState n).frame.receipt = s.frame.receipt ∧ (s.changeState n).frame.fault = s.frame.fault ∧
    (s.changeState n).frame.unsent = s.frame.unsent ∧ (s.changeState n).frame.crcErrors = s.frame.crcErrors ∧
    (s.changeState n).frame.formatErrors = s.frame.formatErrors ∧
    (s.changeState n).frame.truncatedErrors = s.frame.truncatedErrors ∧
    (s.changeState n).frame.epochErrors = s.frame.epochErrors ∧
    (s.changeState n).frame.errorEpoch = s.frame.errorEpoch ∧
    (s.changeState n).frame.lowTimer = s.frame.lowTimer ∧
    (s.changeState n).frame.idleTimer = s.frame.idleTimer ∧ (s.changeState n).frame.rx = s.frame.rx ∧
    (s.changeState n).solver.timing = s.solver.timing ∧ (s.changeState n).solver.target = s.solver.target ∧
    (s.changeState n).solver.validTime = s.solver.validTime ∧
    (s.changeState n).solver.stateHeld = s.solver.stateHeld ∧
    (s.changeState n).solver.steerF = s.solver.steerF ∧ (s.changeState n).solver.bound = s.solver.bound ∧
    (s.changeState n).solver.overBudget = s.solver.overBudget ∧
    (s.changeState n).solver.timeValid = s.solver.timeValid ∧ (s.changeState n).port.record = s.port.record ∧
    (s.changeState n).port.transaction = s.port.transaction ∧ (s.changeState n).port.slot = s.port.slot ∧
    (s.changeState n).port.queue = s.port.queue ∧ (s.changeState n).port.nextSeq = s.port.nextSeq ∧
    (s.changeState n).port.lost = s.port.lost ∧ (s.changeState n).port.snapSkip = s.port.snapSkip ∧
    (s.changeState n).port.snapPost = s.port.snapPost ∧ (s.changeState n).port.sdo = s.port.sdo ∧
    (s.changeState n).roster.adoptionOutstanding = s.roster.adoptionOutstanding := by
  and_intros <;> (unfold State.changeState; dsimp only; split <;> simp [MarkUnit.stateChange, FrameUnit.stateChange] <;> (repeat' split) <;> rfl)

/-- What `enterListen` keeps. -/
@[simp] theorem enterListen_keeps (s : State) :
    s.enterListen.pins = s.pins ∧ s.enterListen.ts = s.ts ∧ s.enterListen.ref = s.ref ∧
    s.enterListen.temp = s.temp ∧ s.enterListen.gen = s.gen ∧ s.enterListen.freeCount = s.freeCount ∧
    s.enterListen.pending = s.pending ∧ s.enterListen.mem.nodeId = s.mem.nodeId ∧
    s.enterListen.mem.reasonCommand = s.mem.reasonCommand ∧
    s.enterListen.mem.reasonSupply = s.mem.reasonSupply ∧ s.enterListen.mem.supplyIsLow = s.mem.supplyIsLow ∧
    s.enterListen.mem.supplyTimer = s.mem.supplyTimer ∧
    s.enterListen.mem.adoptionOutstanding = s.mem.adoptionOutstanding ∧
    s.enterListen.mark.fault = s.mark.fault ∧ s.enterListen.mark.strayCount = s.mark.strayCount ∧
    s.enterListen.mark.contestedCount = s.mark.contestedCount ∧
    s.enterListen.mark.strayEpoch = s.mark.strayEpoch ∧ s.enterListen.mark.lowTimer = s.mark.lowTimer ∧
    s.enterListen.mark.recovery = s.mark.recovery ∧ s.enterListen.mark.highTime = s.mark.highTime ∧
    s.enterListen.mark.candidate = s.mark.candidate ∧ s.enterListen.frame.windowOpen = s.frame.windowOpen ∧
    s.enterListen.frame.receipt = s.frame.receipt ∧ s.enterListen.frame.fault = s.frame.fault ∧
    s.enterListen.frame.unsent = s.frame.unsent ∧ s.enterListen.frame.crcErrors = s.frame.crcErrors ∧
    s.enterListen.frame.formatErrors = s.frame.formatErrors ∧
    s.enterListen.frame.truncatedErrors = s.frame.truncatedErrors ∧
    s.enterListen.frame.epochErrors = s.frame.epochErrors ∧
    s.enterListen.frame.errorEpoch = s.frame.errorEpoch ∧ s.enterListen.frame.lowTimer = s.frame.lowTimer ∧
    s.enterListen.frame.idleTimer = s.frame.idleTimer ∧ s.enterListen.frame.rx = s.frame.rx ∧
    s.enterListen.solver.timing = s.solver.timing ∧ s.enterListen.solver.target = s.solver.target ∧
    s.enterListen.solver.validTime = s.solver.validTime ∧ s.enterListen.solver.stateHeld = s.solver.stateHeld ∧
    s.enterListen.solver.steerF = s.solver.steerF ∧ s.enterListen.solver.bound = s.solver.bound ∧
    s.enterListen.solver.overBudget = s.solver.overBudget ∧
    s.enterListen.solver.timeValid = s.solver.timeValid ∧ s.enterListen.port.record = s.port.record ∧
    s.enterListen.port.transaction = s.port.transaction ∧ s.enterListen.port.slot = s.port.slot ∧
    s.enterListen.port.queue = s.port.queue ∧ s.enterListen.port.nextSeq = s.port.nextSeq ∧
    s.enterListen.port.lost = s.port.lost ∧ s.enterListen.port.snapSkip = s.port.snapSkip ∧
    s.enterListen.port.snapPost = s.port.snapPost ∧ s.enterListen.port.sdo = s.port.sdo ∧
    s.enterListen.roster.adoptionOutstanding = s.roster.adoptionOutstanding := by
  and_intros <;> (simp [State.enterListen, Membership.listenAfresh])

/-- What `enterAligning` keeps. -/
@[simp] theorem enterAligning_keeps (s : State) :
    s.enterAligning.pins = s.pins ∧ s.enterAligning.ts = s.ts ∧ s.enterAligning.ref = s.ref ∧
    s.enterAligning.temp = s.temp ∧ s.enterAligning.gen = s.gen ∧ s.enterAligning.freeCount = s.freeCount ∧
    s.enterAligning.pending = s.pending ∧ s.enterAligning.mem.nodeId = s.mem.nodeId ∧
    s.enterAligning.mem.reasonCommand = s.mem.reasonCommand ∧
    s.enterAligning.mem.reasonSupply = s.mem.reasonSupply ∧
    s.enterAligning.mem.supplyIsLow = s.mem.supplyIsLow ∧ s.enterAligning.mem.supplyTimer = s.mem.supplyTimer ∧
    s.enterAligning.mem.adoptionOutstanding = s.mem.adoptionOutstanding ∧
    s.enterAligning.mark.fault = s.mark.fault ∧ s.enterAligning.mark.strayCount = s.mark.strayCount ∧
    s.enterAligning.mark.contestedCount = s.mark.contestedCount ∧
    s.enterAligning.mark.strayEpoch = s.mark.strayEpoch ∧ s.enterAligning.mark.lowTimer = s.mark.lowTimer ∧
    s.enterAligning.mark.recovery = s.mark.recovery ∧ s.enterAligning.mark.highTime = s.mark.highTime ∧
    s.enterAligning.mark.candidate = s.mark.candidate ∧ s.enterAligning.frame.windowOpen = s.frame.windowOpen ∧
    s.enterAligning.frame.receipt = s.frame.receipt ∧ s.enterAligning.frame.fault = s.frame.fault ∧
    s.enterAligning.frame.unsent = s.frame.unsent ∧ s.enterAligning.frame.crcErrors = s.frame.crcErrors ∧
    s.enterAligning.frame.formatErrors = s.frame.formatErrors ∧
    s.enterAligning.frame.truncatedErrors = s.frame.truncatedErrors ∧
    s.enterAligning.frame.epochErrors = s.frame.epochErrors ∧
    s.enterAligning.frame.errorEpoch = s.frame.errorEpoch ∧ s.enterAligning.frame.lowTimer = s.frame.lowTimer ∧
    s.enterAligning.frame.idleTimer = s.frame.idleTimer ∧ s.enterAligning.frame.rx = s.frame.rx ∧
    s.enterAligning.solver.timing = s.solver.timing ∧ s.enterAligning.solver.target = s.solver.target ∧
    s.enterAligning.solver.validTime = s.solver.validTime ∧
    s.enterAligning.solver.stateHeld = s.solver.stateHeld ∧ s.enterAligning.solver.steerF = s.solver.steerF ∧
    s.enterAligning.solver.bound = s.solver.bound ∧ s.enterAligning.solver.overBudget = s.solver.overBudget ∧
    s.enterAligning.solver.timeValid = s.solver.timeValid ∧ s.enterAligning.port.record = s.port.record ∧
    s.enterAligning.port.transaction = s.port.transaction ∧ s.enterAligning.port.slot = s.port.slot ∧
    s.enterAligning.port.queue = s.port.queue ∧ s.enterAligning.port.nextSeq = s.port.nextSeq ∧
    s.enterAligning.port.lost = s.port.lost ∧ s.enterAligning.port.snapSkip = s.port.snapSkip ∧
    s.enterAligning.port.snapPost = s.port.snapPost ∧ s.enterAligning.port.sdo = s.port.sdo ∧
    s.enterAligning.roster.adoptionOutstanding = s.roster.adoptionOutstanding := by
  and_intros <;> (simp [State.enterAligning])

/-- What `enterJoining` keeps. -/
@[simp] theorem enterJoining_keeps (s : State) :
    s.enterJoining.pins = s.pins ∧ s.enterJoining.ts = s.ts ∧ s.enterJoining.ref = s.ref ∧
    s.enterJoining.temp = s.temp ∧ s.enterJoining.gen = s.gen ∧ s.enterJoining.freeCount = s.freeCount ∧
    s.enterJoining.pending = s.pending ∧ s.enterJoining.mem.nodeId = s.mem.nodeId ∧
    s.enterJoining.mem.reasonCommand = s.mem.reasonCommand ∧
    s.enterJoining.mem.reasonSupply = s.mem.reasonSupply ∧ s.enterJoining.mem.supplyIsLow = s.mem.supplyIsLow ∧
    s.enterJoining.mem.supplyTimer = s.mem.supplyTimer ∧
    s.enterJoining.mem.adoptionOutstanding = s.mem.adoptionOutstanding ∧
    s.enterJoining.mark.fault = s.mark.fault ∧ s.enterJoining.mark.strayCount = s.mark.strayCount ∧
    s.enterJoining.mark.contestedCount = s.mark.contestedCount ∧
    s.enterJoining.mark.strayEpoch = s.mark.strayEpoch ∧ s.enterJoining.mark.lowTimer = s.mark.lowTimer ∧
    s.enterJoining.mark.recovery = s.mark.recovery ∧ s.enterJoining.mark.highTime = s.mark.highTime ∧
    s.enterJoining.mark.candidate = s.mark.candidate ∧ s.enterJoining.frame.windowOpen = s.frame.windowOpen ∧
    s.enterJoining.frame.receipt = s.frame.receipt ∧ s.enterJoining.frame.fault = s.frame.fault ∧
    s.enterJoining.frame.unsent = s.frame.unsent ∧ s.enterJoining.frame.crcErrors = s.frame.crcErrors ∧
    s.enterJoining.frame.formatErrors = s.frame.formatErrors ∧
    s.enterJoining.frame.truncatedErrors = s.frame.truncatedErrors ∧
    s.enterJoining.frame.epochErrors = s.frame.epochErrors ∧
    s.enterJoining.frame.errorEpoch = s.frame.errorEpoch ∧ s.enterJoining.frame.lowTimer = s.frame.lowTimer ∧
    s.enterJoining.frame.idleTimer = s.frame.idleTimer ∧ s.enterJoining.frame.rx = s.frame.rx ∧
    s.enterJoining.solver.timing = s.solver.timing ∧ s.enterJoining.solver.target = s.solver.target ∧
    s.enterJoining.solver.validTime = s.solver.validTime ∧
    s.enterJoining.solver.stateHeld = s.solver.stateHeld ∧ s.enterJoining.solver.steerF = s.solver.steerF ∧
    s.enterJoining.solver.bound = s.solver.bound ∧ s.enterJoining.solver.overBudget = s.solver.overBudget ∧
    s.enterJoining.solver.timeValid = s.solver.timeValid ∧ s.enterJoining.port.record = s.port.record ∧
    s.enterJoining.port.transaction = s.port.transaction ∧ s.enterJoining.port.slot = s.port.slot ∧
    s.enterJoining.port.queue = s.port.queue ∧ s.enterJoining.port.nextSeq = s.port.nextSeq ∧
    s.enterJoining.port.lost = s.port.lost ∧ s.enterJoining.port.snapSkip = s.port.snapSkip ∧
    s.enterJoining.port.snapPost = s.port.snapPost ∧ s.enterJoining.port.sdo = s.port.sdo ∧
    s.enterJoining.roster.adoptionOutstanding = s.roster.adoptionOutstanding := by
  and_intros <;> (simp [State.enterJoining])

/-- What `enterConflict` keeps. -/
@[simp] theorem enterConflict_keeps (s : State) (c : Cause) :
    (s.enterConflict c).ts = s.ts ∧ (s.enterConflict c).ref = s.ref ∧ (s.enterConflict c).temp = s.temp ∧
    (s.enterConflict c).gen = s.gen ∧ (s.enterConflict c).freeCount = s.freeCount ∧
    (s.enterConflict c).pending = s.pending ∧ (s.enterConflict c).pins.oscRunning = s.pins.oscRunning ∧
    (s.enterConflict c).pins.resetHeld = s.pins.resetHeld ∧ (s.enterConflict c).pins.refin = s.pins.refin ∧
    (s.enterConflict c).pins.refvalid = s.pins.refvalid ∧ (s.enterConflict c).pins.refinPin = s.pins.refinPin ∧
    (s.enterConflict c).pins.refvalidPin = s.pins.refvalidPin ∧
    (s.enterConflict c).pins.inhibitPin = s.pins.inhibitPin ∧ (s.enterConflict c).pins.mark = s.pins.mark ∧
    (s.enterConflict c).pins.supply = s.pins.supply ∧ (s.enterConflict c).pins.inhibit = s.pins.inhibit ∧
    (s.enterConflict c).mem.nodeId = s.mem.nodeId ∧
    (s.enterConflict c).mem.reasonCommand = s.mem.reasonCommand ∧
    (s.enterConflict c).mem.reasonSupply = s.mem.reasonSupply ∧
    (s.enterConflict c).mem.supplyIsLow = s.mem.supplyIsLow ∧
    (s.enterConflict c).mem.supplyTimer = s.mem.supplyTimer ∧
    (s.enterConflict c).mem.adoptionOutstanding = s.mem.adoptionOutstanding ∧
    (s.enterConflict c).mark.fault = s.mark.fault ∧ (s.enterConflict c).mark.strayCount = s.mark.strayCount ∧
    (s.enterConflict c).mark.contestedCount = s.mark.contestedCount ∧
    (s.enterConflict c).mark.strayEpoch = s.mark.strayEpoch ∧
    (s.enterConflict c).mark.lowTimer = s.mark.lowTimer ∧ (s.enterConflict c).mark.recovery = s.mark.recovery ∧
    (s.enterConflict c).mark.highTime = s.mark.highTime ∧
    (s.enterConflict c).mark.candidate = s.mark.candidate ∧
    (s.enterConflict c).frame.windowOpen = s.frame.windowOpen ∧
    (s.enterConflict c).frame.receipt = s.frame.receipt ∧ (s.enterConflict c).frame.fault = s.frame.fault ∧
    (s.enterConflict c).solver.timing = s.solver.timing ∧ (s.enterConflict c).solver.target = s.solver.target ∧
    (s.enterConflict c).solver.validTime = s.solver.validTime ∧
    (s.enterConflict c).solver.stateHeld = s.solver.stateHeld ∧
    (s.enterConflict c).solver.steerF = s.solver.steerF ∧ (s.enterConflict c).solver.bound = s.solver.bound ∧
    (s.enterConflict c).solver.overBudget = s.solver.overBudget ∧
    (s.enterConflict c).solver.timeValid = s.solver.timeValid ∧
    (s.enterConflict c).port.record = s.port.record ∧
    (s.enterConflict c).port.transaction = s.port.transaction ∧ (s.enterConflict c).port.slot = s.port.slot ∧
    (s.enterConflict c).port.queue = s.port.queue ∧ (s.enterConflict c).port.nextSeq = s.port.nextSeq ∧
    (s.enterConflict c).port.lost = s.port.lost ∧ (s.enterConflict c).port.snapSkip = s.port.snapSkip ∧
    (s.enterConflict c).port.snapPost = s.port.snapPost ∧ (s.enterConflict c).port.sdo = s.port.sdo ∧
    (s.enterConflict c).roster.adoptionOutstanding = s.roster.adoptionOutstanding := by
  and_intros <;> (simp [State.enterConflict])

/-- What `enterWithdrawn` keeps. -/
@[simp] theorem enterWithdrawn_keeps (s : State) (r : LeaveReason) :
    (s.enterWithdrawn r).ts = s.ts ∧ (s.enterWithdrawn r).ref = s.ref ∧ (s.enterWithdrawn r).temp = s.temp ∧
    (s.enterWithdrawn r).gen = s.gen ∧ (s.enterWithdrawn r).freeCount = s.freeCount ∧
    (s.enterWithdrawn r).pending = s.pending ∧ (s.enterWithdrawn r).pins.oscRunning = s.pins.oscRunning ∧
    (s.enterWithdrawn r).pins.resetHeld = s.pins.resetHeld ∧ (s.enterWithdrawn r).pins.refin = s.pins.refin ∧
    (s.enterWithdrawn r).pins.refvalid = s.pins.refvalid ∧ (s.enterWithdrawn r).pins.refinPin = s.pins.refinPin ∧
    (s.enterWithdrawn r).pins.refvalidPin = s.pins.refvalidPin ∧
    (s.enterWithdrawn r).pins.inhibitPin = s.pins.inhibitPin ∧ (s.enterWithdrawn r).pins.mark = s.pins.mark ∧
    (s.enterWithdrawn r).pins.supply = s.pins.supply ∧ (s.enterWithdrawn r).pins.inhibit = s.pins.inhibit ∧
    (s.enterWithdrawn r).mem.nodeId = s.mem.nodeId ∧
    (s.enterWithdrawn r).mem.reasonCommand = s.mem.reasonCommand ∧
    (s.enterWithdrawn r).mem.reasonSupply = s.mem.reasonSupply ∧
    (s.enterWithdrawn r).mem.supplyIsLow = s.mem.supplyIsLow ∧
    (s.enterWithdrawn r).mem.supplyTimer = s.mem.supplyTimer ∧
    (s.enterWithdrawn r).mem.adoptionOutstanding = s.mem.adoptionOutstanding ∧
    (s.enterWithdrawn r).mark.fault = s.mark.fault ∧ (s.enterWithdrawn r).mark.strayCount = s.mark.strayCount ∧
    (s.enterWithdrawn r).mark.contestedCount = s.mark.contestedCount ∧
    (s.enterWithdrawn r).mark.strayEpoch = s.mark.strayEpoch ∧
    (s.enterWithdrawn r).mark.lowTimer = s.mark.lowTimer ∧
    (s.enterWithdrawn r).mark.recovery = s.mark.recovery ∧
    (s.enterWithdrawn r).mark.highTime = s.mark.highTime ∧
    (s.enterWithdrawn r).mark.candidate = s.mark.candidate ∧
    (s.enterWithdrawn r).frame.windowOpen = s.frame.windowOpen ∧
    (s.enterWithdrawn r).frame.receipt = s.frame.receipt ∧ (s.enterWithdrawn r).frame.fault = s.frame.fault ∧
    (s.enterWithdrawn r).solver.timing = s.solver.timing ∧
    (s.enterWithdrawn r).solver.target = s.solver.target ∧
    (s.enterWithdrawn r).solver.validTime = s.solver.validTime ∧
    (s.enterWithdrawn r).solver.stateHeld = s.solver.stateHeld ∧
    (s.enterWithdrawn r).solver.steerF = s.solver.steerF ∧ (s.enterWithdrawn r).solver.bound = s.solver.bound ∧
    (s.enterWithdrawn r).solver.overBudget = s.solver.overBudget ∧
    (s.enterWithdrawn r).solver.timeValid = s.solver.timeValid ∧
    (s.enterWithdrawn r).port.record = s.port.record ∧
    (s.enterWithdrawn r).port.transaction = s.port.transaction ∧ (s.enterWithdrawn r).port.slot = s.port.slot ∧
    (s.enterWithdrawn r).port.queue = s.port.queue ∧ (s.enterWithdrawn r).port.nextSeq = s.port.nextSeq ∧
    (s.enterWithdrawn r).port.lost = s.port.lost ∧ (s.enterWithdrawn r).port.snapSkip = s.port.snapSkip ∧
    (s.enterWithdrawn r).port.snapPost = s.port.snapPost ∧ (s.enterWithdrawn r).port.sdo = s.port.sdo ∧
    (s.enterWithdrawn r).roster.adoptionOutstanding = s.roster.adoptionOutstanding := by
  and_intros <;> (unfold State.enterWithdrawn; dsimp only; split <;> simp)

/-- What `report` keeps. -/
@[simp] theorem report_keeps (s : State) (c : Cause) :
    (s.report c).ts = s.ts ∧ (s.report c).ref = s.ref ∧ (s.report c).temp = s.temp ∧ (s.report c).gen = s.gen ∧
    (s.report c).freeCount = s.freeCount ∧ (s.report c).pending = s.pending ∧
    (s.report c).pins.oscRunning = s.pins.oscRunning ∧ (s.report c).pins.resetHeld = s.pins.resetHeld ∧
    (s.report c).pins.refin = s.pins.refin ∧ (s.report c).pins.refvalid = s.pins.refvalid ∧
    (s.report c).pins.refinPin = s.pins.refinPin ∧
    (s.report c).pins.refvalidPin = s.pins.refvalidPin ∧ (s.report c).pins.inhibitPin = s.pins.inhibitPin ∧
    (s.report c).pins.mark = s.pins.mark ∧ (s.report c).pins.supply = s.pins.supply ∧
    (s.report c).pins.inhibit = s.pins.inhibit ∧ (s.report c).mem.nodeId = s.mem.nodeId ∧
    (s.report c).mem.reasonCommand = s.mem.reasonCommand ∧ (s.report c).mem.reasonSupply = s.mem.reasonSupply ∧
    (s.report c).mem.supplyIsLow = s.mem.supplyIsLow ∧ (s.report c).mem.supplyTimer = s.mem.supplyTimer ∧
    (s.report c).mem.adoptionOutstanding = s.mem.adoptionOutstanding ∧ (s.report c).mark.fault = s.mark.fault ∧
    (s.report c).mark.strayCount = s.mark.strayCount ∧
    (s.report c).mark.contestedCount = s.mark.contestedCount ∧
    (s.report c).mark.strayEpoch = s.mark.strayEpoch ∧ (s.report c).mark.lowTimer = s.mark.lowTimer ∧
    (s.report c).mark.recovery = s.mark.recovery ∧ (s.report c).mark.highTime = s.mark.highTime ∧
    (s.report c).mark.candidate = s.mark.candidate ∧ (s.report c).frame.windowOpen = s.frame.windowOpen ∧
    (s.report c).frame.receipt = s.frame.receipt ∧ (s.report c).frame.fault = s.frame.fault ∧
    (s.report c).solver.timing = s.solver.timing ∧ (s.report c).solver.target = s.solver.target ∧
    (s.report c).solver.validTime = s.solver.validTime ∧ (s.report c).solver.stateHeld = s.solver.stateHeld ∧
    (s.report c).solver.steerF = s.solver.steerF ∧ (s.report c).solver.bound = s.solver.bound ∧
    (s.report c).solver.overBudget = s.solver.overBudget ∧ (s.report c).solver.timeValid = s.solver.timeValid ∧
    (s.report c).port.record = s.port.record ∧ (s.report c).port.transaction = s.port.transaction ∧
    (s.report c).port.slot = s.port.slot ∧ (s.report c).port.queue = s.port.queue ∧
    (s.report c).port.nextSeq = s.port.nextSeq ∧ (s.report c).port.lost = s.port.lost ∧
    (s.report c).port.snapSkip = s.port.snapSkip ∧ (s.report c).port.snapPost = s.port.snapPost ∧
    (s.report c).port.sdo = s.port.sdo ∧
    (s.report c).roster.adoptionOutstanding = s.roster.adoptionOutstanding := by
  and_intros <;> (unfold State.report; (repeat' split) <;> simp)

/-- What `reportOwnId` keeps. -/
@[simp] theorem reportOwnId_keeps (s : State) :
    s.reportOwnId.ts = s.ts ∧ s.reportOwnId.ref = s.ref ∧ s.reportOwnId.temp = s.temp ∧
    s.reportOwnId.gen = s.gen ∧ s.reportOwnId.freeCount = s.freeCount ∧ s.reportOwnId.pending = s.pending ∧
    s.reportOwnId.pins.oscRunning = s.pins.oscRunning ∧ s.reportOwnId.pins.resetHeld = s.pins.resetHeld ∧
    s.reportOwnId.pins.refin = s.pins.refin ∧ s.reportOwnId.pins.refvalid = s.pins.refvalid ∧
    s.reportOwnId.pins.refinPin = s.pins.refinPin ∧
    s.reportOwnId.pins.refvalidPin = s.pins.refvalidPin ∧ s.reportOwnId.pins.inhibitPin = s.pins.inhibitPin ∧
    s.reportOwnId.pins.mark = s.pins.mark ∧ s.reportOwnId.pins.supply = s.pins.supply ∧
    s.reportOwnId.pins.inhibit = s.pins.inhibit ∧ s.reportOwnId.mem.nodeId = s.mem.nodeId ∧
    s.reportOwnId.mem.reasonCommand = s.mem.reasonCommand ∧
    s.reportOwnId.mem.reasonSupply = s.mem.reasonSupply ∧ s.reportOwnId.mem.supplyIsLow = s.mem.supplyIsLow ∧
    s.reportOwnId.mem.supplyTimer = s.mem.supplyTimer ∧
    s.reportOwnId.mem.adoptionOutstanding = s.mem.adoptionOutstanding ∧
    s.reportOwnId.mark.fault = s.mark.fault ∧ s.reportOwnId.mark.strayCount = s.mark.strayCount ∧
    s.reportOwnId.mark.contestedCount = s.mark.contestedCount ∧
    s.reportOwnId.mark.strayEpoch = s.mark.strayEpoch ∧ s.reportOwnId.mark.lowTimer = s.mark.lowTimer ∧
    s.reportOwnId.mark.recovery = s.mark.recovery ∧ s.reportOwnId.mark.highTime = s.mark.highTime ∧
    s.reportOwnId.mark.candidate = s.mark.candidate ∧ s.reportOwnId.frame.windowOpen = s.frame.windowOpen ∧
    s.reportOwnId.frame.receipt = s.frame.receipt ∧ s.reportOwnId.frame.fault = s.frame.fault ∧
    s.reportOwnId.solver.timing = s.solver.timing ∧ s.reportOwnId.solver.target = s.solver.target ∧
    s.reportOwnId.solver.validTime = s.solver.validTime ∧ s.reportOwnId.solver.stateHeld = s.solver.stateHeld ∧
    s.reportOwnId.solver.steerF = s.solver.steerF ∧ s.reportOwnId.solver.bound = s.solver.bound ∧
    s.reportOwnId.solver.overBudget = s.solver.overBudget ∧
    s.reportOwnId.solver.timeValid = s.solver.timeValid ∧ s.reportOwnId.port.record = s.port.record ∧
    s.reportOwnId.port.transaction = s.port.transaction ∧ s.reportOwnId.port.slot = s.port.slot ∧
    s.reportOwnId.port.queue = s.port.queue ∧ s.reportOwnId.port.nextSeq = s.port.nextSeq ∧
    s.reportOwnId.port.lost = s.port.lost ∧ s.reportOwnId.port.snapSkip = s.port.snapSkip ∧
    s.reportOwnId.port.snapPost = s.port.snapPost ∧ s.reportOwnId.port.sdo = s.port.sdo ∧
    s.reportOwnId.roster.adoptionOutstanding = s.roster.adoptionOutstanding := by
  and_intros <;> (unfold State.reportOwnId; dsimp only; split <;> simp)

/-- What `frameFault` keeps. -/
@[simp] theorem frameFault_keeps (s : State) (k : ErrorKind) (j : Option NodeId) :
    (s.frameFault k j).pins = s.pins ∧ (s.frameFault k j).ts = s.ts ∧ (s.frameFault k j).ref = s.ref ∧
    (s.frameFault k j).mark = s.mark ∧ (s.frameFault k j).mem = s.mem ∧ (s.frameFault k j).roster = s.roster ∧
    (s.frameFault k j).solver = s.solver ∧ (s.frameFault k j).temp = s.temp ∧ (s.frameFault k j).gen = s.gen ∧
    (s.frameFault k j).freeCount = s.freeCount ∧ (s.frameFault k j).pending = s.pending ∧
    (s.frameFault k j).port.record = s.port.record ∧ (s.frameFault k j).port.transaction = s.port.transaction ∧
    (s.frameFault k j).port.slot = s.port.slot ∧ (s.frameFault k j).port.queue = s.port.queue ∧
    (s.frameFault k j).port.nextSeq = s.port.nextSeq ∧ (s.frameFault k j).port.lost = s.port.lost ∧
    (s.frameFault k j).port.snapSkip = s.port.snapSkip ∧ (s.frameFault k j).port.snapPost = s.port.snapPost ∧
    (s.frameFault k j).port.sdo = s.port.sdo ∧ (s.frameFault k j).frame.talk = s.frame.talk ∧
    (s.frameFault k j).frame.leave = s.frame.leave ∧ (s.frameFault k j).frame.windowOpen = s.frame.windowOpen ∧
    (s.frameFault k j).frame.tx = s.frame.tx ∧ (s.frameFault k j).frame.rx = s.frame.rx ∧
    (s.frameFault k j).frame.receipt = s.frame.receipt ∧ (s.frameFault k j).frame.fault = s.frame.fault := by
  and_intros <;> (unfold State.frameFault; dsimp only; split <;> (try simp only [postInt_pins,postInt_ts,postInt_ref,postInt_mark,postInt_frame,postInt_mem,postInt_roster,postInt_solver,postInt_temp,postInt_gen,postInt_freeCount,postInt_pending]) <;> cases k <;> rfl)

/-- What `dropUnsent` keeps. -/
@[simp] theorem dropUnsent_keeps (s : State) (f : Frame) :
    (s.dropUnsent f).pins = s.pins ∧ (s.dropUnsent f).ts = s.ts ∧ (s.dropUnsent f).ref = s.ref ∧
    (s.dropUnsent f).mark = s.mark ∧ (s.dropUnsent f).mem = s.mem ∧ (s.dropUnsent f).roster = s.roster ∧
    (s.dropUnsent f).solver = s.solver ∧ (s.dropUnsent f).temp = s.temp ∧ (s.dropUnsent f).gen = s.gen ∧
    (s.dropUnsent f).freeCount = s.freeCount ∧ (s.dropUnsent f).pending = s.pending ∧
    (s.dropUnsent f).port.record = s.port.record ∧ (s.dropUnsent f).port.transaction = s.port.transaction ∧
    (s.dropUnsent f).port.slot = s.port.slot ∧ (s.dropUnsent f).port.queue = s.port.queue ∧
    (s.dropUnsent f).port.nextSeq = s.port.nextSeq ∧ (s.dropUnsent f).port.lost = s.port.lost ∧
    (s.dropUnsent f).port.snapSkip = s.port.snapSkip ∧ (s.dropUnsent f).port.snapPost = s.port.snapPost ∧
    (s.dropUnsent f).port.sdo = s.port.sdo ∧ (s.dropUnsent f).frame.talk = s.frame.talk ∧
    (s.dropUnsent f).frame.leave = s.frame.leave ∧ (s.dropUnsent f).frame.windowOpen = s.frame.windowOpen ∧
    (s.dropUnsent f).frame.tx = s.frame.tx ∧ (s.dropUnsent f).frame.rx = s.frame.rx ∧
    (s.dropUnsent f).frame.receipt = s.frame.receipt ∧ (s.dropUnsent f).frame.fault = s.frame.fault := by
  and_intros <;> (rfl)

/-- What `handOver` keeps. -/
@[simp] theorem handOver_keeps (s : State) (f c : Int) :
    (s.handOver f c).pins = s.pins ∧ (s.handOver f c).ref = s.ref ∧ (s.handOver f c).mark = s.mark ∧
    (s.handOver f c).frame = s.frame ∧ (s.handOver f c).mem = s.mem ∧ (s.handOver f c).roster = s.roster ∧
    (s.handOver f c).solver = s.solver ∧ (s.handOver f c).temp = s.temp ∧ (s.handOver f c).gen = s.gen ∧
    (s.handOver f c).port = s.port ∧ (s.handOver f c).freeCount = s.freeCount ∧
    (s.handOver f c).pending = s.pending ∧ (s.handOver f c).ts.base = s.ts.base ∧
    (s.handOver f c).ts.tau = s.ts.tau ∧ (s.handOver f c).ts.len = s.ts.len ∧
    (s.handOver f c).ts.epoch = s.ts.epoch ∧ (s.handOver f c).ts.f = s.ts.f ∧ (s.handOver f c).ts.c = s.ts.c ∧
    (s.handOver f c).ts.carry = s.ts.carry ∧ (s.handOver f c).ts.pendStep = s.ts.pendStep ∧
    (s.handOver f c).ts.pendAdopt = s.ts.pendAdopt ∧ (s.handOver f c).ts.replay = s.ts.replay ∧
    (s.handOver f c).ts.stepBegan = s.ts.stepBegan ∧ (s.handOver f c).ts.groupA = s.ts.groupA ∧
    (s.handOver f c).ts.groupB = s.ts.groupB ∧ (s.handOver f c).ts.raised = s.ts.raised := by
  and_intros <;> (rfl)

/-- What `requestStep` keeps. -/
@[simp] theorem requestStep_keeps (s : State) (x : Int) :
    (s.requestStep x).pins = s.pins ∧ (s.requestStep x).ref = s.ref ∧ (s.requestStep x).mark = s.mark ∧
    (s.requestStep x).frame = s.frame ∧ (s.requestStep x).mem = s.mem ∧ (s.requestStep x).roster = s.roster ∧
    (s.requestStep x).solver = s.solver ∧ (s.requestStep x).temp = s.temp ∧ (s.requestStep x).gen = s.gen ∧
    (s.requestStep x).port = s.port ∧ (s.requestStep x).freeCount = s.freeCount ∧
    (s.requestStep x).pending = s.pending ∧ (s.requestStep x).ts.base = s.ts.base ∧
    (s.requestStep x).ts.tau = s.ts.tau ∧ (s.requestStep x).ts.len = s.ts.len ∧
    (s.requestStep x).ts.epoch = s.ts.epoch ∧ (s.requestStep x).ts.f = s.ts.f ∧
    (s.requestStep x).ts.c = s.ts.c ∧ (s.requestStep x).ts.carry = s.ts.carry ∧
    (s.requestStep x).ts.pendF = s.ts.pendF ∧ (s.requestStep x).ts.pendC = s.ts.pendC ∧
    (s.requestStep x).ts.pendAdopt = s.ts.pendAdopt ∧ (s.requestStep x).ts.replay = s.ts.replay ∧
    (s.requestStep x).ts.stepBegan = s.ts.stepBegan ∧ (s.requestStep x).ts.groupA = s.ts.groupA ∧
    (s.requestStep x).ts.groupB = s.ts.groupB ∧ (s.requestStep x).ts.raised = s.ts.raised := by
  and_intros <;> (unfold State.requestStep; split <;> rfl)

/-- What `requestAdoption` keeps. -/
@[simp] theorem requestAdoption_keeps (s : State) (n : Epoch) :
    (s.requestAdoption n).pins = s.pins ∧ (s.requestAdoption n).ref = s.ref ∧
    (s.requestAdoption n).mark = s.mark ∧ (s.requestAdoption n).frame = s.frame ∧
    (s.requestAdoption n).mem = s.mem ∧ (s.requestAdoption n).roster = s.roster ∧
    (s.requestAdoption n).solver = s.solver ∧ (s.requestAdoption n).temp = s.temp ∧
    (s.requestAdoption n).gen = s.gen ∧ (s.requestAdoption n).port = s.port ∧
    (s.requestAdoption n).freeCount = s.freeCount ∧ (s.requestAdoption n).pending = s.pending ∧
    (s.requestAdoption n).ts.base = s.ts.base ∧ (s.requestAdoption n).ts.tau = s.ts.tau ∧
    (s.requestAdoption n).ts.len = s.ts.len ∧ (s.requestAdoption n).ts.epoch = s.ts.epoch ∧
    (s.requestAdoption n).ts.f = s.ts.f ∧ (s.requestAdoption n).ts.c = s.ts.c ∧
    (s.requestAdoption n).ts.carry = s.ts.carry ∧ (s.requestAdoption n).ts.pendF = s.ts.pendF ∧
    (s.requestAdoption n).ts.pendC = s.ts.pendC ∧ (s.requestAdoption n).ts.pendStep = s.ts.pendStep ∧
    (s.requestAdoption n).ts.replay = s.ts.replay ∧ (s.requestAdoption n).ts.stepBegan = s.ts.stepBegan ∧
    (s.requestAdoption n).ts.groupA = s.ts.groupA ∧ (s.requestAdoption n).ts.groupB = s.ts.groupB ∧
    (s.requestAdoption n).ts.raised = s.ts.raised := by
  and_intros <;> (rfl)

/-- What `genTimeValid` keeps. -/
@[simp] theorem genTimeValid_keeps (s : State) (l : Bool) :
    (s.genTimeValid l).pins = s.pins ∧ (s.genTimeValid l).ts = s.ts ∧ (s.genTimeValid l).ref = s.ref ∧
    (s.genTimeValid l).mark = s.mark ∧ (s.genTimeValid l).frame = s.frame ∧ (s.genTimeValid l).mem = s.mem ∧
    (s.genTimeValid l).roster = s.roster ∧ (s.genTimeValid l).solver = s.solver ∧
    (s.genTimeValid l).temp = s.temp ∧ (s.genTimeValid l).port = s.port ∧
    (s.genTimeValid l).pending = s.pending ∧ (s.genTimeValid l).gen.inForce = s.gen.inForce ∧
    (s.genTimeValid l).gen.filtered = s.gen.filtered ∧
    (s.genTimeValid l).gen.filterTimer = s.gen.filterTimer := by
  and_intros <;> (unfold State.genTimeValid; by_cases hb : s.begun = true <;> cases l <;> simp [hb, State.freeNat])

/-- What `refreshTimeValid` keeps. -/
@[simp] theorem refreshTimeValid_keeps (s : State) :
    s.refreshTimeValid.pins = s.pins ∧ s.refreshTimeValid.ts = s.ts ∧ s.refreshTimeValid.ref = s.ref ∧
    s.refreshTimeValid.mark = s.mark ∧ s.refreshTimeValid.frame = s.frame ∧ s.refreshTimeValid.mem = s.mem ∧
    s.refreshTimeValid.roster = s.roster ∧ s.refreshTimeValid.temp = s.temp ∧
    s.refreshTimeValid.port = s.port ∧ s.refreshTimeValid.pending = s.pending ∧
    s.refreshTimeValid.solver.timing = s.solver.timing ∧ s.refreshTimeValid.solver.target = s.solver.target ∧
    s.refreshTimeValid.solver.validTime = s.solver.validTime ∧
    s.refreshTimeValid.solver.stateHeld = s.solver.stateHeld ∧
    s.refreshTimeValid.solver.steerF = s.solver.steerF ∧ s.refreshTimeValid.solver.bound = s.solver.bound ∧
    s.refreshTimeValid.solver.overBudget = s.solver.overBudget ∧
    s.refreshTimeValid.solver.lastC = s.solver.lastC ∧ s.refreshTimeValid.solver.lastA = s.solver.lastA ∧
    s.refreshTimeValid.solver.lockCount = s.solver.lockCount ∧ s.refreshTimeValid.gen.inForce = s.gen.inForce ∧
    s.refreshTimeValid.gen.filtered = s.gen.filtered ∧
    s.refreshTimeValid.gen.filterTimer = s.gen.filterTimer := by
  and_intros <;> (unfold State.refreshTimeValid; dsimp only; split <;> simp)

/-- What `judgeBudget` keeps. -/
@[simp] theorem judgeBudget_keeps (s : State) :
    s.judgeBudget.pins = s.pins ∧ s.judgeBudget.ts = s.ts ∧ s.judgeBudget.ref = s.ref ∧
    s.judgeBudget.mark = s.mark ∧ s.judgeBudget.frame = s.frame ∧ s.judgeBudget.mem = s.mem ∧
    s.judgeBudget.roster = s.roster ∧ s.judgeBudget.temp = s.temp ∧ s.judgeBudget.gen = s.gen ∧
    s.judgeBudget.freeCount = s.freeCount ∧ s.judgeBudget.pending = s.pending ∧
    s.judgeBudget.solver.timing = s.solver.timing ∧ s.judgeBudget.solver.target = s.solver.target ∧
    s.judgeBudget.solver.validTime = s.solver.validTime ∧ s.judgeBudget.solver.stateHeld = s.solver.stateHeld ∧
    s.judgeBudget.solver.steerF = s.solver.steerF ∧ s.judgeBudget.solver.bound = s.solver.bound ∧
    s.judgeBudget.solver.timeValid = s.solver.timeValid ∧ s.judgeBudget.solver.lastC = s.solver.lastC ∧
    s.judgeBudget.solver.lastA = s.solver.lastA ∧ s.judgeBudget.solver.lockCount = s.solver.lockCount ∧
    s.judgeBudget.port.record = s.port.record ∧ s.judgeBudget.port.transaction = s.port.transaction ∧
    s.judgeBudget.port.slot = s.port.slot ∧ s.judgeBudget.port.queue = s.port.queue ∧
    s.judgeBudget.port.nextSeq = s.port.nextSeq ∧ s.judgeBudget.port.lost = s.port.lost ∧
    s.judgeBudget.port.snapSkip = s.port.snapSkip ∧ s.judgeBudget.port.snapPost = s.port.snapPost ∧
    s.judgeBudget.port.sdo = s.port.sdo := by
  and_intros <;> (unfold State.judgeBudget; split <;> rfl)

/-- What `judgeBudgetAtEntry` keeps. -/
@[simp] theorem judgeBudgetAtEntry_keeps (s : State) :
    s.judgeBudgetAtEntry.pins = s.pins ∧ s.judgeBudgetAtEntry.ts = s.ts ∧ s.judgeBudgetAtEntry.ref = s.ref ∧
    s.judgeBudgetAtEntry.mark = s.mark ∧ s.judgeBudgetAtEntry.frame = s.frame ∧ s.judgeBudgetAtEntry.mem = s.mem ∧
    s.judgeBudgetAtEntry.roster = s.roster ∧ s.judgeBudgetAtEntry.temp = s.temp ∧
    s.judgeBudgetAtEntry.gen = s.gen ∧
    s.judgeBudgetAtEntry.pending = s.pending ∧
    s.judgeBudgetAtEntry.solver.timing = s.solver.timing ∧ s.judgeBudgetAtEntry.solver.target = s.solver.target ∧
    s.judgeBudgetAtEntry.solver.validTime = s.solver.validTime ∧
    s.judgeBudgetAtEntry.solver.stateHeld = s.solver.stateHeld ∧
    s.judgeBudgetAtEntry.solver.steerF = s.solver.steerF ∧ s.judgeBudgetAtEntry.solver.bound = s.solver.bound ∧
    s.judgeBudgetAtEntry.solver.timeValid = s.solver.timeValid ∧
    s.judgeBudgetAtEntry.solver.lastC = s.solver.lastC ∧
    s.judgeBudgetAtEntry.solver.lastA = s.solver.lastA ∧
    s.judgeBudgetAtEntry.solver.lockCount = s.solver.lockCount ∧
    s.judgeBudgetAtEntry.port.record = s.port.record ∧
    s.judgeBudgetAtEntry.port.transaction = s.port.transaction ∧
    s.judgeBudgetAtEntry.port.slot = s.port.slot ∧ s.judgeBudgetAtEntry.port.queue = s.port.queue ∧
    s.judgeBudgetAtEntry.port.nextSeq = s.port.nextSeq ∧ s.judgeBudgetAtEntry.port.lost = s.port.lost ∧
    s.judgeBudgetAtEntry.port.snapSkip = s.port.snapSkip ∧ s.judgeBudgetAtEntry.port.snapPost = s.port.snapPost ∧
    s.judgeBudgetAtEntry.port.sdo = s.port.sdo := by
  and_intros <;> (unfold State.judgeBudgetAtEntry; split <;> simp [State.setOverBudget])

/-- What `holdoverBegins` keeps. -/
@[simp] theorem holdoverBegins_keeps (s : State) (x : Int) :
    (s.holdoverBegins x).pins = s.pins ∧ (s.holdoverBegins x).ts = s.ts ∧ (s.holdoverBegins x).ref = s.ref ∧
    (s.holdoverBegins x).mark = s.mark ∧ (s.holdoverBegins x).frame = s.frame ∧
    (s.holdoverBegins x).mem = s.mem ∧ (s.holdoverBegins x).roster = s.roster ∧
    (s.holdoverBegins x).solver = s.solver ∧ (s.holdoverBegins x).gen = s.gen ∧
    (s.holdoverBegins x).port = s.port ∧ (s.holdoverBegins x).freeCount = s.freeCount ∧
    (s.holdoverBegins x).pending = s.pending ∧ (s.holdoverBegins x).temp.samples = s.temp.samples ∧
    (s.holdoverBegins x).temp.table = s.temp.table ∧
    (s.holdoverBegins x).temp.excursion = s.temp.excursion := by
  and_intros <;> (rfl)

/-- What `enterHoldover` keeps. -/
@[simp] theorem enterHoldover_keeps (s : State) (o : TimingState) (g : Growth) (b : Option Nat) :
    (s.enterHoldover o g b).pins = s.pins ∧ (s.enterHoldover o g b).ts = s.ts ∧
    (s.enterHoldover o g b).ref = s.ref ∧ (s.enterHoldover o g b).mark = s.mark ∧
    (s.enterHoldover o g b).frame = s.frame ∧ (s.enterHoldover o g b).mem = s.mem ∧
    (s.enterHoldover o g b).roster = s.roster ∧ (s.enterHoldover o g b).gen = s.gen ∧
    (s.enterHoldover o g b).pending = s.pending ∧
    (s.enterHoldover o g b).temp.samples = s.temp.samples ∧ (s.enterHoldover o g b).temp.table = s.temp.table ∧
    (s.enterHoldover o g b).temp.excursion = s.temp.excursion ∧
    (s.enterHoldover o g b).solver.timing = s.solver.timing ∧
    (s.enterHoldover o g b).solver.target = s.solver.target ∧
    (s.enterHoldover o g b).solver.validTime = s.solver.validTime ∧
    (s.enterHoldover o g b).solver.stateHeld = s.solver.stateHeld ∧
    (s.enterHoldover o g b).solver.steerF = s.solver.steerF ∧
    (s.enterHoldover o g b).solver.timeValid = s.solver.timeValid ∧
    (s.enterHoldover o g b).solver.lastC = s.solver.lastC ∧
    (s.enterHoldover o g b).solver.lastA = s.solver.lastA ∧
    (s.enterHoldover o g b).solver.lockCount = s.solver.lockCount ∧
    (s.enterHoldover o g b).port.record = s.port.record ∧
    (s.enterHoldover o g b).port.transaction = s.port.transaction ∧
    (s.enterHoldover o g b).port.slot = s.port.slot ∧ (s.enterHoldover o g b).port.queue = s.port.queue ∧
    (s.enterHoldover o g b).port.nextSeq = s.port.nextSeq ∧ (s.enterHoldover o g b).port.lost = s.port.lost ∧
    (s.enterHoldover o g b).port.snapSkip = s.port.snapSkip ∧
    (s.enterHoldover o g b).port.snapPost = s.port.snapPost ∧
    (s.enterHoldover o g b).port.sdo = s.port.sdo := by
  and_intros <;> (unfold State.enterHoldover; dsimp only; split <;> simp)

/-- What `enter` keeps. -/
@[simp] theorem enter_keeps (s : State) (l : Option Lane) (t : TimingState) (g : Option Target) (w : Growth) (b : Option Nat) :
    (s.enter l t g w b).pins = s.pins ∧ (s.enter l t g w b).ts = s.ts ∧ (s.enter l t g w b).ref = s.ref ∧
    (s.enter l t g w b).mark = s.mark ∧ (s.enter l t g w b).frame = s.frame ∧ (s.enter l t g w b).mem = s.mem ∧
    (s.enter l t g w b).roster = s.roster ∧ (s.enter l t g w b).pending = s.pending ∧
    (s.enter l t g w b).temp.samples = s.temp.samples ∧ (s.enter l t g w b).temp.table = s.temp.table ∧
    (s.enter l t g w b).temp.excursion = s.temp.excursion ∧
    (s.enter l t g w b).solver.steerF = s.solver.steerF ∧ (s.enter l t g w b).solver.lastC = s.solver.lastC ∧
    (s.enter l t g w b).solver.lastA = s.solver.lastA ∧ (s.enter l t g w b).gen.inForce = s.gen.inForce ∧
    (s.enter l t g w b).gen.filtered = s.gen.filtered ∧
    (s.enter l t g w b).gen.filterTimer = s.gen.filterTimer ∧ (s.enter l t g w b).port.record = s.port.record ∧
    (s.enter l t g w b).port.transaction = s.port.transaction ∧ (s.enter l t g w b).port.slot = s.port.slot ∧
    (s.enter l t g w b).port.queue = s.port.queue ∧ (s.enter l t g w b).port.nextSeq = s.port.nextSeq ∧
    (s.enter l t g w b).port.lost = s.port.lost ∧ (s.enter l t g w b).port.snapSkip = s.port.snapSkip ∧
    (s.enter l t g w b).port.snapPost = s.port.snapPost ∧ (s.enter l t g w b).port.sdo = s.port.sdo ∧
    (s.enter l t g w b).solver.timing = t ∧ (s.enter l t g w b).solver.target = g := by
  and_intros <;> (cases t <;> simp [State.enter])

/-- What `transition` keeps. -/
@[simp] theorem transition_keeps (s : State) (l : Option Lane) (g : Option Target) (w : Growth) :
    (s.transition l g w).pins = s.pins ∧ (s.transition l g w).ts = s.ts ∧ (s.transition l g w).ref = s.ref ∧
    (s.transition l g w).mark = s.mark ∧ (s.transition l g w).frame = s.frame ∧
    (s.transition l g w).mem = s.mem ∧ (s.transition l g w).roster = s.roster ∧
    (s.transition l g w).pending = s.pending ∧ (s.transition l g w).temp.samples = s.temp.samples ∧
    (s.transition l g w).temp.table = s.temp.table ∧ (s.transition l g w).temp.excursion = s.temp.excursion ∧
    (s.transition l g w).solver.steerF = s.solver.steerF ∧ (s.transition l g w).solver.lastC = s.solver.lastC ∧
    (s.transition l g w).solver.lastA = s.solver.lastA ∧ (s.transition l g w).gen.inForce = s.gen.inForce ∧
    (s.transition l g w).gen.filtered = s.gen.filtered ∧
    (s.transition l g w).gen.filterTimer = s.gen.filterTimer ∧
    (s.transition l g w).port.record = s.port.record ∧
    (s.transition l g w).port.transaction = s.port.transaction ∧ (s.transition l g w).port.slot = s.port.slot ∧
    (s.transition l g w).port.queue = s.port.queue ∧ (s.transition l g w).port.nextSeq = s.port.nextSeq ∧
    (s.transition l g w).port.lost = s.port.lost ∧ (s.transition l g w).port.snapSkip = s.port.snapSkip ∧
    (s.transition l g w).port.snapPost = s.port.snapPost ∧ (s.transition l g w).port.sdo = s.port.sdo := by
  and_intros <;> (unfold State.transition; (repeat' split) <;> simp)

/-- What `reevaluate` keeps. -/
@[simp] theorem reevaluate_keeps (s : State) :
    s.reevaluate.pins = s.pins ∧ s.reevaluate.ref = s.ref ∧ s.reevaluate.mark = s.mark ∧
    s.reevaluate.frame = s.frame ∧ s.reevaluate.mem = s.mem ∧ s.reevaluate.roster = s.roster ∧
    s.reevaluate.pending = s.pending ∧ s.reevaluate.temp.samples = s.temp.samples ∧
    s.reevaluate.temp.table = s.temp.table ∧ s.reevaluate.temp.excursion = s.temp.excursion ∧
    s.reevaluate.solver.steerF = s.solver.steerF ∧ s.reevaluate.solver.lastC = s.solver.lastC ∧
    s.reevaluate.solver.lastA = s.solver.lastA ∧ s.reevaluate.gen.inForce = s.gen.inForce ∧
    s.reevaluate.gen.filtered = s.gen.filtered ∧ s.reevaluate.gen.filterTimer = s.gen.filterTimer ∧
    s.reevaluate.port.record = s.port.record ∧ s.reevaluate.port.transaction = s.port.transaction ∧
    s.reevaluate.port.slot = s.port.slot ∧ s.reevaluate.port.queue = s.port.queue ∧
    s.reevaluate.port.nextSeq = s.port.nextSeq ∧ s.reevaluate.port.lost = s.port.lost ∧
    s.reevaluate.port.snapSkip = s.port.snapSkip ∧ s.reevaluate.port.snapPost = s.port.snapPost ∧
    s.reevaluate.port.sdo = s.port.sdo ∧ s.reevaluate.ts.base = s.ts.base ∧ s.reevaluate.ts.tau = s.ts.tau ∧
    s.reevaluate.ts.len = s.ts.len ∧ s.reevaluate.ts.epoch = s.ts.epoch ∧ s.reevaluate.ts.f = s.ts.f ∧
    s.reevaluate.ts.c = s.ts.c ∧ s.reevaluate.ts.carry = s.ts.carry ∧
    s.reevaluate.ts.pendStep = s.ts.pendStep ∧ s.reevaluate.ts.pendAdopt = s.ts.pendAdopt ∧
    s.reevaluate.ts.replay = s.ts.replay ∧ s.reevaluate.ts.stepBegan = s.ts.stepBegan ∧
    s.reevaluate.ts.groupA = s.ts.groupA ∧ s.reevaluate.ts.groupB = s.ts.groupB ∧
    s.reevaluate.ts.raised = s.ts.raised := by
  and_intros <;> (unfold State.reevaluate; dsimp only; split <;> simp)

/-- What `freeRequest` keeps. -/
@[simp] theorem freeRequest_keeps (s : State) :
    s.freeRequest.pins = s.pins ∧ s.freeRequest.ref = s.ref ∧ s.freeRequest.mark = s.mark ∧
    s.freeRequest.frame = s.frame ∧ s.freeRequest.mem = s.mem ∧ s.freeRequest.roster = s.roster ∧
    s.freeRequest.pending = s.pending ∧ s.freeRequest.temp.samples = s.temp.samples ∧
    s.freeRequest.temp.table = s.temp.table ∧ s.freeRequest.temp.excursion = s.temp.excursion ∧
    s.freeRequest.solver.steerF = s.solver.steerF ∧ s.freeRequest.solver.lastC = s.solver.lastC ∧
    s.freeRequest.solver.lastA = s.solver.lastA ∧ s.freeRequest.gen.inForce = s.gen.inForce ∧
    s.freeRequest.gen.filtered = s.gen.filtered ∧ s.freeRequest.gen.filterTimer = s.gen.filterTimer ∧
    s.freeRequest.port.record = s.port.record ∧ s.freeRequest.port.transaction = s.port.transaction ∧
    s.freeRequest.port.slot = s.port.slot ∧ s.freeRequest.port.queue = s.port.queue ∧
    s.freeRequest.port.nextSeq = s.port.nextSeq ∧ s.freeRequest.port.lost = s.port.lost ∧
    s.freeRequest.port.snapSkip = s.port.snapSkip ∧ s.freeRequest.port.snapPost = s.port.snapPost ∧
    s.freeRequest.port.sdo = s.port.sdo ∧ s.freeRequest.ts.base = s.ts.base ∧ s.freeRequest.ts.tau = s.ts.tau ∧
    s.freeRequest.ts.len = s.ts.len ∧ s.freeRequest.ts.epoch = s.ts.epoch ∧ s.freeRequest.ts.f = s.ts.f ∧
    s.freeRequest.ts.c = s.ts.c ∧ s.freeRequest.ts.carry = s.ts.carry ∧
    s.freeRequest.ts.pendStep = s.ts.pendStep ∧ s.freeRequest.ts.pendAdopt = s.ts.pendAdopt ∧
    s.freeRequest.ts.replay = s.ts.replay ∧ s.freeRequest.ts.stepBegan = s.ts.stepBegan ∧
    s.freeRequest.ts.groupA = s.ts.groupA ∧ s.freeRequest.ts.groupB = s.ts.groupB ∧
    s.freeRequest.ts.raised = s.ts.raised := by
  and_intros <;> (unfold State.freeRequest; dsimp only; split <;> simp)

/-- What `setRefState` keeps. -/
@[simp] theorem setRefState_keeps (s : State) (x : RefState) :
    (s.setRefState x).pins = s.pins ∧ (s.setRefState x).mark = s.mark ∧ (s.setRefState x).frame = s.frame ∧
    (s.setRefState x).mem = s.mem ∧ (s.setRefState x).roster = s.roster ∧
    (s.setRefState x).pending = s.pending ∧ (s.setRefState x).temp.samples = s.temp.samples ∧
    (s.setRefState x).temp.table = s.temp.table ∧ (s.setRefState x).temp.excursion = s.temp.excursion ∧
    (s.setRefState x).solver.steerF = s.solver.steerF ∧ (s.setRefState x).solver.lastC = s.solver.lastC ∧
    (s.setRefState x).solver.lastA = s.solver.lastA ∧ (s.setRefState x).gen.inForce = s.gen.inForce ∧
    (s.setRefState x).gen.filtered = s.gen.filtered ∧ (s.setRefState x).gen.filterTimer = s.gen.filterTimer ∧
    (s.setRefState x).port.record = s.port.record ∧ (s.setRefState x).port.transaction = s.port.transaction ∧
    (s.setRefState x).port.slot = s.port.slot ∧ (s.setRefState x).port.queue = s.port.queue ∧
    (s.setRefState x).port.nextSeq = s.port.nextSeq ∧ (s.setRefState x).port.lost = s.port.lost ∧
    (s.setRefState x).port.snapSkip = s.port.snapSkip ∧ (s.setRefState x).port.snapPost = s.port.snapPost ∧
    (s.setRefState x).port.sdo = s.port.sdo ∧ (s.setRefState x).ts.base = s.ts.base ∧
    (s.setRefState x).ts.tau = s.ts.tau ∧ (s.setRefState x).ts.len = s.ts.len ∧
    (s.setRefState x).ts.epoch = s.ts.epoch ∧ (s.setRefState x).ts.f = s.ts.f ∧
    (s.setRefState x).ts.c = s.ts.c ∧ (s.setRefState x).ts.carry = s.ts.carry ∧
    (s.setRefState x).ts.pendStep = s.ts.pendStep ∧ (s.setRefState x).ts.pendAdopt = s.ts.pendAdopt ∧
    (s.setRefState x).ts.replay = s.ts.replay ∧ (s.setRefState x).ts.stepBegan = s.ts.stepBegan ∧
    (s.setRefState x).ts.groupA = s.ts.groupA ∧ (s.setRefState x).ts.groupB = s.ts.groupB ∧
    (s.setRefState x).ts.raised = s.ts.raised ∧ (s.setRefState x).ref.probCount = s.ref.probCount ∧
    (s.setRefState x).ref.missCount = s.ref.missCount ∧ (s.setRefState x).ref.outliers = s.ref.outliers ∧
    (s.setRefState x).ref.ring = s.ref.ring ∧ (s.setRefState x).ref.tally = s.ref.tally ∧
    (s.setRefState x).ref.interval = s.ref.interval ∧ (s.setRefState x).ref.record = s.ref.record ∧
    (s.setRefState x).ref.candidate = s.ref.candidate ∧ (s.setRefState x).ref.blanking = s.ref.blanking := by
  and_intros <;> (unfold State.setRefState; dsimp only; split <;> simp)

/-- What `loseRef` keeps. -/
@[simp] theorem loseRef_keeps (s : State) (c : LossCause) :
    (s.loseRef c).pins = s.pins ∧ (s.loseRef c).mark = s.mark ∧ (s.loseRef c).frame = s.frame ∧
    (s.loseRef c).mem = s.mem ∧ (s.loseRef c).roster = s.roster ∧ (s.loseRef c).pending = s.pending ∧
    (s.loseRef c).temp.samples = s.temp.samples ∧ (s.loseRef c).temp.table = s.temp.table ∧
    (s.loseRef c).temp.excursion = s.temp.excursion ∧ (s.loseRef c).solver.steerF = s.solver.steerF ∧
    (s.loseRef c).solver.lastC = s.solver.lastC ∧ (s.loseRef c).solver.lastA = s.solver.lastA ∧
    (s.loseRef c).gen.inForce = s.gen.inForce ∧ (s.loseRef c).gen.filtered = s.gen.filtered ∧
    (s.loseRef c).gen.filterTimer = s.gen.filterTimer ∧ (s.loseRef c).port.record = s.port.record ∧
    (s.loseRef c).port.transaction = s.port.transaction ∧ (s.loseRef c).port.slot = s.port.slot ∧
    (s.loseRef c).port.queue = s.port.queue ∧ (s.loseRef c).port.nextSeq = s.port.nextSeq ∧
    (s.loseRef c).port.lost = s.port.lost ∧ (s.loseRef c).port.snapSkip = s.port.snapSkip ∧
    (s.loseRef c).port.snapPost = s.port.snapPost ∧ (s.loseRef c).port.sdo = s.port.sdo ∧
    (s.loseRef c).ts.base = s.ts.base ∧ (s.loseRef c).ts.tau = s.ts.tau ∧ (s.loseRef c).ts.len = s.ts.len ∧
    (s.loseRef c).ts.epoch = s.ts.epoch ∧ (s.loseRef c).ts.f = s.ts.f ∧ (s.loseRef c).ts.c = s.ts.c ∧
    (s.loseRef c).ts.carry = s.ts.carry ∧ (s.loseRef c).ts.pendStep = s.ts.pendStep ∧
    (s.loseRef c).ts.pendAdopt = s.ts.pendAdopt ∧ (s.loseRef c).ts.replay = s.ts.replay ∧
    (s.loseRef c).ts.stepBegan = s.ts.stepBegan ∧ (s.loseRef c).ts.groupA = s.ts.groupA ∧
    (s.loseRef c).ts.groupB = s.ts.groupB ∧ (s.loseRef c).ts.raised = s.ts.raised ∧
    (s.loseRef c).ref.tally = s.ref.tally ∧ (s.loseRef c).ref.interval = s.ref.interval ∧
    (s.loseRef c).ref.record = s.ref.record ∧ (s.loseRef c).ref.candidate = s.ref.candidate ∧
    (s.loseRef c).ref.blanking = s.ref.blanking := by
  and_intros <;> (simp [State.loseRef])

/-- What `closeInterval` keeps. -/
@[simp] theorem closeInterval_keeps (s : State) :
    s.closeInterval.2.pins = s.pins ∧ s.closeInterval.2.mark = s.mark ∧ s.closeInterval.2.frame = s.frame ∧
    s.closeInterval.2.mem = s.mem ∧ s.closeInterval.2.roster = s.roster ∧
    s.closeInterval.2.pending = s.pending ∧ s.closeInterval.2.temp.samples = s.temp.samples ∧
    s.closeInterval.2.temp.table = s.temp.table ∧ s.closeInterval.2.temp.excursion = s.temp.excursion ∧
    s.closeInterval.2.solver.steerF = s.solver.steerF ∧ s.closeInterval.2.solver.lastC = s.solver.lastC ∧
    s.closeInterval.2.solver.lastA = s.solver.lastA ∧ s.closeInterval.2.gen.inForce = s.gen.inForce ∧
    s.closeInterval.2.gen.filtered = s.gen.filtered ∧ s.closeInterval.2.gen.filterTimer = s.gen.filterTimer ∧
    s.closeInterval.2.port.record = s.port.record ∧ s.closeInterval.2.port.transaction = s.port.transaction ∧
    s.closeInterval.2.port.slot = s.port.slot ∧ s.closeInterval.2.port.queue = s.port.queue ∧
    s.closeInterval.2.port.nextSeq = s.port.nextSeq ∧ s.closeInterval.2.port.lost = s.port.lost ∧
    s.closeInterval.2.port.snapSkip = s.port.snapSkip ∧ s.closeInterval.2.port.snapPost = s.port.snapPost ∧
    s.closeInterval.2.port.sdo = s.port.sdo ∧ s.closeInterval.2.ts.base = s.ts.base ∧
    s.closeInterval.2.ts.tau = s.ts.tau ∧ s.closeInterval.2.ts.len = s.ts.len ∧
    s.closeInterval.2.ts.epoch = s.ts.epoch ∧ s.closeInterval.2.ts.f = s.ts.f ∧
    s.closeInterval.2.ts.c = s.ts.c ∧ s.closeInterval.2.ts.carry = s.ts.carry ∧
    s.closeInterval.2.ts.pendStep = s.ts.pendStep ∧ s.closeInterval.2.ts.pendAdopt = s.ts.pendAdopt ∧
    s.closeInterval.2.ts.replay = s.ts.replay ∧ s.closeInterval.2.ts.stepBegan = s.ts.stepBegan ∧
    s.closeInterval.2.ts.groupA = s.ts.groupA ∧ s.closeInterval.2.ts.groupB = s.ts.groupB ∧
    s.closeInterval.2.ts.raised = s.ts.raised ∧ s.closeInterval.2.ref.tally = s.ref.tally ∧
    s.closeInterval.2.ref.candidate = s.ref.candidate ∧ s.closeInterval.2.ref.blanking = s.ref.blanking := by
  and_intros <;> (unfold State.closeInterval State.closeByState State.closeTracked; dsimp only; (repeat' split) <;> simp)

/-- A prediction uses at most one free value. -/
theorem predict_shape (s : State) : ∃ n, s.predict.2 = { s with freeCount := n } := by
  unfold State.predict
  split
  · split <;> exact ⟨_, rfl⟩
  · exact ⟨_, rfl⟩

/-- What `trackEdge` keeps. -/
@[simp] theorem trackEdge_keeps (s : State) (e : RefEntry) :
    (s.trackEdge e).pins = s.pins ∧ (s.trackEdge e).mark = s.mark ∧ (s.trackEdge e).frame = s.frame ∧
    (s.trackEdge e).mem = s.mem ∧ (s.trackEdge e).roster = s.roster ∧ (s.trackEdge e).pending = s.pending ∧
    (s.trackEdge e).temp.samples = s.temp.samples ∧ (s.trackEdge e).temp.table = s.temp.table ∧
    (s.trackEdge e).temp.excursion = s.temp.excursion ∧ (s.trackEdge e).solver.steerF = s.solver.steerF ∧
    (s.trackEdge e).solver.lastC = s.solver.lastC ∧ (s.trackEdge e).solver.lastA = s.solver.lastA ∧
    (s.trackEdge e).gen.inForce = s.gen.inForce ∧ (s.trackEdge e).gen.filtered = s.gen.filtered ∧
    (s.trackEdge e).gen.filterTimer = s.gen.filterTimer ∧ (s.trackEdge e).port.record = s.port.record ∧
    (s.trackEdge e).port.transaction = s.port.transaction ∧ (s.trackEdge e).port.slot = s.port.slot ∧
    (s.trackEdge e).port.queue = s.port.queue ∧ (s.trackEdge e).port.nextSeq = s.port.nextSeq ∧
    (s.trackEdge e).port.lost = s.port.lost ∧ (s.trackEdge e).port.snapSkip = s.port.snapSkip ∧
    (s.trackEdge e).port.snapPost = s.port.snapPost ∧ (s.trackEdge e).port.sdo = s.port.sdo ∧
    (s.trackEdge e).ts.base = s.ts.base ∧ (s.trackEdge e).ts.tau = s.ts.tau ∧ (s.trackEdge e).ts.len = s.ts.len ∧
    (s.trackEdge e).ts.epoch = s.ts.epoch ∧ (s.trackEdge e).ts.f = s.ts.f ∧ (s.trackEdge e).ts.c = s.ts.c ∧
    (s.trackEdge e).ts.carry = s.ts.carry ∧ (s.trackEdge e).ts.pendStep = s.ts.pendStep ∧
    (s.trackEdge e).ts.pendAdopt = s.ts.pendAdopt ∧ (s.trackEdge e).ts.replay = s.ts.replay ∧
    (s.trackEdge e).ts.stepBegan = s.ts.stepBegan ∧ (s.trackEdge e).ts.groupA = s.ts.groupA ∧
    (s.trackEdge e).ts.groupB = s.ts.groupB ∧ (s.trackEdge e).ts.raised = s.ts.raised ∧
    (s.trackEdge e).ref.tally = s.ref.tally ∧ (s.trackEdge e).ref.interval = s.ref.interval ∧
    (s.trackEdge e).ref.candidate = s.ref.candidate ∧ (s.trackEdge e).ref.blanking = s.ref.blanking := by
  obtain ⟨n, h⟩ := predict_shape s
  simp only [State.trackEdge]
  generalize s.predict = c at h
  obtain ⟨x, s'⟩ := c
  subst h
  and_intros <;> (unfold State.takePulse State.takeOutlier State.refStepped; dsimp only; (repeat' split) <;> simp)

/-- What `takeEdge` keeps. -/
@[simp] theorem takeEdge_keeps (s : State) (e : RefEntry) :
    (s.takeEdge e).pins = s.pins ∧ (s.takeEdge e).mark = s.mark ∧ (s.takeEdge e).frame = s.frame ∧
    (s.takeEdge e).mem = s.mem ∧ (s.takeEdge e).roster = s.roster ∧ (s.takeEdge e).pending = s.pending ∧
    (s.takeEdge e).temp.samples = s.temp.samples ∧ (s.takeEdge e).temp.table = s.temp.table ∧
    (s.takeEdge e).temp.excursion = s.temp.excursion ∧ (s.takeEdge e).solver.steerF = s.solver.steerF ∧
    (s.takeEdge e).solver.lastC = s.solver.lastC ∧ (s.takeEdge e).solver.lastA = s.solver.lastA ∧
    (s.takeEdge e).gen.inForce = s.gen.inForce ∧ (s.takeEdge e).gen.filtered = s.gen.filtered ∧
    (s.takeEdge e).gen.filterTimer = s.gen.filterTimer ∧ (s.takeEdge e).port.record = s.port.record ∧
    (s.takeEdge e).port.transaction = s.port.transaction ∧ (s.takeEdge e).port.slot = s.port.slot ∧
    (s.takeEdge e).port.queue = s.port.queue ∧ (s.takeEdge e).port.nextSeq = s.port.nextSeq ∧
    (s.takeEdge e).port.lost = s.port.lost ∧ (s.takeEdge e).port.snapSkip = s.port.snapSkip ∧
    (s.takeEdge e).port.snapPost = s.port.snapPost ∧ (s.takeEdge e).port.sdo = s.port.sdo ∧
    (s.takeEdge e).ts.base = s.ts.base ∧ (s.takeEdge e).ts.tau = s.ts.tau ∧ (s.takeEdge e).ts.len = s.ts.len ∧
    (s.takeEdge e).ts.epoch = s.ts.epoch ∧ (s.takeEdge e).ts.f = s.ts.f ∧ (s.takeEdge e).ts.c = s.ts.c ∧
    (s.takeEdge e).ts.carry = s.ts.carry ∧ (s.takeEdge e).ts.pendStep = s.ts.pendStep ∧
    (s.takeEdge e).ts.pendAdopt = s.ts.pendAdopt ∧ (s.takeEdge e).ts.replay = s.ts.replay ∧
    (s.takeEdge e).ts.stepBegan = s.ts.stepBegan ∧ (s.takeEdge e).ts.groupA = s.ts.groupA ∧
    (s.takeEdge e).ts.groupB = s.ts.groupB ∧ (s.takeEdge e).ts.raised = s.ts.raised ∧
    (s.takeEdge e).ref.tally = s.ref.tally ∧ (s.takeEdge e).ref.interval = s.ref.interval ∧
    (s.takeEdge e).ref.candidate = s.ref.candidate ∧ (s.takeEdge e).ref.blanking = s.ref.blanking := by
  and_intros <;> (unfold State.takeEdge State.startProbation State.probationEdge State.qualify; dsimp only; (repeat' split) <;> simp)

/-- What `acceptEdge` keeps. -/
@[simp] theorem acceptEdge_keeps (s : State) (c : RefCandidate) :
    (s.acceptEdge c).pins = s.pins ∧ (s.acceptEdge c).mark = s.mark ∧ (s.acceptEdge c).frame = s.frame ∧
    (s.acceptEdge c).mem = s.mem ∧ (s.acceptEdge c).roster = s.roster ∧ (s.acceptEdge c).pending = s.pending ∧
    (s.acceptEdge c).temp.samples = s.temp.samples ∧ (s.acceptEdge c).temp.table = s.temp.table ∧
    (s.acceptEdge c).temp.excursion = s.temp.excursion ∧ (s.acceptEdge c).solver.steerF = s.solver.steerF ∧
    (s.acceptEdge c).solver.lastC = s.solver.lastC ∧ (s.acceptEdge c).solver.lastA = s.solver.lastA ∧
    (s.acceptEdge c).gen.inForce = s.gen.inForce ∧ (s.acceptEdge c).gen.filtered = s.gen.filtered ∧
    (s.acceptEdge c).gen.filterTimer = s.gen.filterTimer ∧ (s.acceptEdge c).port.record = s.port.record ∧
    (s.acceptEdge c).port.transaction = s.port.transaction ∧ (s.acceptEdge c).port.slot = s.port.slot ∧
    (s.acceptEdge c).port.queue = s.port.queue ∧ (s.acceptEdge c).port.nextSeq = s.port.nextSeq ∧
    (s.acceptEdge c).port.lost = s.port.lost ∧ (s.acceptEdge c).port.snapSkip = s.port.snapSkip ∧
    (s.acceptEdge c).port.snapPost = s.port.snapPost ∧ (s.acceptEdge c).port.sdo = s.port.sdo ∧
    (s.acceptEdge c).ts.base = s.ts.base ∧ (s.acceptEdge c).ts.tau = s.ts.tau ∧
    (s.acceptEdge c).ts.len = s.ts.len ∧ (s.acceptEdge c).ts.epoch = s.ts.epoch ∧
    (s.acceptEdge c).ts.f = s.ts.f ∧ (s.acceptEdge c).ts.c = s.ts.c ∧ (s.acceptEdge c).ts.carry = s.ts.carry ∧
    (s.acceptEdge c).ts.pendStep = s.ts.pendStep ∧ (s.acceptEdge c).ts.pendAdopt = s.ts.pendAdopt ∧
    (s.acceptEdge c).ts.replay = s.ts.replay ∧ (s.acceptEdge c).ts.stepBegan = s.ts.stepBegan ∧
    (s.acceptEdge c).ts.groupA = s.ts.groupA ∧ (s.acceptEdge c).ts.groupB = s.ts.groupB ∧
    (s.acceptEdge c).ts.raised = s.ts.raised ∧ (s.acceptEdge c).ref.tally = s.ref.tally ∧
    (s.acceptEdge c).ref.interval = s.ref.interval := by
  and_intros <;> (unfold State.acceptEdge; dsimp only; (repeat' split) <;> simp)

/-! ## The inputs synchronised to OSCIN (R19, R171) -/

/-- A level that is taken already is no transition. -/
theorem refinTaken_same (s : State) (l : Level) (h : s.pins.refin = l) : s.refinTaken l = s := by
  simp [State.refinTaken, h]

theorem refvalidTaken_same (s : State) (a : Bool) (h : s.pins.refvalid = a) : s.refvalidTaken a = s := by
  simp [State.refvalidTaken, h]

theorem inhibitTaken_same (s : State) (a : Bool) (h : s.pins.inhibit = a) : s.inhibitTaken a = s := by
  simp [State.inhibitTaken, h]

/-- Of the pins only the synchronised level itself changes. -/
@[simp] theorem refinTaken_pins (s : State) (l : Level) : (s.refinTaken l).pins = { s.pins with refin := l } := by
  unfold State.refinTaken
  split
  next h => simp [← h]
  next h =>
    simp only [State.selectedTransition]
    split
    · rfl
    · split
      · split
        · rfl
        · split <;> simp
      · rfl

@[simp] theorem refvalidTaken_pins (s : State) (a : Bool) :
    (s.refvalidTaken a).pins = { s.pins with refvalid := a } := by
  unfold State.refvalidTaken
  split
  next h => simp [← h]
  next h =>
    simp only [State.refvalidLost]
    split
    · split <;> simp
    · rfl

@[simp] theorem inhibitTaken_pins (s : State) (a : Bool) :
    (s.inhibitTaken a).pins = { s.pins with inhibit := a } := by
  unfold State.inhibitTaken
  split
  next h => simp [← h]
  next h => dsimp only; split <;> rfl

/-- What `memberAdopted` keeps. -/
@[simp] theorem memberAdopted_keeps (s : State) (ev : BoundaryEvent) :
    (s.memberAdopted ev).pins = s.pins ∧ (s.memberAdopted ev).ts = s.ts ∧ (s.memberAdopted ev).ref = s.ref ∧
    (s.memberAdopted ev).mark = s.mark ∧ (s.memberAdopted ev).frame = s.frame ∧
    (s.memberAdopted ev).roster = s.roster ∧ (s.memberAdopted ev).solver = s.solver ∧
    (s.memberAdopted ev).temp = s.temp ∧ (s.memberAdopted ev).gen = s.gen ∧
    (s.memberAdopted ev).freeCount = s.freeCount ∧ (s.memberAdopted ev).pending = s.pending ∧
    (s.memberAdopted ev).mem.nodeId = s.mem.nodeId ∧
    (s.memberAdopted ev).mem.reasonCommand = s.mem.reasonCommand ∧
    (s.memberAdopted ev).mem.reasonSupply = s.mem.reasonSupply ∧
    (s.memberAdopted ev).mem.supplyIsLow = s.mem.supplyIsLow ∧
    (s.memberAdopted ev).mem.supplyTimer = s.mem.supplyTimer ∧ (s.memberAdopted ev).mem.state = s.mem.state ∧
    (s.memberAdopted ev).port.record = s.port.record ∧
    (s.memberAdopted ev).port.transaction = s.port.transaction ∧ (s.memberAdopted ev).port.slot = s.port.slot ∧
    (s.memberAdopted ev).port.queue = s.port.queue ∧ (s.memberAdopted ev).port.nextSeq = s.port.nextSeq ∧
    (s.memberAdopted ev).port.lost = s.port.lost ∧ (s.memberAdopted ev).port.snapSkip = s.port.snapSkip ∧
    (s.memberAdopted ev).port.snapPost = s.port.snapPost ∧ (s.memberAdopted ev).port.sdo = s.port.sdo := by
  and_intros <;> (unfold State.memberAdopted; (repeat' split) <;> rfl)

/-- What `judgeListening` keeps. -/
@[simp] theorem judgeListening_keeps (s : State) :
    s.judgeListening.pins = s.pins ∧ s.judgeListening.ts = s.ts ∧ s.judgeListening.ref = s.ref ∧
    s.judgeListening.temp = s.temp ∧ s.judgeListening.gen = s.gen ∧
    s.judgeListening.freeCount = s.freeCount ∧ s.judgeListening.pending = s.pending ∧
    s.judgeListening.mem.nodeId = s.mem.nodeId ∧
    s.judgeListening.mem.reasonCommand = s.mem.reasonCommand ∧
    s.judgeListening.mem.reasonSupply = s.mem.reasonSupply ∧
    s.judgeListening.mem.supplyIsLow = s.mem.supplyIsLow ∧
    s.judgeListening.mem.supplyTimer = s.mem.supplyTimer ∧
    s.judgeListening.mark.fault = s.mark.fault ∧
    s.judgeListening.mark.strayCount = s.mark.strayCount ∧
    s.judgeListening.mark.contestedCount = s.mark.contestedCount ∧
    s.judgeListening.mark.strayEpoch = s.mark.strayEpoch ∧
    s.judgeListening.mark.lowTimer = s.mark.lowTimer ∧
    s.judgeListening.mark.recovery = s.mark.recovery ∧
    s.judgeListening.mark.highTime = s.mark.highTime ∧
    s.judgeListening.mark.candidate = s.mark.candidate ∧
    s.judgeListening.frame.windowOpen = s.frame.windowOpen ∧
    s.judgeListening.frame.receipt = s.frame.receipt ∧ s.judgeListening.frame.fault = s.frame.fault ∧
    s.judgeListening.frame.unsent = s.frame.unsent ∧
    s.judgeListening.frame.crcErrors = s.frame.crcErrors ∧
    s.judgeListening.frame.formatErrors = s.frame.formatErrors ∧
    s.judgeListening.frame.truncatedErrors = s.frame.truncatedErrors ∧
    s.judgeListening.frame.epochErrors = s.frame.epochErrors ∧
    s.judgeListening.frame.errorEpoch = s.frame.errorEpoch ∧
    s.judgeListening.frame.lowTimer = s.frame.lowTimer ∧
    s.judgeListening.frame.idleTimer = s.frame.idleTimer ∧ s.judgeListening.frame.rx = s.frame.rx ∧
    s.judgeListening.solver.timing = s.solver.timing ∧
    s.judgeListening.solver.target = s.solver.target ∧
    s.judgeListening.solver.validTime = s.solver.validTime ∧
    s.judgeListening.solver.stateHeld = s.solver.stateHeld ∧
    s.judgeListening.solver.steerF = s.solver.steerF ∧
    s.judgeListening.solver.bound = s.solver.bound ∧
    s.judgeListening.solver.overBudget = s.solver.overBudget ∧
    s.judgeListening.solver.timeValid = s.solver.timeValid ∧
    s.judgeListening.port.record = s.port.record ∧
    s.judgeListening.port.transaction = s.port.transaction ∧
    s.judgeListening.port.slot = s.port.slot ∧ s.judgeListening.port.queue = s.port.queue ∧
    s.judgeListening.port.nextSeq = s.port.nextSeq ∧ s.judgeListening.port.lost = s.port.lost ∧
    s.judgeListening.port.snapSkip = s.port.snapSkip ∧
    s.judgeListening.port.snapPost = s.port.snapPost ∧ s.judgeListening.port.sdo = s.port.sdo ∧
    s.judgeListening.roster.adoptionOutstanding = s.roster.adoptionOutstanding := by
  and_intros <;> (unfold State.judgeListening; dsimp only; (repeat' split) <;> simp)

/-- What `judgeJoining` keeps. -/
@[simp] theorem judgeJoining_keeps (s : State) :
    s.judgeJoining.pins = s.pins ∧ s.judgeJoining.ts = s.ts ∧ s.judgeJoining.ref = s.ref ∧
    s.judgeJoining.temp = s.temp ∧ s.judgeJoining.gen = s.gen ∧ s.judgeJoining.freeCount = s.freeCount ∧
    s.judgeJoining.pending = s.pending ∧ s.judgeJoining.mem.nodeId = s.mem.nodeId ∧
    s.judgeJoining.mem.reasonCommand = s.mem.reasonCommand ∧
    s.judgeJoining.mem.reasonSupply = s.mem.reasonSupply ∧ s.judgeJoining.mem.supplyIsLow = s.mem.supplyIsLow ∧
    s.judgeJoining.mem.supplyTimer = s.mem.supplyTimer ∧ s.judgeJoining.mark.fault = s.mark.fault ∧
    s.judgeJoining.mark.strayCount = s.mark.strayCount ∧
    s.judgeJoining.mark.contestedCount = s.mark.contestedCount ∧
    s.judgeJoining.mark.strayEpoch = s.mark.strayEpoch ∧ s.judgeJoining.mark.lowTimer = s.mark.lowTimer ∧
    s.judgeJoining.mark.recovery = s.mark.recovery ∧ s.judgeJoining.mark.highTime = s.mark.highTime ∧
    s.judgeJoining.mark.candidate = s.mark.candidate ∧ s.judgeJoining.frame.windowOpen = s.frame.windowOpen ∧
    s.judgeJoining.frame.receipt = s.frame.receipt ∧ s.judgeJoining.frame.fault = s.frame.fault ∧
    s.judgeJoining.frame.unsent = s.frame.unsent ∧ s.judgeJoining.frame.crcErrors = s.frame.crcErrors ∧
    s.judgeJoining.frame.formatErrors = s.frame.formatErrors ∧
    s.judgeJoining.frame.truncatedErrors = s.frame.truncatedErrors ∧
    s.judgeJoining.frame.epochErrors = s.frame.epochErrors ∧
    s.judgeJoining.frame.errorEpoch = s.frame.errorEpoch ∧ s.judgeJoining.frame.lowTimer = s.frame.lowTimer ∧
    s.judgeJoining.frame.idleTimer = s.frame.idleTimer ∧ s.judgeJoining.frame.rx = s.frame.rx ∧
    s.judgeJoining.solver.timing = s.solver.timing ∧ s.judgeJoining.solver.target = s.solver.target ∧
    s.judgeJoining.solver.validTime = s.solver.validTime ∧
    s.judgeJoining.solver.stateHeld = s.solver.stateHeld ∧ s.judgeJoining.solver.steerF = s.solver.steerF ∧
    s.judgeJoining.solver.bound = s.solver.bound ∧ s.judgeJoining.solver.overBudget = s.solver.overBudget ∧
    s.judgeJoining.solver.timeValid = s.solver.timeValid ∧ s.judgeJoining.port.record = s.port.record ∧
    s.judgeJoining.port.transaction = s.port.transaction ∧ s.judgeJoining.port.slot = s.port.slot ∧
    s.judgeJoining.port.queue = s.port.queue ∧ s.judgeJoining.port.nextSeq = s.port.nextSeq ∧
    s.judgeJoining.port.lost = s.port.lost ∧ s.judgeJoining.port.snapSkip = s.port.snapSkip ∧
    s.judgeJoining.port.snapPost = s.port.snapPost ∧ s.judgeJoining.port.sdo = s.port.sdo ∧
    s.judgeJoining.roster.adoptionOutstanding = s.roster.adoptionOutstanding := by
  and_intros <;> (unfold State.judgeJoining State.judgeTimeout; dsimp only; (repeat' split) <;> simp)

/-- The applied step touches the history and its newest train start alone. -/
@[simp] theorem historyAtBoundary_keeps (m : Membership) (ev : BoundaryEvent) :
    (m.historyAtBoundary ev).nodeId = m.nodeId ∧ (m.historyAtBoundary ev).state = m.state ∧
    (m.historyAtBoundary ev).reasonCommand = m.reasonCommand ∧
    (m.historyAtBoundary ev).reasonSupply = m.reasonSupply ∧
    (m.historyAtBoundary ev).quietCount = m.quietCount ∧ (m.historyAtBoundary ev).heard = m.heard ∧
    (m.historyAtBoundary ev).frameRecord = m.frameRecord ∧
    (m.historyAtBoundary ev).closedRecord = m.closedRecord ∧
    (m.historyAtBoundary ev).trainStart = m.trainStart ∧
    (m.historyAtBoundary ev).aligningCount = m.aligningCount ∧
    (m.historyAtBoundary ev).emptyCount = m.emptyCount ∧ (m.historyAtBoundary ev).joinSenders = m.joinSenders ∧
    (m.historyAtBoundary ev).joinHeard = m.joinHeard ∧ (m.historyAtBoundary ev).joinCounter = m.joinCounter ∧
    (m.historyAtBoundary ev).joinQuiet = m.joinQuiet ∧ (m.historyAtBoundary ev).evidenceThis = m.evidenceThis ∧
    (m.historyAtBoundary ev).evidenceLast = m.evidenceLast ∧
    (m.historyAtBoundary ev).adoptionOutstanding = m.adoptionOutstanding ∧
    (m.historyAtBoundary ev).supplyIsLow = m.supplyIsLow ∧
    (m.historyAtBoundary ev).supplyTimer = m.supplyTimer := by
  and_intros <;> (unfold Membership.historyAtBoundary; split <;> rfl)

/-- What `memberBoundary` keeps. -/
@[simp] theorem memberBoundary_keeps (s : State) (ev : BoundaryEvent) :
    (s.memberBoundary ev).pins = s.pins ∧ (s.memberBoundary ev).ts = s.ts ∧ (s.memberBoundary ev).ref = s.ref ∧
    (s.memberBoundary ev).temp = s.temp ∧ (s.memberBoundary ev).gen = s.gen ∧
    (s.memberBoundary ev).freeCount = s.freeCount ∧ (s.memberBoundary ev).pending = s.pending ∧
    (s.memberBoundary ev).mem.nodeId = s.mem.nodeId ∧
    (s.memberBoundary ev).mem.reasonCommand = s.mem.reasonCommand ∧
    (s.memberBoundary ev).mem.reasonSupply = s.mem.reasonSupply ∧
    (s.memberBoundary ev).mem.supplyIsLow = s.mem.supplyIsLow ∧
    (s.memberBoundary ev).mem.supplyTimer = s.mem.supplyTimer ∧
    (s.memberBoundary ev).mark.fault = s.mark.fault ∧
    (s.memberBoundary ev).mark.strayCount = s.mark.strayCount ∧
    (s.memberBoundary ev).mark.contestedCount = s.mark.contestedCount ∧
    (s.memberBoundary ev).mark.strayEpoch = s.mark.strayEpoch ∧
    (s.memberBoundary ev).mark.lowTimer = s.mark.lowTimer ∧
    (s.memberBoundary ev).mark.recovery = s.mark.recovery ∧
    (s.memberBoundary ev).mark.highTime = s.mark.highTime ∧
    (s.memberBoundary ev).mark.candidate = s.mark.candidate ∧
    (s.memberBoundary ev).frame.windowOpen = s.frame.windowOpen ∧
    (s.memberBoundary ev).frame.receipt = s.frame.receipt ∧ (s.memberBoundary ev).frame.fault = s.frame.fault ∧
    (s.memberBoundary ev).frame.unsent = s.frame.unsent ∧
    (s.memberBoundary ev).frame.crcErrors = s.frame.crcErrors ∧
    (s.memberBoundary ev).frame.formatErrors = s.frame.formatErrors ∧
    (s.memberBoundary ev).frame.truncatedErrors = s.frame.truncatedErrors ∧
    (s.memberBoundary ev).frame.epochErrors = s.frame.epochErrors ∧
    (s.memberBoundary ev).frame.errorEpoch = s.frame.errorEpoch ∧
    (s.memberBoundary ev).frame.lowTimer = s.frame.lowTimer ∧
    (s.memberBoundary ev).frame.idleTimer = s.frame.idleTimer ∧ (s.memberBoundary ev).frame.rx = s.frame.rx ∧
    (s.memberBoundary ev).solver.timing = s.solver.timing ∧
    (s.memberBoundary ev).solver.target = s.solver.target ∧
    (s.memberBoundary ev).solver.validTime = s.solver.validTime ∧
    (s.memberBoundary ev).solver.stateHeld = s.solver.stateHeld ∧
    (s.memberBoundary ev).solver.steerF = s.solver.steerF ∧
    (s.memberBoundary ev).solver.bound = s.solver.bound ∧
    (s.memberBoundary ev).solver.overBudget = s.solver.overBudget ∧
    (s.memberBoundary ev).solver.timeValid = s.solver.timeValid ∧
    (s.memberBoundary ev).port.record = s.port.record ∧
    (s.memberBoundary ev).port.transaction = s.port.transaction ∧
    (s.memberBoundary ev).port.slot = s.port.slot ∧ (s.memberBoundary ev).port.queue = s.port.queue ∧
    (s.memberBoundary ev).port.nextSeq = s.port.nextSeq ∧ (s.memberBoundary ev).port.lost = s.port.lost ∧
    (s.memberBoundary ev).port.snapSkip = s.port.snapSkip ∧
    (s.memberBoundary ev).port.snapPost = s.port.snapPost ∧ (s.memberBoundary ev).port.sdo = s.port.sdo ∧
    (s.memberBoundary ev).roster.adoptionOutstanding = s.roster.adoptionOutstanding := by
  and_intros <;> (unfold State.memberBoundary; dsimp only [Membership.shiftEvidence]; (repeat' split) <;> simp)

/-- What `rosterBoundary` keeps. -/
@[simp] theorem rosterBoundary_keeps (s : State) (ev : BoundaryEvent) :
    (s.rosterBoundary ev).pins = s.pins ∧ (s.rosterBoundary ev).ts = s.ts ∧ (s.rosterBoundary ev).ref = s.ref ∧
    (s.rosterBoundary ev).mark = s.mark ∧ (s.rosterBoundary ev).frame = s.frame ∧
    (s.rosterBoundary ev).mem = s.mem ∧ (s.rosterBoundary ev).solver = s.solver ∧
    (s.rosterBoundary ev).temp = s.temp ∧ (s.rosterBoundary ev).gen = s.gen ∧
    (s.rosterBoundary ev).freeCount = s.freeCount ∧ (s.rosterBoundary ev).pending = s.pending ∧
    (s.rosterBoundary ev).port.record = s.port.record ∧
    (s.rosterBoundary ev).port.transaction = s.port.transaction ∧
    (s.rosterBoundary ev).port.slot = s.port.slot ∧ (s.rosterBoundary ev).port.queue = s.port.queue ∧
    (s.rosterBoundary ev).port.nextSeq = s.port.nextSeq ∧ (s.rosterBoundary ev).port.lost = s.port.lost ∧
    (s.rosterBoundary ev).port.snapSkip = s.port.snapSkip ∧
    (s.rosterBoundary ev).port.snapPost = s.port.snapPost ∧ (s.rosterBoundary ev).port.sdo = s.port.sdo ∧
    (s.rosterBoundary ev).roster.openingMask = s.roster.openingMask := by
  and_intros <;> (unfold State.rosterBoundary State.rosterAdopted; dsimp only; (repeat' split) <;> rfl)

/-- What `reportEarly` keeps. -/
@[simp] theorem reportEarly_keeps (s : State) :
    s.reportEarly.ts = s.ts ∧ s.reportEarly.ref = s.ref ∧ s.reportEarly.temp = s.temp ∧
    s.reportEarly.gen = s.gen ∧ s.reportEarly.freeCount = s.freeCount ∧ s.reportEarly.pending = s.pending ∧
    s.reportEarly.pins.oscRunning = s.pins.oscRunning ∧ s.reportEarly.pins.resetHeld = s.pins.resetHeld ∧
    s.reportEarly.pins.refin = s.pins.refin ∧ s.reportEarly.pins.refvalid = s.pins.refvalid ∧
    s.reportEarly.pins.refinPin = s.pins.refinPin ∧
    s.reportEarly.pins.refvalidPin = s.pins.refvalidPin ∧ s.reportEarly.pins.inhibitPin = s.pins.inhibitPin ∧
    s.reportEarly.pins.mark = s.pins.mark ∧ s.reportEarly.pins.supply = s.pins.supply ∧
    s.reportEarly.pins.inhibit = s.pins.inhibit ∧ s.reportEarly.mem.nodeId = s.mem.nodeId ∧
    s.reportEarly.mem.reasonCommand = s.mem.reasonCommand ∧
    s.reportEarly.mem.reasonSupply = s.mem.reasonSupply ∧ s.reportEarly.mem.supplyIsLow = s.mem.supplyIsLow ∧
    s.reportEarly.mem.supplyTimer = s.mem.supplyTimer ∧ s.reportEarly.mark.fault = s.mark.fault ∧
    s.reportEarly.mark.strayCount = s.mark.strayCount ∧
    s.reportEarly.mark.contestedCount = s.mark.contestedCount ∧
    s.reportEarly.mark.strayEpoch = s.mark.strayEpoch ∧ s.reportEarly.mark.lowTimer = s.mark.lowTimer ∧
    s.reportEarly.mark.recovery = s.mark.recovery ∧ s.reportEarly.mark.highTime = s.mark.highTime ∧
    s.reportEarly.frame.windowOpen = s.frame.windowOpen ∧ s.reportEarly.frame.receipt = s.frame.receipt ∧
    s.reportEarly.frame.fault = s.frame.fault ∧ s.reportEarly.solver.timing = s.solver.timing ∧
    s.reportEarly.solver.target = s.solver.target ∧ s.reportEarly.solver.validTime = s.solver.validTime ∧
    s.reportEarly.solver.stateHeld = s.solver.stateHeld ∧ s.reportEarly.solver.steerF = s.solver.steerF ∧
    s.reportEarly.solver.bound = s.solver.bound ∧ s.reportEarly.solver.overBudget = s.solver.overBudget ∧
    s.reportEarly.solver.timeValid = s.solver.timeValid ∧ s.reportEarly.port.record = s.port.record ∧
    s.reportEarly.port.transaction = s.port.transaction ∧ s.reportEarly.port.slot = s.port.slot ∧
    s.reportEarly.port.queue = s.port.queue ∧ s.reportEarly.port.nextSeq = s.port.nextSeq ∧
    s.reportEarly.port.lost = s.port.lost ∧ s.reportEarly.port.snapSkip = s.port.snapSkip ∧
    s.reportEarly.port.snapPost = s.port.snapPost ∧ s.reportEarly.port.sdo = s.port.sdo ∧
    s.reportEarly.roster.adoptionOutstanding = s.roster.adoptionOutstanding := by
  and_intros <;> (unfold State.reportEarly; split <;> simp)

/-- What `markBoundary` keeps. -/
@[simp] theorem markBoundary_keeps (s : State) (b : Bool) :
    (s.markBoundary b).ts = s.ts ∧ (s.markBoundary b).ref = s.ref ∧ (s.markBoundary b).temp = s.temp ∧
    (s.markBoundary b).gen = s.gen ∧ (s.markBoundary b).freeCount = s.freeCount ∧
    (s.markBoundary b).pending = s.pending ∧ (s.markBoundary b).pins.oscRunning = s.pins.oscRunning ∧
    (s.markBoundary b).pins.resetHeld = s.pins.resetHeld ∧ (s.markBoundary b).pins.refin = s.pins.refin ∧
    (s.markBoundary b).pins.refvalid = s.pins.refvalid ∧ (s.markBoundary b).pins.refinPin = s.pins.refinPin ∧
    (s.markBoundary b).pins.refvalidPin = s.pins.refvalidPin ∧
    (s.markBoundary b).pins.inhibitPin = s.pins.inhibitPin ∧ (s.markBoundary b).pins.mark = s.pins.mark ∧
    (s.markBoundary b).pins.supply = s.pins.supply ∧ (s.markBoundary b).pins.inhibit = s.pins.inhibit ∧
    (s.markBoundary b).mem.nodeId = s.mem.nodeId ∧ (s.markBoundary b).mem.reasonCommand = s.mem.reasonCommand ∧
    (s.markBoundary b).mem.reasonSupply = s.mem.reasonSupply ∧
    (s.markBoundary b).mem.supplyIsLow = s.mem.supplyIsLow ∧
    (s.markBoundary b).mem.supplyTimer = s.mem.supplyTimer ∧ (s.markBoundary b).mark.fault = s.mark.fault ∧
    (s.markBoundary b).mark.strayCount = s.mark.strayCount ∧
    (s.markBoundary b).mark.contestedCount = s.mark.contestedCount ∧
    (s.markBoundary b).mark.strayEpoch = s.mark.strayEpoch ∧
    (s.markBoundary b).mark.lowTimer = s.mark.lowTimer ∧ (s.markBoundary b).mark.recovery = s.mark.recovery ∧
    (s.markBoundary b).mark.highTime = s.mark.highTime ∧
    (s.markBoundary b).frame.windowOpen = s.frame.windowOpen ∧
    (s.markBoundary b).frame.receipt = s.frame.receipt ∧ (s.markBoundary b).frame.fault = s.frame.fault ∧
    (s.markBoundary b).solver.timing = s.solver.timing ∧ (s.markBoundary b).solver.target = s.solver.target ∧
    (s.markBoundary b).solver.validTime = s.solver.validTime ∧
    (s.markBoundary b).solver.stateHeld = s.solver.stateHeld ∧
    (s.markBoundary b).solver.steerF = s.solver.steerF ∧ (s.markBoundary b).solver.bound = s.solver.bound ∧
    (s.markBoundary b).solver.overBudget = s.solver.overBudget ∧
    (s.markBoundary b).solver.timeValid = s.solver.timeValid ∧ (s.markBoundary b).port.record = s.port.record ∧
    (s.markBoundary b).port.transaction = s.port.transaction ∧ (s.markBoundary b).port.slot = s.port.slot ∧
    (s.markBoundary b).port.queue = s.port.queue ∧ (s.markBoundary b).port.nextSeq = s.port.nextSeq ∧
    (s.markBoundary b).port.lost = s.port.lost ∧ (s.markBoundary b).port.snapSkip = s.port.snapSkip ∧
    (s.markBoundary b).port.snapPost = s.port.snapPost ∧ (s.markBoundary b).port.sdo = s.port.sdo ∧
    (s.markBoundary b).roster.adoptionOutstanding = s.roster.adoptionOutstanding := by
  and_intros <;> (unfold State.markBoundary; simp [MarkUnit.boundary] <;> (repeat' split) <;> rfl)

/-- What `genBoundary` keeps. -/
@[simp] theorem genBoundary_keeps (s : State) (b : Bool) (x y : Int) :
    (s.genBoundary b x y).pins = s.pins ∧ (s.genBoundary b x y).ts = s.ts ∧ (s.genBoundary b x y).ref = s.ref ∧
    (s.genBoundary b x y).mark = s.mark ∧ (s.genBoundary b x y).frame = s.frame ∧
    (s.genBoundary b x y).mem = s.mem ∧ (s.genBoundary b x y).roster = s.roster ∧
    (s.genBoundary b x y).solver = s.solver ∧ (s.genBoundary b x y).temp = s.temp ∧
    (s.genBoundary b x y).port = s.port ∧ (s.genBoundary b x y).freeCount = s.freeCount ∧
    (s.genBoundary b x y).pending = s.pending ∧ (s.genBoundary b x y).gen.timeValid = s.gen.timeValid ∧
    (s.genBoundary b x y).gen.inForce = s.gen.inForce ∧ (s.genBoundary b x y).gen.filtered = s.gen.filtered ∧
    (s.genBoundary b x y).gen.filterTimer = s.gen.filterTimer := by
  and_intros <;> (unfold State.genBoundary; split <;> rfl)

/-- What `snapshot` keeps. -/
@[simp] theorem snapshot_keeps (s : State) :
    s.snapshot.pins = s.pins ∧ s.snapshot.ts = s.ts ∧ s.snapshot.ref = s.ref ∧ s.snapshot.mark = s.mark ∧
    s.snapshot.frame = s.frame ∧ s.snapshot.mem = s.mem ∧ s.snapshot.roster = s.roster ∧
    s.snapshot.solver = s.solver ∧ s.snapshot.temp = s.temp ∧ s.snapshot.gen = s.gen ∧
    s.snapshot.freeCount = s.freeCount ∧ s.snapshot.pending = s.pending ∧
    s.snapshot.port.record = s.port.record ∧ s.snapshot.port.transaction = s.port.transaction ∧
    s.snapshot.port.slot = s.port.slot ∧ s.snapshot.port.queue = s.port.queue ∧
    s.snapshot.port.nextSeq = s.port.nextSeq ∧ s.snapshot.port.lost = s.port.lost ∧
    s.snapshot.port.sdo = s.port.sdo := by
  and_intros <;> (unfold State.snapshot; (repeat' split) <;> rfl)

/-- What `judgeAligning` keeps. -/
@[simp] theorem judgeAligning_keeps (s : State) :
    s.judgeAligning.pins = s.pins ∧ s.judgeAligning.ts = s.ts ∧ s.judgeAligning.ref = s.ref ∧
    s.judgeAligning.temp = s.temp ∧ s.judgeAligning.gen = s.gen ∧ s.judgeAligning.freeCount = s.freeCount ∧
    s.judgeAligning.pending = s.pending ∧ s.judgeAligning.mem.nodeId = s.mem.nodeId ∧
    s.judgeAligning.mem.reasonCommand = s.mem.reasonCommand ∧
    s.judgeAligning.mem.reasonSupply = s.mem.reasonSupply ∧
    s.judgeAligning.mem.supplyIsLow = s.mem.supplyIsLow ∧ s.judgeAligning.mem.supplyTimer = s.mem.supplyTimer ∧
    s.judgeAligning.mark.fault = s.mark.fault ∧ s.judgeAligning.mark.strayCount = s.mark.strayCount ∧
    s.judgeAligning.mark.contestedCount = s.mark.contestedCount ∧
    s.judgeAligning.mark.strayEpoch = s.mark.strayEpoch ∧ s.judgeAligning.mark.lowTimer = s.mark.lowTimer ∧
    s.judgeAligning.mark.recovery = s.mark.recovery ∧ s.judgeAligning.mark.highTime = s.mark.highTime ∧
    s.judgeAligning.mark.candidate = s.mark.candidate ∧ s.judgeAligning.frame.windowOpen = s.frame.windowOpen ∧
    s.judgeAligning.frame.receipt = s.frame.receipt ∧ s.judgeAligning.frame.fault = s.frame.fault ∧
    s.judgeAligning.frame.unsent = s.frame.unsent ∧ s.judgeAligning.frame.crcErrors = s.frame.crcErrors ∧
    s.judgeAligning.frame.formatErrors = s.frame.formatErrors ∧
    s.judgeAligning.frame.truncatedErrors = s.frame.truncatedErrors ∧
    s.judgeAligning.frame.epochErrors = s.frame.epochErrors ∧
    s.judgeAligning.frame.errorEpoch = s.frame.errorEpoch ∧ s.judgeAligning.frame.lowTimer = s.frame.lowTimer ∧
    s.judgeAligning.frame.idleTimer = s.frame.idleTimer ∧ s.judgeAligning.frame.rx = s.frame.rx ∧
    s.judgeAligning.solver.timing = s.solver.timing ∧ s.judgeAligning.solver.target = s.solver.target ∧
    s.judgeAligning.solver.validTime = s.solver.validTime ∧
    s.judgeAligning.solver.stateHeld = s.solver.stateHeld ∧ s.judgeAligning.solver.steerF = s.solver.steerF ∧
    s.judgeAligning.solver.bound = s.solver.bound ∧ s.judgeAligning.solver.overBudget = s.solver.overBudget ∧
    s.judgeAligning.solver.timeValid = s.solver.timeValid ∧ s.judgeAligning.port.record = s.port.record ∧
    s.judgeAligning.port.transaction = s.port.transaction ∧ s.judgeAligning.port.slot = s.port.slot ∧
    s.judgeAligning.port.queue = s.port.queue ∧ s.judgeAligning.port.nextSeq = s.port.nextSeq ∧
    s.judgeAligning.port.lost = s.port.lost ∧ s.judgeAligning.port.snapSkip = s.port.snapSkip ∧
    s.judgeAligning.port.snapPost = s.port.snapPost ∧ s.judgeAligning.port.sdo = s.port.sdo ∧
    s.judgeAligning.roster.adoptionOutstanding = s.roster.adoptionOutstanding := by
  and_intros <;> (unfold State.judgeAligning; dsimp only; (repeat' split) <;> simp)

/-- What `endOfMark` keeps. -/
@[simp] theorem endOfMark_keeps (s : State) :
    s.endOfMark.ts = s.ts ∧ s.endOfMark.ref = s.ref ∧ s.endOfMark.temp = s.temp ∧ s.endOfMark.gen = s.gen ∧
    s.endOfMark.freeCount = s.freeCount ∧ s.endOfMark.pending = s.pending ∧
    s.endOfMark.pins.oscRunning = s.pins.oscRunning ∧ s.endOfMark.pins.resetHeld = s.pins.resetHeld ∧
    s.endOfMark.pins.refin = s.pins.refin ∧ s.endOfMark.pins.refvalid = s.pins.refvalid ∧
    s.endOfMark.pins.refinPin = s.pins.refinPin ∧
    s.endOfMark.pins.refvalidPin = s.pins.refvalidPin ∧ s.endOfMark.pins.inhibitPin = s.pins.inhibitPin ∧
    s.endOfMark.pins.mark = s.pins.mark ∧ s.endOfMark.pins.supply = s.pins.supply ∧
    s.endOfMark.pins.inhibit = s.pins.inhibit ∧ s.endOfMark.mem.nodeId = s.mem.nodeId ∧
    s.endOfMark.mem.reasonCommand = s.mem.reasonCommand ∧ s.endOfMark.mem.reasonSupply = s.mem.reasonSupply ∧
    s.endOfMark.mem.supplyIsLow = s.mem.supplyIsLow ∧ s.endOfMark.mem.supplyTimer = s.mem.supplyTimer ∧
    s.endOfMark.mark.fault = s.mark.fault ∧ s.endOfMark.mark.strayCount = s.mark.strayCount ∧
    s.endOfMark.mark.contestedCount = s.mark.contestedCount ∧ s.endOfMark.mark.strayEpoch = s.mark.strayEpoch ∧
    s.endOfMark.mark.lowTimer = s.mark.lowTimer ∧ s.endOfMark.mark.recovery = s.mark.recovery ∧
    s.endOfMark.mark.highTime = s.mark.highTime ∧ s.endOfMark.frame.windowOpen = s.frame.windowOpen ∧
    s.endOfMark.frame.receipt = s.frame.receipt ∧ s.endOfMark.frame.fault = s.frame.fault ∧
    s.endOfMark.solver.timing = s.solver.timing ∧ s.endOfMark.solver.target = s.solver.target ∧
    s.endOfMark.solver.validTime = s.solver.validTime ∧ s.endOfMark.solver.stateHeld = s.solver.stateHeld ∧
    s.endOfMark.solver.steerF = s.solver.steerF ∧ s.endOfMark.solver.bound = s.solver.bound ∧
    s.endOfMark.solver.overBudget = s.solver.overBudget ∧ s.endOfMark.solver.timeValid = s.solver.timeValid ∧
    s.endOfMark.port.record = s.port.record ∧ s.endOfMark.port.transaction = s.port.transaction ∧
    s.endOfMark.port.slot = s.port.slot ∧ s.endOfMark.port.queue = s.port.queue ∧
    s.endOfMark.port.nextSeq = s.port.nextSeq ∧ s.endOfMark.port.lost = s.port.lost ∧
    s.endOfMark.port.snapSkip = s.port.snapSkip ∧ s.endOfMark.port.snapPost = s.port.snapPost ∧
    s.endOfMark.port.sdo = s.port.sdo ∧
    s.endOfMark.roster.adoptionOutstanding = s.roster.adoptionOutstanding := by
  and_intros <;> (unfold State.endOfMark; dsimp only; split <;> simp)

/-- What `afterJump` keeps. -/
@[simp] theorem afterJump_keeps (s : State) (p : Option Nat) :
    (s.afterJump p).ts = s.ts ∧ (s.afterJump p).ref = s.ref ∧ (s.afterJump p).temp = s.temp ∧
    (s.afterJump p).gen = s.gen ∧ (s.afterJump p).freeCount = s.freeCount ∧
    (s.afterJump p).pending = s.pending ∧ (s.afterJump p).pins.oscRunning = s.pins.oscRunning ∧
    (s.afterJump p).pins.resetHeld = s.pins.resetHeld ∧ (s.afterJump p).pins.refin = s.pins.refin ∧
    (s.afterJump p).pins.refvalid = s.pins.refvalid ∧ (s.afterJump p).pins.refinPin = s.pins.refinPin ∧
    (s.afterJump p).pins.refvalidPin = s.pins.refvalidPin ∧
    (s.afterJump p).pins.inhibitPin = s.pins.inhibitPin ∧ (s.afterJump p).pins.mark = s.pins.mark ∧
    (s.afterJump p).pins.supply = s.pins.supply ∧ (s.afterJump p).pins.inhibit = s.pins.inhibit ∧
    (s.afterJump p).mem.nodeId = s.mem.nodeId ∧ (s.afterJump p).mem.reasonCommand = s.mem.reasonCommand ∧
    (s.afterJump p).mem.reasonSupply = s.mem.reasonSupply ∧
    (s.afterJump p).mem.supplyIsLow = s.mem.supplyIsLow ∧ (s.afterJump p).mem.supplyTimer = s.mem.supplyTimer ∧
    (s.afterJump p).mark.fault = s.mark.fault ∧ (s.afterJump p).mark.strayCount = s.mark.strayCount ∧
    (s.afterJump p).mark.contestedCount = s.mark.contestedCount ∧
    (s.afterJump p).mark.strayEpoch = s.mark.strayEpoch ∧ (s.afterJump p).mark.lowTimer = s.mark.lowTimer ∧
    (s.afterJump p).mark.recovery = s.mark.recovery ∧ (s.afterJump p).mark.highTime = s.mark.highTime ∧
    (s.afterJump p).frame.windowOpen = s.frame.windowOpen ∧ (s.afterJump p).frame.receipt = s.frame.receipt ∧
    (s.afterJump p).frame.fault = s.frame.fault ∧ (s.afterJump p).solver.timing = s.solver.timing ∧
    (s.afterJump p).solver.target = s.solver.target ∧ (s.afterJump p).solver.validTime = s.solver.validTime ∧
    (s.afterJump p).solver.stateHeld = s.solver.stateHeld ∧ (s.afterJump p).solver.steerF = s.solver.steerF ∧
    (s.afterJump p).solver.bound = s.solver.bound ∧ (s.afterJump p).solver.overBudget = s.solver.overBudget ∧
    (s.afterJump p).solver.timeValid = s.solver.timeValid ∧ (s.afterJump p).port.record = s.port.record ∧
    (s.afterJump p).port.transaction = s.port.transaction ∧ (s.afterJump p).port.slot = s.port.slot ∧
    (s.afterJump p).port.queue = s.port.queue ∧ (s.afterJump p).port.nextSeq = s.port.nextSeq ∧
    (s.afterJump p).port.lost = s.port.lost ∧ (s.afterJump p).port.snapSkip = s.port.snapSkip ∧
    (s.afterJump p).port.snapPost = s.port.snapPost ∧ (s.afterJump p).port.sdo = s.port.sdo ∧
    (s.afterJump p).roster.adoptionOutstanding = s.roster.adoptionOutstanding := by
  and_intros <;> (unfold State.afterJump; (repeat' split) <;> simp)

end Sys2Proof.Machine
end

