-- ==== Sys2Proof/Laws/Events.lean ====
section
/-! SUPPORT. What the end of a step makes of the events posted within it: events of one lane are offered in the order
of their posting. -/

namespace Sys2Proof.Machine

open Sys2Proof

/-- No further lane may be stored next where every posting is of one passed already. -/
theorem lanesOf_one (l : Lane) (ps : List Posting) (older : List Lane) (hl : l ∈ older)
    (h : ∀ p ∈ ps, p.lane = l) : lanesOf ps older = [] := by
  induction ps generalizing older with
  | nil => rfl
  | cons p ps ih =>
    have hp : p.lane = l := h p (by simp)
    simp [lanesOf, hp, hl, ih (l :: older) (by simp) (fun q hq => h q (by simp [hq]))]

/-- With one lane waiting the oldest posting is next. -/
theorem nextPosting_one (l : Lane) (p : Posting) (ps : List Posting) (s : State)
    (h : ∀ q ∈ p :: ps, q.lane = l) : s.nextPosting p ps = (p, ps, s) := by
  have hp : p.lane = l := h p (by simp)
  have hl : lanesOf (p :: ps) [] = [l] := by
    simp [lanesOf, hp, lanesOf_one l ps [l] (by simp) (fun q hq => h q (by simp [hq]))]
  simp [State.nextPosting, hl, State.choose, dropFirst, hp]

/-- A posting bound to follow the block of the only other one comes after it. -/
theorem nextPosting_bound (p q : Posting) (s : State) (h : q.after = some p.lane) :
    s.nextPosting p [q] = (p, [q], s) := by
  have hw : q.waits [p.lane] = true := by simp [Posting.waits, h]
  have hl : lanesOf [p, q] [] = [p.lane] := by simp [lanesOf, hw]
  simp [State.nextPosting, hl, State.choose, dropFirst]

theorem settleLoop_one (l : Lane) (n : Nat) (s : State) (ps : List Posting) (hs : s.port.outbox = ps)
    (hn : ps.length ≤ n) (h : ∀ p ∈ ps, p.lane = l) :
    settleLoop n s = ps.foldl (fun s p => s.offer p) { s with port.outbox := [] } := by
  induction ps generalizing n s with
  | nil =>
    cases n with
    | zero => simp only [settleLoop, List.foldl_nil]; rw [← hs]
    | succ n => simp only [settleLoop, hs, List.foldl_nil]; rw [← hs]
  | cons p ps ih =>
    cases n with
    | zero => simp at hn
    | succ n =>
      rw [settleLoop_cons n s p ps hs, nextPosting_one l p ps s h]
      rw [ih n _ (by simp) (by simpa using hn) (fun q hq => h q (by simp [hq]))]
      simp only [List.foldl_cons]
      congr 1
      simp only [State.offer]
      split <;> rfl

/-- Events of one lane are offered in the order of their posting (R189). -/
theorem settle_one (l : Lane) (s : State) (h : ∀ p ∈ s.port.outbox, p.lane = l) :
    s.settle = s.port.outbox.foldl (fun s p => s.offer p) { s with port.outbox := [] } :=
  settleLoop_one l _ s _ rfl (Nat.le_refl _) h

/-- One event posted where none waits is stored, or lost. -/
theorem settle_post (s : State) (l : Lane) (k : EventKind) (j : Option NodeId) (v : Option (BitVec 32))
    (h : s.port.outbox = []) : (s.post l k j v).settle = s.stored k j v := by
  rw [settle_one l _ (by simp [State.post, h])]
  simp [State.post, h, State.stored, State.offer]

/-- Two events of one lane, posted where none waits, are stored one after the other. -/
theorem settle_post_post (s : State) (l : Lane) (k k' : EventKind) (j j' : Option NodeId)
    (v v' : Option (BitVec 32)) (h : s.port.outbox = []) :
    ((s.post l k j v).post l k' j' v').settle = (s.stored k j v).stored k' j' v' := by
  rw [settle_one l _ (by simp [State.post, h])]
  simp [State.post, h, State.stored, State.offer]
  split <;> (try split) <;> simp_all

/-- Of two events the second of which is bound to follow the first's block, the first is stored first (R143). -/
theorem settle_bound (s : State) (p q : Posting) (h : s.port.outbox = [p, q]) (hq : q.after = some p.lane) :
    s.settle = ({ s with port.outbox := [] }.offer p).offer q := by
  have two : s.settle = settleLoop (1 + 1) s := by simp [State.settle, h]
  rw [two, settleLoop_cons 1 s p [q] h, nextPosting_bound p q s hq]
  rw [settleLoop_one q.lane 1 _ [q] (by simp) (by simp) (by simp)]
  simp only [List.foldl_cons, List.foldl_nil]
  congr 1
  simp only [State.offer]
  split <;> rfl

end Sys2Proof.Machine
end

