-- ==== Sys2Proof/Laws/Exchange.lean ====
section
/-! SUPPORT. What the solve-point exchange of the roster and the hand-over to the temperature unit can do (R105, R152). -/

namespace Sys2Proof.Machine

open Sys2Proof

/-- A state that differs from `s` in its roster, in the solver's last sets and in events posted, and in nothing else:
all that the ageing of entries can bring about. -/
def Aging (s t : State) : Prop :=
  ∃ (r : Roster) (c a : List NodeId) (ps : List Posting),
    t = { s with roster := r
                 solver := { s.solver with lastC := c, lastA := a }
                 port.outbox := s.port.outbox ++ ps }

theorem Aging.refl (s : State) : Aging s s := ⟨s.roster, s.solver.lastC, s.solver.lastA, [], by simp⟩

theorem Aging.trans {s t u : State} (h : Aging s t) (h' : Aging t u) : Aging s u := by
  obtain ⟨_, _, _, ps, rfl⟩ := h
  obtain ⟨r, c, a, qs, rfl⟩ := h'
  exact ⟨r, c, a, ps ++ qs, by simp⟩

/-- An event of the roster posted is part of the ageing. -/
theorem postAged_aging (s : State) (k : NodeId) (x : Option (EventKind × Option Int)) : Aging s (s.postAged k x) := by
  rcases x with _ | ⟨kind, v⟩
  · exact Aging.refl s
  · exact ⟨s.roster, s.solver.lastC, s.solver.lastA, [⟨.roster, s.ts.epoch, kind, some k, v.map signed32, none⟩], rfl⟩

theorem postMismatch_aging (s : State) (k : NodeId) (v : Option (BitVec 32)) : Aging s (s.postMismatch k v) := by
  rcases v with _ | v
  · exact Aging.refl s
  · exact ⟨s.roster, s.solver.lastC, s.solver.lastA, [⟨.roster, s.ts.epoch, .rosterMismatch, some k, some v, none⟩], rfl⟩

/-- A removal of an entry is part of the ageing. -/
theorem dropEntry_aging (s : State) (k : NodeId) : Aging s (s.dropEntry k) :=
  ⟨(s.dropEntry k).roster, (s.dropEntry k).solver.lastC, (s.dropEntry k).solver.lastA, [], by
    simp [State.dropEntry, Solver.forget]⟩

/-- So is a change of the roster alone. -/
theorem roster_aging (s : State) (r : Roster) : Aging s { s with roster := r } :=
  ⟨r, s.solver.lastC, s.solver.lastA, [], by simp⟩

/-- All that the ageing of one entry can do. -/
theorem ageEntry_aging (s : State) (e : Entry) : Aging s (s.ageEntry e) := by
  unfold State.ageEntry
  split
  · exact (dropEntry_aging s e.id).trans (postAged_aging _ _ _)
  · exact ((roster_aging s _).trans (postAged_aging _ _ _)).trans (postMismatch_aging _ _ _)

theorem foldl_ageEntry_aging (es : List Entry) (s : State) : Aging s (es.foldl (fun s e => s.ageEntry e) s) := by
  induction es generalizing s with
  | nil => exact Aging.refl s
  | cons e es ih => exact (ageEntry_aging s e).trans (ih _)

/-- All that steps 4 to 6 of the exchange can do. -/
theorem rosterAge_aging (s : State) (verdicts : NodeId → Verdict) : Aging s (s.rosterAge verdicts) :=
  (roster_aging s _).trans (foldl_ageEntry_aging _ _)

/-- All that step 7 can do: rows move, and an adoption is requested. -/
theorem rosterNumbers_shape (s : State) : ∃ (diffs : List DiffRow) (out : Bool) (adopt : Option Epoch),
    s.rosterNumbers = { s with
      roster := { s.roster with diffs := diffs, adoptionOutstanding := out }
      ts.pendAdopt := adopt } := by
  unfold State.rosterNumbers
  split
  · dsimp only
    split
    · exact ⟨_, s.roster.adoptionOutstanding, s.ts.pendAdopt, rfl⟩
    · split
      · exact ⟨_, true, _, rfl⟩
      · exact ⟨_, s.roster.adoptionOutstanding, s.ts.pendAdopt, rfl⟩
  · exact ⟨s.roster.diffs, s.roster.adoptionOutstanding, s.ts.pendAdopt, rfl⟩

/-- All that steps 4 to 8 of the exchange can do. -/
theorem rosterComplete_shape (s : State) (verdicts : NodeId → Verdict) :
    ∃ (r : Roster) (c a : List NodeId) (ps : List Posting) (adopt : Option Epoch),
      s.rosterComplete verdicts = { s with
        roster := r
        solver := { s.solver with lastC := c, lastA := a }
        port.outbox := s.port.outbox ++ ps
        ts.pendAdopt := adopt } := by
  obtain ⟨r, c, a, ps, h⟩ := rosterAge_aging s verdicts
  obtain ⟨diffs, out, adopt, h'⟩ := rosterNumbers_shape (s.rosterAge verdicts)
  rw [h] at h'
  refine ⟨({ r with diffs := diffs, adoptionOutstanding := out } : Roster).clearEpoch, c, a, ps, adopt, ?_⟩
  unfold State.rosterComplete
  rw [h, h']

/-- All that the solver's hand-over to the temperature unit can do. -/
theorem tempHandOver_shape (s : State) (f c limit : Int) : ∃ table : Vector TempBin 80,
    s.tempHandOver f c limit = { s with temp := { s.temp with lastF := f, table := table } } := by
  unfold State.tempHandOver
  dsimp only
  split
  · exact ⟨s.temp.table, rfl⟩
  · split
    · exact ⟨_, rfl⟩
    · exact ⟨s.temp.table, rfl⟩

end Sys2Proof.Machine
end

