-- ==== Sys2Proof/Laws/Starts.lean ====
section
/-! SUPPORT. When a pending frame starts, and what the start does (R72). -/

namespace Sys2Proof.Machine

open Sys2Proof

/-- The pending frame that the model finds startable is the one whose range is open. -/
theorem startable_iff (s : State) (what : InFlight) (f : Frame) :
    s.startable = some (what, f) ↔ s.mayStart what f := by
  have flip : ∀ r : LeaveReason, (Frame.leave s.mem.nodeId s.ts.epoch r = f) ↔ (f = .leave s.mem.nodeId s.ts.epoch r) :=
    fun r => eq_comm
  simp only [State.startable, State.mayStart, State.startableLeave]
  cases what <;> cases s.frame.talk <;> by_cases hp : ns 1000000 ≤ s.ts.sitePhase <;>
    cases s.frame.windowOpen <;> simp [hp, flip]

theorem startable_none (s : State) (h : ∀ what f, ¬ s.mayStart what f) : s.startable = none := by
  cases hs : s.startable with
  | none => rfl
  | some p => exact absurd ((startable_iff s p.1 p.2).mp hs) (h _ _)

/-- Where nothing starts, an attempt to start changes nothing. -/
theorem tryStart_nothing (s : State) (h : s.nothingStarts) : s.tryStart = s := by
  unfold State.tryStart
  split
  next hc =>
    rcases h with h | h | h | h
    · rw [startable_none s h]
    · simp [h] at hc
    · exact absurd hc.1 h
    · exact absurd hc.2.1 h
  next => rfl

/-- A frame started where the line stands high and the receiver is READY. -/
theorem startFrame_high (s : State) (what : InFlight) (f : Frame) (hi : s.frame.idle = true)
    (hr : s.frame.rx = .ready) (hw : s.pins.word = .high) (hb : s.begun = true) :
    s.startFrame what f = s.frameStarted what f := by
  have hn : s.frame.readyNow = true := by
    simp only [FrameUnit.idle, FrameUnit.readyNow, hr] at hi ⊢
    simpa using hi
  simp only [FrameUnit.readyNow] at hn
  have hb' : s.mem.state ≠ .unconfigured := by
    simpa [State.begun] using hb
  simp [State.startFrame, State.pullWord, hw, State.wordFalls, State.begun, hb', FrameUnit.takeFall,
    FrameUnit.readyNow, hn, FrameUnit.startBit, State.frameStarted, FrameUnit.started]

/-- Where a frame starts, an attempt to start starts it. -/
theorem tryStart_starts (s : State) (what : InFlight) (f : Frame) (h : s.starts what f) :
    s.tryStart = s.frameStarted what f := by
  obtain ⟨hm, hi, hr, ht, ha, hw, hb⟩ := h
  unfold State.tryStart
  rw [if_pos ⟨ht, ha, hi⟩, (startable_iff s what f).mpr hm]
  exact startFrame_high s what f hi hr hw hb

end Sys2Proof.Machine
end

