-- ==== Sys2Proof/WellFormed.lean ====
section
/-! DEFINITION. Which commands can stand for an event of the part: the conditions on operands that their types do not already hold. -/

namespace Sys2Proof

/-- A command's operands describe the event its row names:
* a SHORT_TRANSACTION clocked in fewer than 8 bits (R177);
* an UNKNOWN_COMMAND has a command byte outside 00 to 0B, the bytes that name a command (R197).
Every other operand is held in its range by its type or takes any value. -/
def Instr.wf : Instr → Bool
  | .shortTransaction _ bits => decide (bits < 8)
  | .unknownCommand _ code => decide (0x0C#8 ≤ code)
  | .powerOnReset | .resetPin | .resetRelease _ | .endOfEpoch | .replayEnd | .slotTime _ | .markRelease
  | .heldLowTest | .endOfMarkRegion | .temperatureSample _ | .talkWindowOpening | .talkWindowClosing
  | .solvePoint | .refinTransition _ _ | .refinEdgeAccepted | .blankingEnd | .refvalidDeassert _
  | .refvalidAssert _ | .markFall _ | .markEdgeAccept | .markRise _ | .markStuck | .markRecovery
  | .wordFall _ | .wordRise _ | .lineIdle | .arbitrationLoss | .payloadCollision | .frameSent
  | .frameError | .censusReceived | .joinReceived | .leaveReceived | .wordStuck | .wordRecovery
  | .supplySenseCrossing _ _ | .supplyLow | .supplyRestored | .generatorStart _ | .pulseEnd _ | .inhibitPinChange _ _
  | .filteredLevelChange | .transactionStart _ | .readResponse _ _ | .setup _ _ | .loadTablePage _ _
  | .begin _ | .status _ | .roster _ | .tablePage _ _ | .events _ _ | .withdraw _ | .resume _
  | .trimGroup _ _ | .clearInhibit _ | .responseCompletion _ | .wordSamplePoint | .wordBitStart
  | .oscinStop _ | .oscinReturn => true

end Sys2Proof
end

