-- ==== Sys2Proof/Tests/Slice0.lean ====
section
/-! SUPPORT. The tests: which commands are well formed, worked examples of the spec, one step on small states, and, for every statement with hypotheses, a state and operands that meet them, clause by clause. -/

namespace Sys2Proof.Tests

open Sys2Proof Sys2Proof.Machine

set_option Elab.async false

/-! ## Well-formed commands (R177, R197) -/

theorem test_wf_short : (Instr.shortTransaction 0 7).wf = true := by decide

theorem test_ill_formed_short : (Instr.shortTransaction 0 8).wf = false := by decide

theorem test_wf_unknown : (Instr.unknownCommand 0 0x0C#8).wf = true := by decide

theorem test_ill_formed_unknown : (Instr.unknownCommand 0 0x0B#8).wf = false := by decide

/-- A word spells the transaction whose bytes it holds, the first byte lowest; a word of no bits none (log entry 27). -/
theorem test_word_spells_a_transaction : decodeTableWord 0 0 = none ∧ decodeTableWord 8 0x0B = some (.clearInhibit 0) ∧
    decodeTableWord 8 0x0C = some (.unknownCommand 0 0x0C#8) ∧ decodeTableWord 16 0x0806 = some (.tablePage 0 [8#8]) ∧
    (State.reset.withFetchWord 8 3).pending = [.begin 0] := by decide +kernel

/-! ## Small states -/

/-- Settings with a reference fitted, every peer admitted, and generator 0 enabled. -/
def cfg : Settings :=
  { Settings.blank with
    refFitted := true, debounce := .us1, useRefvalid := true, admission := 0xFFFF#16, supplyLow := 2800
    supplyHigh := 3000, halfWidth := 10
    gens := { Settings.blank.gens with g0 := ⟨true, 1000, 0, 100, false, .a, .low, 0⟩ } }

/-- A node of ID 3 in a state of membership, at site phase 0 with slot time 0 raised. -/
def node (st : MembershipState) : State :=
  { State.reset with
    pins := { Pins.atPowerOn with resetHeld := false }
    mem := { Membership.reset with nodeId := 3, state := st }
    port := { Port.reset with record := some cfg }
    ts := { Timescale.reset with raised := [.slot 0] } }

/-- The same node at a site phase in ns, every point below it raised. -/
def nodeAt (st : MembershipState) (phase : Nat) : State :=
  { node st with ts := { Timescale.reset with
      tau := ns phase, raised := allPoints.filter (fun p => decide (p.phase < ns phase)) } }

/-- The same node with a capture set open, every slot NONE. -/
def windowed (st : MembershipState) : State :=
  { node st with mark.capture := some ⟨0, emptySlots⟩ }

/-- A set whose slot 5 reads ONE. -/
def slotsFive : Vector SlotReading 16 := emptySlots.set 5 (.one 32)

/-- A MEMBER of ID 3 that has captured the mark of node 5. -/
def capturedFive : State := { node .member with mark.capture := some ⟨0, slotsFive⟩ }

/-- A CENSUS of node 5 without observations. -/
def censusFive (e : Epoch) : Frame := .census 5 e 1 ⟨.coasting, false, 100, 0x0008#16⟩ []

/-- A HEARD entry of node 5. -/
def entryFive : Entry := Entry.new 5 1 0

/-- A MEMBER with an entry for node 5 and a frame arrived. -/
def arrivedAt (st : MembershipState) (f : Frame) (good : Bool) : State :=
  { capturedFive with
    mem := { capturedFive.mem with state := st }
    frame.receipt := some (.arrived f good) }

/-- A READY receiver on an idle line. -/
def idleFrame : FrameUnit := { FrameUnit.reset with rx := .ready, idleTimer := some (ns 48000) }

/-- A node with a transaction open. -/
def talking (st : MembershipState) : State := { node st with port.transaction := some .empty }

/-- A generator that is RUNNING, its next start at a phase in ns. -/
def runningGen (phase : Int) : Generator := ⟨.running, 0, some ⟨phase, false⟩, none⟩

/-! ## Worked examples and small steps -/

/-- A LEAVE of node 9, epoch 100, reason COMMAND: its body and the CRC over it (11.1). -/
theorem test_leave_received : ((FrameUnit.receive (Frame.leave 9 100 .command).lineBits
    { FrameUnit.reset with rx := .starting }).receipt) = some (.arrived (.leave 9 100 .command) true) := by
  decide +kernel

theorem test_census_received : ((FrameUnit.receive
    (Frame.census 15 0xFFFFFFFF#32 3 ⟨.alone, true, 65535, 0xFFFF#16⟩ [⟨15, -1⟩, ⟨0, 524287⟩]).lineBits
    { FrameUnit.reset with rx := .starting }).receipt) =
      some (.arrived (.census 15 0xFFFFFFFF#32 3 ⟨.alone, true, 65535, 0xFFFF#16⟩ [⟨15, -1⟩, ⟨0, 524287⟩]) true) := by
  decide +kernel

theorem test_join_received : ((FrameUnit.receive (Frame.join 0 0 0 [⟨1, -524288⟩]).lineBits
    { FrameUnit.reset with rx := .starting }).receipt) = some (.arrived (.join 0 0 0 [⟨1, -524288⟩]) true) := by
  decide +kernel

/-- A bit of the CRC turned over is found (R62). -/
theorem test_crc_finds_a_turned_bit :
    crcPasses ((Frame.leave 9 100 .command).bits.set 56 (!((Frame.leave 9 100 .command).bits.getD 56 false))) = false := by
  decide +kernel

/-- Eight recessive bits are followed by a stuff bit, unless none follow (R60). -/
theorem test_stuffing : stuff 0 (List.replicate 9 true) = List.replicate 8 true ++ [false, true] ∧
    stuff 0 (List.replicate 8 true) = List.replicate 8 true := by decide

/-- The F term rounds toward zero and the carry keeps the rest (R2). -/
theorem test_f_term : fTerm 1 0 = (0, 16) ∧ fTerm (-1) 999 = (0, 983) ∧ fTerm 100000000 999 = (1600000, 999) := by
  decide

theorem test_fold : fold 8000000000 = 8000000000 ∧ fold (-8000000000) = 8000000000 ∧ fold 16000000000 = 0 := by
  decide

theorem test_lower_median : lowerMedian [4, 1, 3, 2] = 2 ∧ lowerMedian [5, -1, 7] = 5 := by decide

theorem test_bin_of : binOf (-800) = 0 ∧ binOf 1759 = 79 ∧ binOf 0 = 25 ∧ binOf 2000 = 79 ∧ binOf (-801) = 0 := by
  decide

theorem test_learning : (TempBin.mk 10 1).learn 20 = ⟨15, 2⟩ ∧ (TempBin.mk 10 255).learn 522 = ⟨12, 255⟩ := by decide

theorem test_report_bound : reportBound 1 = 1 ∧ reportBound 1000000000000000 = 65535 ∧ reportBound 8000000 = 2 := by
  decide

theorem test_slots : slotAt 0 = some 0 ∧ slotAt (ns 24999) = some 0 ∧ slotAt (ns 25000) = none ∧
    slotAt (ns 37500) = some 1 ∧ slotAt (ns 962499) = some 15 ∧ slotAt (ns 962500) = none := by decide

/-- A grid of one pulse each ms, offset 250 ns, from a phase on (R166). -/
theorem test_grid : (GenSettings.gridFrom ⟨true, 1000, 250, 100, false, .a, .run, 0⟩ (-500) 0) = 999750 ∧
    (GenSettings.gridFrom ⟨true, 1000, 250, 100, false, .a, .run, 0⟩ 0 251) = 1000250 := by decide +kernel

theorem test_adoption_number : adoptionNumber 40 ⟨⟨7, ns 900000000⟩, 2⟩ 9 = 42 ∧
    adoptionNumber 40 ⟨⟨7, ns 100000000⟩, 2⟩ 9 = 43 := by decide

theorem test_majority : joinMajority [⟨1, true⟩, ⟨2, false⟩] = true ∧ joinMajority [⟨1, false⟩] = false ∧
    joinMajority [] = false := by decide

/-- The worked example of 11.1: a LEAVE of node 5, epoch 0, reason CONFLICT. -/
theorem test_worked_crc : crcOf (Frame.leave 5 0 .conflict).body = 0xAC33#16 ∧
    crcOf ((Frame.leave 5 0 .conflict).body.take 8) = 0xB345#16 ∧
    (Frame.leave 5 0 .conflict).lineBits.length = 57 := by decide +kernel

/-- The worked example of the F carry (01, 1.1). -/
theorem test_worked_carry : fTerm 1234 0 = (19, 744) ∧ fTerm 1234 744 = (20, 488) ∧ fTerm 1234 488 = (20, 232) ∧
    fTerm 1234 232 = (19, 976) := by decide

/-- The worked example of learning one bin (08, 8.2). -/
theorem test_worked_learning : (TempBin.mk 0 0).learn (-1210) = ⟨-1210, 1⟩ ∧
    (TempBin.mk (-1210) 1).learn (-1204) = ⟨-1207, 2⟩ ∧ (TempBin.mk (-1207) 2).learn (-1215) = ⟨-1209, 3⟩ ∧
    (TempBin.mk (-1209) 3).learn (-1199) = ⟨-1207, 4⟩ ∧ (TempBin.mk (-1180) 255).learn (-1240) = ⟨-1180, 255⟩ ∧
    (TempBin.mk (-1180) 255).learn (-1500) = ⟨-1181, 255⟩ := by decide

/-- The table of the worked example of a cold night (08, 8.3). -/
def nightTable : Vector TempBin 80 :=
  (((TempUnit.clearTable.set 30 ⟨-1050, 40⟩).set 31 ⟨-1070, 5⟩).set 34 ⟨-1140, 12⟩).set 36 ⟨-1200, 255⟩

def nightAt (x : Int) : TempUnit := { TempUnit.reset nightTable with samples := [x], frozen := some (-1200) }

theorem test_worked_night : (nightAt 368).predict = (-1200, .bin) ∧ (nightAt 248).predict = (-1050, .neighbour) ∧
    (nightAt 176).predict = (-1050, .bin) ∧ (nightAt (-160)).predict = (-1050, .neighbour) ∧
    (nightAt (-192)).predict = (-1200, .frozen) := by decide +kernel

/-- The worked example of qualification (02, 2.5): two second differences and a prediction. -/
theorem test_worked_reference : secondDifference (ns 3399800) (ns 3399920) (ns 3400041) = ns 1 ∧
    secondDifference (ns 3399920) (ns 3400041) (ns 3400160) = ns 2 ∧
    rateOf ⟨13, ns 3400160, ns 3400160⟩ ⟨12, ns 3400041, ns 3400041⟩ = some (ns 119) ∧
    predictOffset ⟨13, ns 3400160, ns 3400160⟩ (ns 119) 14 = ns 3400279 := by decide

/-- The captures of the worked example of one epoch's set (03, 3.4). -/
theorem test_worked_captures : slotAt 999816 = some 1 ∧ captureOf 999816 1 = -184 ∧ slotAt 2000484 = some 2 ∧
    captureOf 2000484 2 = 484 ∧ slotAt (ns 343000) = none ∧ slotAt (ns 562490) = some 9 := by decide

/-- The generators of the worked example of 9.7: the search at BEGIN, and the move of a trim. -/
theorem test_worked_generator :
    searchStart { Timescale.reset with tau := ns 120000000 } ⟨true, 1000, 250000, 100, true, .b, .run, 0⟩ false =
      ⟨120250000, false⟩ ∧
    (Generator.move ⟨true, 1000, 250000, 100, true, .b, .run, 0⟩ false 100 ⟨.running, 0, some ⟨250000, true⟩, none⟩).next =
      some ⟨250100, false⟩ := by decide +kernel

/-- A supply high threshold at the low one is refused, a code out of range is refused, and a short record is refused at
its first missing field (R180, R182). -/
theorem test_setup_refusals : parseFields setupFields 1 [] [2#8] = .refused 1 ∧
    parseFields setupFields 1 [] [0#8, 0#8] = .refused 3 ∧
    parseFields [clampField 2 0 3300, supplyHighField] 20 [] [1#8, 0#8, 1#8, 0#8] = .refused 21 := by decide +kernel

/-- The RESET pin keeps the table, power-on reset clears it (R161). -/
theorem test_reset_table :
    (match exec .resetPin { node .member with temp.table := TempUnit.clearTable.set 3 ⟨7, 9⟩ } with
      | .next t => t.temp.bin 3 = ⟨7, 9⟩
      | _ => False) ∧
    (match exec .powerOnReset { node .member with temp.table := TempUnit.clearTable.set 3 ⟨7, 9⟩ } with
      | .next t => t.temp.bin 3 = ⟨0, 0⟩
      | _ => False) := by
  constructor <;> rfl

/-! ## What the statements' hypotheses are met by: the step, resets, boundary -/

theorem witness_StepTakesTheFrontCommand : State.reset.pending = [] := rfl

theorem witness_ResetsLeaveTheirValues :
    State.reset.pins.resetHeld = true ∧ (node .unconfigured).pins.resetHeld = false := by decide

/-- A node whose clock stands still or runs, and whose synchronised levels differ from its pins or not. -/
def gated (running refin refvalid inhibit : Bool) : State :=
  { node .member with
    pins := { (node .member).pins with
      oscRunning := running, refinPin := if refin then .high else .low, refvalidPin := refvalid, inhibitPin := inhibit } }

theorem witness_StoppedClockHoldsTimeStill :
    ∀ refin ∈ [true, false], ∀ refvalid ∈ [true, false], ∀ inhibit ∈ [true, false],
      (gated false refin refvalid inhibit).pins.oscRunning = false ∧
      (gated true refin refvalid inhibit).pins.oscRunning = true ∧
      (gated false refin refvalid inhibit).port.outbox = [] ∧
      ((gated false refin refvalid inhibit).pins.refin ≠ (gated false refin refvalid inhibit).pins.refinPin ↔ refin = true) ∧
      ((gated false refin refvalid inhibit).pins.refvalid ≠ (gated false refin refvalid inhibit).pins.refvalidPin ↔
        refvalid = true) ∧
      ((gated false refin refvalid inhibit).pins.inhibit ≠ (gated false refin refvalid inhibit).pins.inhibitPin ↔
        inhibit = true) := by decide

theorem witness_EndOfEpochOpensTheNextEpoch :
    (node .member).running = true ∧ (node .member).ts.replay = false ∧ (node .member).ts.pendStep = none := by
  decide

/-- A node with a step pending, time-valid high or low. -/
def stepping (x : Int) (valid : Bool) : State :=
  { node .aligning with ts.pendStep := some x, solver.timeValid := valid }

theorem witness_StepsAreRequestedAndDecided :
    ((stepping 5 true).running = true ∧ (stepping 5 true).ts.replay = false ∧
      (stepping 5 true).ts.pendStep = some 5 ∧ (stepping 5 true).solver.timeValid = true) ∧
    (∀ x ∈ ([0, 8000000000, -1, -7999999999] : List Int), (stepping x false).running = true ∧
      (stepping x false).ts.replay = false ∧ (stepping x false).ts.pendStep = some x ∧
      (stepping x false).solver.timeValid = false) ∧
    (let s := { node .aligning with ts.replay := true }
     s.running = true ∧ s.ts.replay = true) := by decide

theorem witness_GroupOffsetsWalkToTheirTargets :
    let far : GroupOffset := ⟨0, -101⟩
    let near : GroupOffset := ⟨0, -100⟩
    100 < (far.target - far.current).natAbs ∧ (near.target - near.current).natAbs ≤ 100 := by decide

/-- A node at a boundary: an early own-window edge, evidence before, a snapshot count each, and a generator. -/
def closing (st : MembershipState) (own : EarlyOwn) (evidence fault : Bool) (skip post : Nat) (g : Generator) : State :=
  { node st with
    mark := { (node st).mark with earlyOwn := own, fault := fault }
    mem := { (node st).mem with evidenceThis := evidence }
    port := { (node st).port with snapSkip := skip, snapPost := post }
    gen := { GenUnit.reset with gens := ⟨g, ⟨.disabled, 0, none, none⟩, ⟨.holding, 0, none, none⟩, ⟨.skipping, 2, none, none⟩⟩ } }

/-- An ALIGNING node at a boundary, its counts, an own-window edge of ID 0 ended, and evidence before or not. -/
def aligningAt (count empty : Nat) (evidence : Bool) : State :=
  { node .aligning with
    mark.earlyOwn := .ended
    mem := { (node .aligning).mem with aligningCount := count, emptyCount := empty, evidenceThis := evidence } }

theorem witness_OtherBlocksWorkAtTheBoundary :
    (∀ own ∈ [EarlyOwn.none, .lasting, .ended], ∀ evidence ∈ [true, false], ∀ fault ∈ [true, false],
      let s := closing .member own evidence fault 0 0 ⟨.skipping, 1, none, none⟩
      s.running = true ∧ s.ts.replay = false ∧ s.ts.pendStep = none ∧ s.mem.state = .member ∧
        s.mark.earlyOwn = own ∧ s.mark.fault = fault ∧ s.mem.evidenceThis = evidence) ∧
    (∀ x ∈ ([0, 8000000000] : List Int), (stepping x false).running = true ∧ (stepping x false).ts.replay = false ∧
      (stepping x false).ts.pendStep = some x ∧ (stepping x false).solver.timeValid = false) ∧
    ((stepping 5 true).ts.pendStep = some 5 ∧ (stepping 5 true).solver.timeValid = true) ∧
    (let s := { node .member with ts.replay := true }
     s.running = true ∧ s.ts.replay = true) ∧
    ((node .unconfigured).mem.state = .unconfigured ∧ (node .unconfigured).begun = false ∧
      (node .withdrawn).mem.state = .withdrawn ∧ (node .conflict).mem.state = .conflict) ∧
    (∀ phase ∈ ([-1, 0, 999999999, 1000000000] : List Int),
      let s := closing .member .none false false 0 0 ⟨.running, 0, some ⟨phase, true⟩, none⟩
      s.begun = true ∧ (s.gen.gens.get 0).run = .running ∧ (s.gen.gens.get 0).next = some ⟨phase, true⟩ ∧
        s.ts.groupA.moved.current - s.ts.groupA.current = 0 ∧ (s.gen.gens.get 1).run = .disabled ∧
        (s.gen.gens.get 2).run = .holding ∧ (s.gen.gens.get 3).run = .skipping ∧ 1 < (s.gen.gens.get 3).skip) ∧
    (let s := closing .member .none false false 0 0 ⟨.skipping, 1, none, none⟩
     (s.gen.gens.get 0).run = .skipping ∧ (s.gen.gens.get 0).skip ≤ 1 ∧ s.port.snapSkip = 0 ∧
       s.cfg.snapPostscaler ≤ s.port.snapPost + 1) ∧
    0 < (closing .member .none false false 1 0 (runningGen 0)).port.snapSkip ∧
    (let s := { node .member with port.record := some { cfg with snapPostscaler := 2 } }
     s.begun = true ∧ s.port.snapSkip = 0 ∧ s.port.snapPost + 1 < s.cfg.snapPostscaler) ∧
    (∀ count ∈ [1, 2], ∀ empty ∈ [2, 3], ∀ evidence ∈ [true, false],
      let s := aligningAt count empty evidence
      s.mem.state = .aligning ∧ s.mem.evidenceThis = evidence ∧ s.mark.earlyOwn = .ended ∧ s.mark.fault = false ∧
        (2 ≤ s.mem.aligningCount ↔ count = 2) ∧ (3 ≤ s.mem.emptyCount ↔ empty = 3)) ∧
    (∀ p ∈ [ns 1000000, ns 1000000 + 1], ns 1000000 < p ↔ p ≠ ns 1000000) ∧
    (let t := (aligningAt 2 0 false).boundaryProper none none false
     t.mem.state = .joining) ∧
    (let t := (aligningAt 1 2 false).boundaryProper (some 5) (some 5) false
     t.mem.state = .aligning) := by
  refine ⟨?_, ?_, ?_, ?_, ?_, ?_, ?_, ?_, ?_, ?_, ?_, ?_, ?_⟩ <;> decide +kernel

/-! ## MARK -/

theorem witness_OwnMarkIsAssertedReleasedAndWatched :
    (∀ st ∈ [MembershipState.listen, .joining, .member], (windowed st).pointDue (.slot 3) = true ∧
      (windowed st).mem.nodeId = 3 ∧ ((windowed st).raise (.slot 3)).pins.mark = .high) ∧
    (windowed .member).pointDue (.slot 5) = true ∧
    (let s := (stepping 1600 false).boundaryProper (some 1600) (some 1600) false
     s.ts.stepBegan = true ∧ s.ts.sitePhase = 1600 ∧ s.pointDue (.slot 0) = false ∧ s.pointDue (.slot 3) = true) ∧
    (let s := { windowed .member with pins.mark := .low }
     s.pointDue (.slot 3) = true ∧ (s.raise (.slot 3)).pins.mark = .low ∧
       (s.raise (.slot 3)).mark.capture.isSome = true) ∧
    (let s := { windowed .member with mark.drive := some 1 }
     s.mark.drive = some 1 ∧ s.dueWithin 1 = true) ∧
    (∀ l ∈ [Level.low, Level.high],
      let s := { windowed .member with pins.mark := l, mark.heldWatch := some 1, mark.echo := ⟨true, false, none, false⟩ }
      s.mark.heldWatch = some 1 ∧ s.dueWithin 1 = true ∧ (s.runTo (s.ts.sitePhase + 1)).pins.mark = l ∧
        (s.runTo (s.ts.sitePhase + 1)).mark.echo.asserted = true ∧
        (s.runTo (s.ts.sitePhase + 1)).mark.fault = false) := by decide +kernel



/-- A node with a fall awaiting the glitch limit, of a phase, after a high time. -/
def falling (st : MembershipState) (phase high : Nat) : State :=
  { windowed st with pins.mark := .low, mark.candidate := some ⟨⟨0, phase⟩, 1, high, false⟩, mark.lowTimer := some 1 }

theorem witness_AcceptedEdgesAreHeardWhileListening :
    (∀ st ∈ [MembershipState.listen, .apart, .withdrawn], ∀ high ∈ [ns 500000000 - 1, ns 500000000],
      (falling st 0 high).mark.candidate = some ⟨⟨0, 0⟩, 1, high, false⟩ ∧
      (falling st 0 high).dueWithin (ns 2000 - 1) = true ∧ (falling st 0 high).port.outbox = [] ∧
      (falling st 0 high).mark.fault = false ∧ (falling st 0 high).mem.state = st ∧
      (falling st 0 high).mem.frameRecord = []) ∧
    (let s := { falling .listen 0 (ns 500000000) with mem.frameRecord := [⟨5, .census, 1, false⟩] }
     s.mem.frameRecord = ⟨5, .census, 1, false⟩ :: [] ∧ s.dueWithin (ns 2000 - 1) = true) ∧
    (let s := { falling .listen 0 0 with mark.fault := true }
     s.mark.fault = true ∧ s.dueWithin (ns 2000 - 1) = true ∧ s.port.outbox = []) := by decide +kernel

/-- The edges of the windows: an edge just inside and just outside the window of slot 2, one in the own window,
the own echo, and an edge at each reading of a slot. -/
theorem witness_AcceptedEdgesAreAttributedToSlots :
    (∀ phase ∈ [ns 100000, ns 99999, ns 187500, ns 999974999],
      let s := falling .member phase 0
      s.mark.candidate = some ⟨⟨0, phase⟩, 1, 0, false⟩ ∧ s.dueWithin (ns 2000 - 1) = true ∧
        s.port.outbox = [] ∧ s.mark.capture = some ⟨0, emptySlots⟩ ∧ s.mark.fault = false ∧
        s.mem.state = .member ∧ s.mark.echo.stamp ≠ some ⟨0, phase⟩ ∧ phase < ns 999975000) ∧
    inSlotWindow (ns 100000) 2 ∧ inSlotWindow (ns 187500) 3 ∧ (falling .member 0 0).mem.nodeId = 3 ∧
    (∀ k : NodeId, ¬ inSlotWindow (ns 99999) k) ∧ (∀ k : NodeId, ¬ inSlotWindow (ns 999974999) k) ∧
    (let s := { falling .member (ns 187500) 0 with mark.echo := ⟨true, false, some ⟨0, ns 187500⟩, false⟩ }
     s.mark.echo.stamp = some ⟨0, ns 187500⟩ ∧ s.dueWithin (ns 2000 - 1) = true) ∧
    (∀ id ∈ [(0 : NodeId), 3], ∀ crossed ∈ [true, false], ∀ phase ∈ [ns 999975000, ns 1000000000 - 1],
      let s := { falling .member phase 0 with
        mem.nodeId := id, mark.candidate := some ⟨⟨0, phase⟩, 1, 0, crossed⟩ }
      s.mark.candidate = some ⟨⟨0, phase⟩, 1, 0, crossed⟩ ∧ s.dueWithin (ns 2000 - 1) = true ∧
        s.port.outbox = [] ∧ s.mark.capture = some ⟨0, emptySlots⟩ ∧ s.mark.fault = false ∧
        s.mem.state = .member ∧ s.mark.echo.stamp ≠ some ⟨0, phase⟩ ∧ ns 999975000 ≤ phase ∧ s.mem.nodeId = id) := by
  unfold inSlotWindow
  refine ⟨?_, ?_, ?_, ?_, ?_, ?_, ?_, ?_⟩ <;> decide +kernel

/-- A low period of a length that a rise may end, with evidence. -/
def lowMark (low : Nat) (e : Evidence) : State :=
  { windowed .member with pins.mark := .low, mark.lowTimer := some low, mark.evidence := e }

theorem witness_MarkFallsAndRisesBoundTheLowPeriod :
    ((node .member).begun = true ∧ (node .member).pins.mark = .high ∧ (node .unconfigured).begun = false ∧
      (node .unconfigured).pins.mark = .high ∧ { node .member with pins.mark := .low }.pins.mark = .low) ∧
    (∀ x ∈ [(ns 1000000, (⟨false, []⟩ : Evidence)), (ns 1000000, ⟨false, [.otherEdge]⟩),
        (ns 1000000 - 1, ⟨true, [.otherEdge]⟩), (ns 1000000 - 1, ⟨false, [.heldLow]⟩),
        (ns 1000000 - 1, ⟨false, [.heldLow, .otherEdge]⟩)],
      let s := lowMark x.1 x.2
      s.begun = true ∧ s.pins.mark = .low ∧ (s.advance 0).mark.drive = none ∧ s.port.outbox = [] ∧
        (s.advance 0).mark.lowTimer = some x.1 ∧ (s.advance 0).mark.candidate = none ∧
        s.mark.evidence = x.2) ∧
    (∀ age ∈ [ns 2000 - 1, ns 2000],
      let s := { lowMark age ⟨false, []⟩ with mark.candidate := some ⟨⟨0, 0⟩, age, 0, false⟩ }
      s.begun = true ∧ s.pins.mark = .low ∧ (s.advance 0).mark.drive = none ∧
        (s.advance 0).mark.lowTimer = some age ∧ (s.advance 0).mark.candidate = some ⟨⟨0, 0⟩, age, 0, false⟩) := by
  decide +kernel

/-- A node with a receiver, WORD high. -/
def onLine (st : MembershipState) (f : FrameUnit) : State := { nodeAt st 3000000 with frame := f }

theorem no_frame_to_start (s : State) (h : s.frame.talk = none) (h' : s.frame.leave = none) :
    ∀ what f, ¬ s.mayStart what f := by
  intro what f
  cases what <;> simp [State.mayStart, h, h']

/-- A READY frame unit with a LEAVE pending. -/
def leaving : FrameUnit := { idleFrame with leave := some .command }

/-- A LEAVE that is pending on an idle line, at a node that is READY and QUIET, starts. -/
theorem leave_starts (s : State) (h1 : s.frame.talk = none) (h2 : ns 1000000 ≤ s.ts.sitePhase)
    (h3 : s.frame.leave = some .command) (h4 : s.frame.idle = true ∧ s.frame.rx = .ready ∧ s.frame.tx = .quiet ∧
      s.frame.txAge = none ∧ s.pins.word = .high ∧ s.begun = true) :
    s.starts .leave (.leave s.mem.nodeId s.ts.epoch .command) :=
  ⟨⟨Or.inl h1, h2, .command, h3, rfl⟩, h4⟩

theorem witness_StuckMarkLineSuspendsCaptureUntilItRecovers :
    (∀ fault ∈ [true, false],
      let s := { lowMark (ns 1000000 - 1) ⟨false, []⟩ with mark.fault := fault }
      s.mark.lowTimer = some (ns 1000000 - 1) ∧ s.dueWithin (ns 1000000 - (ns 1000000 - 1)) = true ∧
        s.port.outbox = [] ∧ s.mark.fault = fault) ∧
    (let s := { node .member with mark.recovery := some 0, frame.recovery := some 0 }
     s.mark.recovery = some 0 ∧ s.frame.recovery = some 0 ∧ s.dueWithin (ns 1000000 - 0) = true) ∧
    (∀ leave ∈ [none, some LeaveReason.command],
      let s := onLine .member { FrameUnit.reset with recovery := some (ns 1000000 - 1), leave := leave }
      s.frame.recovery = some (ns 1000000 - 1) ∧ s.dueWithin (ns 1000000 - (ns 1000000 - 1)) = true) ∧
    (onLine .member { idleFrame with leave := none }).nothingStarts ∧
    (onLine .member leaving).starts .leave (.leave 3 0 .command) := by
  refine ⟨by decide +kernel, by decide +kernel, by decide +kernel, Or.inl (no_frame_to_start _ rfl rfl), ?_⟩
  exact leave_starts _ (by decide +kernel) (by decide +kernel) (by decide +kernel) (by decide +kernel)

/-- An ALIGNING node with a set, and a run of empty sets. -/
def aligningWith (slots : Vector SlotReading 16) (empty : Nat) : State :=
  { node .aligning with mark.capture := some ⟨0, slots⟩, mem.emptyCount := empty }

/-- A MEMBER at the end of the mark region with a frame unit. -/
def atMarkEnd (f : FrameUnit) : State :=
  { nodeAt .member 1000000 with
    frame := f, ts := { (nodeAt .member 1000000).ts with raised := [.slot 0] } }

theorem witness_AligningReadsTheCaptureSet :
    (∀ empty ∈ [2, 3],
      let s := aligningWith emptySlots empty
      s.pointDue .endOfMark = true ∧ s.port.outbox = [] ∧ s.mem.state = .aligning ∧
        s.mark.capture.isSome = true ∧ s.mem.emptyCount = empty ∧ ∀ k, (s.readSlot k).isOne = false) ∧
    (let s := aligningWith slotsFive 0
     s.pointDue .endOfMark = true ∧ s.mark.capture.isSome = true ∧ (s.readSlot 5).isOne = true) ∧
    ((node .aligning).pointDue .endOfMark = true ∧ (node .aligning).mark.capture = none ∧
      (node .member).pointDue .endOfMark = true ∧ (node .member).mem.state ≠ .aligning) ∧
    ((aligningWith emptySlots 3).raise .endOfMark).nothingStarts ∧
    (atMarkEnd leaving).pointDue .endOfMark = true ∧ (atMarkEnd leaving).mem.state ≠ .aligning ∧
    ((atMarkEnd leaving).raise .endOfMark).starts .leave (.leave 3 0 .command) := by
  refine ⟨by decide +kernel, by decide +kernel, by decide +kernel, Or.inl (no_frame_to_start _ rfl rfl),
    by decide +kernel, by decide, ?_⟩
  exact leave_starts _ (by decide +kernel) (by decide +kernel) (by decide +kernel) (by decide +kernel)

theorem witness_EvidenceInTwoEpochsIsConflict :
    (node .withdrawn).mem.state = .withdrawn ∧ (node .listen).mem.state = .listen ∧
    (node .member).mem.state = .member ∧ (node .member).mem.evidenceLast = false ∧
    (let s := { node .member with mem.evidenceLast := true }
     s.mem.state = .member ∧ s.mem.evidenceLast = true) := by decide

/-! ## WORD -/

/-- A node whose WORD has been low for a time, with collision evidence or none. -/
def lowWord (low : Nat) (collision fault : Bool) : State :=
  { node .member with pins.word := .low, frame.lowTimer := some low, frame.collision := collision, frame.fault := fault }

theorem witness_WordFallsAndRisesMoveTheReceiver :
    ({ node .member with pins.word := .low }.pins.word = .low) ∧
    ((node .unconfigured).begun = false ∧ (node .unconfigured).pins.word = .high) ∧
    ((onLine .member idleFrame).begun = true ∧ (onLine .member idleFrame).pins.word = .high ∧
      ((onLine .member idleFrame).advance 0).frame.readyNow = true ∧
      (∀ what f, ¬ ((onLine .member idleFrame).advance 0).mayStart what f)) ∧
    (((onLine .member leaving).advance 0).frame.readyNow = true ∧
      ((onLine .member leaving).advance 0).mayStart .leave (.leave 3 0 .command) ∧
      ((onLine .member leaving).advance 0).frame.tx = .quiet ∧
      ((onLine .member leaving).advance 0).frame.txAge = none) ∧
    (∀ rx ∈ [Receiver.starting, .receiving, .waitingIdle],
      ((onLine .member { FrameUnit.reset with rx := rx }).advance 0).frame.readyNow = false ∧
      ((onLine .member { FrameUnit.reset with rx := rx }).advance 0).frame.rx = rx) ∧
    (∀ x ∈ [(ns 1000000 - 1, true), (ns 1000000, true), (ns 2000, false), (ns 2000 - 1, false)],
      let s := lowWord x.1 x.2 false
      s.begun = true ∧ s.pins.word = .low ∧ s.frame.txDriving = false ∧ s.port.outbox = [] ∧
        (s.advance 0).frame.lowTimer = some x.1 ∧ s.frame.collision = x.2) ∧
    (∀ idle ∈ [some (ns 48000 - 1), some (ns 48000), none], ∀ fault ∈ [true, false],
      ∀ rx ∈ [Receiver.ready, .waitingIdle, .starting, .receiving],
      let u : FrameUnit := { FrameUnit.reset with idleTimer := idle, fault := fault, rx := rx }
      u.rx = rx ∧ (u.readyNow = true ↔ idle = some (ns 48000) ∧ fault = false ∧ (rx = .ready ∨ rx = .waitingIdle))) := by
  refine ⟨by decide, by decide, ⟨by decide, by decide, by decide +kernel, ?_⟩,
    ⟨by decide +kernel, ⟨Or.inl (by decide +kernel), by decide +kernel, .command, by decide +kernel, by decide +kernel⟩,
      by decide +kernel, by decide +kernel⟩, by decide +kernel, by decide +kernel, by decide +kernel⟩
  exact no_frame_to_start _ (by decide +kernel) (by decide +kernel)

theorem witness_IdleLineLetsAFrameStart :
    (∀ f ∈ [{ FrameUnit.reset with idleTimer := some (ns 47999) },
        { FrameUnit.reset with idleTimer := some (ns 47999), rx := .receiving, rxBits := [false] },
        { FrameUnit.reset with idleTimer := some (ns 47999), leave := some .command }],
      (onLine .member f).frame.toIdle = some (ns 1) ∧ (onLine .member f).dueWithin (ns 1) = true ∧
      (onLine .member f).begun = true ∧ (onLine .member f).pins.word = .high ∧
      (onLine .member f).frame.fault = false ∧ (onLine .member f).frame.rx ≠ .starting ∧
      (onLine .member f).frame.tx = .quiet ∧ (onLine .member f).frame.txAge = none ∧
      ((onLine .member f).runTo ((onLine .member f).ts.sitePhase + ns 1)).frame.idleTimer = some (ns 48000)) ∧
    (∀ f ∈ [{ FrameUnit.reset with idleTimer := some (ns 47999), rx := .starting },
        { FrameUnit.reset with idleTimer := some (ns 47999), fault := true }],
      (onLine .member f).frame.toIdle = some (ns 1) ∧ (onLine .member f).dueWithin (ns 1) = true ∧
      ((onLine .member f).frame.fault = true ∨ (onLine .member f).frame.rx = .starting)) ∧
    (∀ what f, ¬ (onLine .member FrameUnit.reset).mayStart what f) ∧
    (let s := onLine .member { FrameUnit.reset with idleTimer := some (ns 47999), leave := some .command }
     (s.runTo (s.ts.sitePhase + ns 1)).mayStart .leave (.leave 3 0 .command)) := by
  refine ⟨by decide +kernel, by decide +kernel, no_frame_to_start _ rfl rfl, ?_⟩
  exact ⟨Or.inl (by decide +kernel), by decide +kernel, .command, by decide +kernel, by decide +kernel⟩

/-- A receiver a moment before its sample point, with the bits taken. -/
def sampling (rx : Receiver) (bits : List Bool) (run : Nat) (word : Level) : State :=
  { onLine .member { FrameUnit.reset with rx := rx, rxBits := bits, rxRun := run, toSample := 1 } with
    pins := { (node .member).pins with word := word } }

/-- The same, while the node sends the bit that it receives, the sample points falling together or apart. -/
def sharing (own : Bool) (age : Nat) : State :=
  { onLine .member { FrameUnit.reset with
      rx := .receiving, rxBits := [false], toSample := 1, rxOwn := own
      tx := .arbitrating, txBits := (Frame.leave 3 0 .command).lineBits, txPos := 6, txAge := some age } with
    pins := { (node .member).pins with word := .low } }

theorem witness_ReceiverTakesABitAtItsSamplePoint :
    (∀ rx ∈ [Receiver.starting, .receiving], ∀ run ∈ [7, 8], ∀ word ∈ [Level.low, .high],
      let s := sampling rx [false] run word
      earlier s.frame.toReceiverSample s.frame.toSenderSample = some 1 ∧ s.dueWithin 1 = true ∧
      (s.runTo (s.ts.sitePhase + 1)).frame.toSample = 0 ∧ (s.runTo (s.ts.sitePhase + 1)).frame.toSenderSample ≠ some 0 ∧
      s.frame.rx = rx ∧ s.pins.word = word ∧ s.frame.rxRun = run) ∧
    (∀ own ∈ [true, false],
      let s := sharing own (ns 2000 - 1)
      earlier s.frame.toReceiverSample s.frame.toSenderSample = some 1 ∧ s.dueWithin 1 = true ∧
      (s.runTo (s.ts.sitePhase + 1)).frame.toSample = 0 ∧ (s.runTo (s.ts.sitePhase + 1)).frame.toSenderSample = some 0 ∧
      s.frame.rx = .receiving ∧ s.frame.rxRun < 8 ∧ s.frame.rxOwn = own) ∧
    progressOf [false, true] = .going ∧ progressOf (Frame.leave 5 0 .conflict).bits = .complete ∧
    crcPasses (Frame.leave 5 0 .conflict).bits = true ∧ progressOf ([false] ++ [true, true]) = .fault .format := by
  decide +kernel

/-- A transmitter in a bit of a LEAVE: its position, the age of the bit, what it has read. -/
def sendingAt (tx : Transmitter) (pos age : Nat) (read : Option Level) : FrameUnit :=
  { FrameUnit.reset with
    leave := some .conflict, inFlight := some .leave, tx := tx
    txBits := (Frame.leave 5 0 .conflict).lineBits, txPos := pos, txAge := some age, txRead := read }

theorem witness_SenderReadsAndDrivesItsBits :
    (let s := onLine .member (sendingAt .arbitrating 6 (ns 2000 - 1) none)
     earlier s.frame.toReceiverSample s.frame.toSenderSample = some 1 ∧ s.dueWithin 1 = true ∧
       (s.runTo (s.ts.sitePhase + 1)).frame.toReceiverSample ≠ some 0 ∧
       (s.runTo (s.ts.sitePhase + 1)).frame.toSenderSample = some 0) ∧
    (let s := { sharing false (ns 2000 - 1) with frame.toSample := 2 }
     earlier s.frame.toReceiverSample s.frame.toSenderSample = some 1 ∧ s.dueWithin 1 = true ∧
       (s.runTo (s.ts.sitePhase + 1)).frame.toReceiverSample = some 1 ∧
       (s.runTo (s.ts.sitePhase + 1)).frame.toSenderSample = some 0) ∧
    (∀ x ∈ [(0, Level.low), (2, .low), (1, .high), (6, .high)],
      let s := onLine .member (sendingAt .arbitrating x.1 (ns 4000 - 1) (some x.2))
      s.frame.tx ≠ .quiet ∧ s.frame.txRead = some x.2 ∧ s.dueWithin (ns 4000 - (ns 4000 - 1)) = true ∧
        s.frame.atLastBit = false) ∧
    (let s := onLine .member (sendingAt .arbitrating 0 (ns 4000 - 1) (some .low))
     s.frame.mismatch = false ∧ s.pins.word = .high ∧ s.begun = true ∧ s.frame.txBits.getD 1 true = false) ∧
    (let s := onLine .member (sendingAt .quiet 0 (ns 4000 - 1) none)
     s.frame.tx = .quiet ∧ s.frame.txAge = some (ns 4000 - 1) ∧ s.dueWithin (ns 4000 - (ns 4000 - 1)) = true) := by
  decide +kernel

theorem witness_StuckWordLineReturnsTheDroppedFrame :
    (∀ fault ∈ [true, false],
      let s := lowWord (ns 1000000 - 1) false fault
      s.frame.lowTimer = some (ns 1000000 - 1) ∧ s.dueWithin (ns 1000000 - (ns 1000000 - 1)) = true ∧
        s.port.outbox = [] ∧ s.frame.fault = fault ∧ s.frame.returnedTalk = none ∧ s.frame.returnedLeave = none) ∧
    (∀ x ∈ [(true, true), (true, false), (false, false)],
      let s := { lowWord (ns 1000000 - 1) true false with frame.returnedTalk := some ⟨censusFive 0, x.1, x.2⟩ }
      s.frame.fault = false ∧ s.frame.returnedTalk = some ⟨censusFive 0, x.1, x.2⟩ ∧
        s.frame.returnedLeave = none) ∧
    (let s := { lowWord (ns 1000000 - 1) true false with frame.returnedLeave := some ⟨.conflict, false⟩ }
     s.frame.returnedTalk = none ∧ s.frame.returnedLeave = some ⟨.conflict, false⟩ ∧ s.frame.leave = none) := by
  decide +kernel

/-- A node whose talk frame has lost arbitration, with a LEAVE pending or none. -/
def losing (st : MembershipState) (leave : Option LeaveReason) : State :=
  onLine st { sendingAt .arbitrating 4 (ns 2000) (some .low) with
    inFlight := some .talk, talk := some (censusFive 0), leave := leave }

/-- The lost talk frame is discarded with a LEAVE pending, and outside JOINING and MEMBER (log entry 18), and stays
otherwise (R73). -/
theorem test_lost_talk_frame :
    exec .arbitrationLoss (losing .member (some .command)) = .next { losing .member (some .command) with
      frame := { (losing .member (some .command)).frame.quieted with talk := none } } ∧
    exec .arbitrationLoss (losing .listen none) = .next { losing .listen none with
      frame := { (losing .listen none).frame.quieted with talk := none } } ∧
    exec .arbitrationLoss (losing .withdrawn none) = .next { losing .withdrawn none with
      frame := { (losing .withdrawn none).frame.quieted with talk := none } } ∧
    exec .arbitrationLoss (losing .member none) = .next { losing .member none with
      frame := { (losing .member none).frame.quieted with talk := some (censusFive 0) } } := by
  refine ⟨?_, ?_, ?_, ?_⟩ <;> rfl

theorem witness_MismatchOrArrivalEndsTheSending :
    (∀ tx ∈ [Transmitter.arbitrating, .sending],
      let f := sendingAt tx 4 (ns 2000) (some .low)
      f.tx = tx ∧ f.txBit = true ∧ f.txRead = some .low ∧ f.inFlight = some .leave ∧ f.leave = some .conflict) ∧
    (let f := { sendingAt .sending 4 (ns 2000) (some .low) with inFlight := some .talk, talk := some (censusFive 0) }
     f.tx = .sending ∧ f.txBit = true ∧ f.txRead = some .low ∧ f.inFlight = some .talk ∧
       f.talk = some (censusFive 0)) ∧
    (∀ st ∈ [MembershipState.listen, .withdrawn, .joining, .member], ∀ leave ∈ [none, some LeaveReason.command],
      let s := losing st leave
      s.mem.state = st ∧ s.frame.tx = .arbitrating ∧ s.frame.txBit = true ∧ s.frame.txRead = some .low ∧
        s.frame.inFlight = some .talk ∧ s.frame.talk = some (censusFive 0) ∧ s.frame.leave = leave) ∧
    (FrameUnit.reset.tx ≠ .arbitrating ∧ FrameUnit.reset.tx ≠ .sending) ∧
    (∀ rx ∈ [Receiver.waitingIdle, .receiving], ∀ flight ∈ [InFlight.leave, .talk],
      ∀ receipt ∈ [none, some (Receipt.arrived (.leave 5 0 .conflict) true),
        some (.arrived (.leave 5 0 .conflict) false), some (.faulty .truncated none)],
      let f := { sendingAt .sending 56 (ns 2000) (some .high) with
        rx := rx, receipt := receipt, inFlight := some flight }
      f.tx = .sending ∧ f.txPos + 1 = f.txBits.length ∧ f.txRead = some .high ∧ f.inFlight = some flight ∧
        f.rx = rx ∧ f.receipt = receipt) := by decide +kernel

theorem witness_FaultyAndOwnIdFramesAreNotDelivered :
    (∀ kind ∈ [ErrorKind.crc, .format, .truncated, .epoch],
      let s := { node .member with frame.receipt := some (.faulty kind (some 5)), frame.errorEpoch := some 0#32 }
      s.port.outbox = [] ∧ s.frame.receipt = some (.faulty kind (some 5)) ∧ s.frame.errorEpoch = some s.ts.epoch) ∧
    (node .member).frame.errorEpoch ≠ some (node .member).ts.epoch ∧
    (arrivedAt .member (censusFive 0) false).frame.receipt = some (.arrived (censusFive 0) false) ∧
    (∀ st ∈ [MembershipState.listen, .aligning, .member, .conflict], ∀ last ∈ [true, false],
      let f := Frame.leave 3 0 .command
      let s := { arrivedAt st f true with mem.evidenceLast := last }
      s.frame.receipt = some (.arrived f true) ∧ s.frame.tx = .quiet ∧ f.sender = s.mem.nodeId ∧
        s.port.outbox = [] ∧ s.mem.state = st ∧ s.mem.evidenceLast = last) := by
  refine ⟨by decide, by decide, rfl, by decide +kernel⟩

/-- A MEMBER on an idle line at the instant at which its talk window has opened and its CENSUS has started. -/
def opened : State := (({ node .member with frame := idleFrame } : State).raise .talkOpen).openTalk

theorem witness_TalkWindowBuildsAndDropsTheTalkFrame :
    (∀ st ∈ [MembershipState.unconfigured, .member, .joining, .listen, .conflict],
      (node st).pointDue .talkOpen = true ∧ (node st).mem.state = st ∧ (node st).frame.talk = none ∧
        (node st).frame.leave = none ∧ ((node st).raise .talkOpen).frame.idle = false) ∧
    (∀ st ∈ [MembershipState.member, .joining],
     let s := { node st with frame := idleFrame }
     s.pointDue .talkOpen = true ∧ (s.raise .talkOpen).frame.idle = true ∧
       (s.raise .talkOpen).frame.tx = .quiet ∧ (s.raise .talkOpen).frame.txAge = none) ∧
    (∀ talk ∈ [none, some (censusFive 0)], ∀ flight ∈ [none, some InFlight.talk],
      let s := { node .member with
        frame := { FrameUnit.reset with
          talk := talk, inFlight := flight, returnedTalk := some ⟨censusFive 0, false, false⟩ } }
      s.pointDue .talkClose = true ∧ s.port.outbox = [] ∧ s.frame.talk = talk ∧ s.frame.inFlight = flight) ∧
    ({ (node .conflict).raise .talkOpen with frame.windowOpen := true } : State).nothingStarts ∧
    ({ ({ node .conflict with frame := leaving } : State).raise .talkOpen with frame.windowOpen := true } : State).starts
      .leave (.leave 3 0 .command) ∧
    (∀ later ∈ [0, 1],
      let s := opened.setTau (opened.ts.tau + later)
      s.frame.inFlight = some .talk ∧ s.frame.tx ≠ .quiet ∧ s.frame.windowOpen = true ∧
        (s.ts.tau = s.ts.tauFor (ns 2000000) ↔ later = 0) ∧ ns 1000000 ≤ s.ts.sitePhase ∧
        s.frame.idleTimer = some (ns 48000) ∧ s.frame.fault = false ∧ s.frame.rx = .starting ∧ s.pins.word = .low) := by
  refine ⟨by decide +kernel, by decide +kernel, by decide +kernel, Or.inl (no_frame_to_start _ rfl rfl), ?_, by decide +kernel⟩
  exact leave_starts _ (by decide +kernel) (by decide +kernel) (by decide +kernel) (by decide +kernel)

/-- A LEAVE requested at the instant of the opening starts in place of the CENSUS just started there (R71). -/
theorem test_leave_at_the_opening :
    let t := opened.requestLeave .supply
    t.frame.talk = none ∧ t.frame.inFlight = some .leave ∧ t.frame.txBits = (Frame.leave 3 0 .supply).lineBits ∧
      t.pins.word = .low := by decide +kernel

/-! ## Arrivals and the roster -/

/-- A MEMBER at which a frame has arrived whole, with an entry for node 5. -/
def memberArrived (f : Frame) (es : List Entry) : State :=
  { arrivedAt .member f true with roster.entries := es }

theorem witness_MismatchedCensusGivesANotice :
    let s := memberArrived (censusFive 0xFFFFFFFF#32) [entryFive]
    s.frame.receipt = some (.arrived (censusFive 0xFFFFFFFF#32) true) ∧ s.frame.tx = .quiet ∧
      (5 : NodeId) ≠ s.mem.nodeId ∧ s.mem.state = .member ∧ 0xFFFFFFFF#32 ≠ s.ts.epoch ∧ s.port.outbox = [] := by
  decide +kernel

/-- A JOIN of node 5 that observes this node. -/
def joinFive : Frame := .join 5 0 1 [⟨3, 8⟩]

/-- A MEMBER with `n` entries of other nodes, at which a frame of node 5 has arrived. -/
def without5 (f : Frame) (n : Nat) : State := memberArrived f (List.replicate n (Entry.new 6 1 0))

theorem witness_GoodCensusIsRecordedAndSampled :
    (let f := censusFive (memberArrived (censusFive 0) []).ts.epoch
     let s := memberArrived f [entryFive]
     s.frame.receipt = some (.arrived f true) ∧ s.frame.tx = .quiet ∧ (5 : NodeId) ≠ s.mem.nodeId ∧
       s.mem.state = .member ∧ s.port.outbox = [] ∧
       s.roster.entries.find? (fun x => x.id = 5) = some entryFive ∧ s.readSlot 5 = .one 32) ∧
    (∀ n ∈ [7, 8], ∀ posted ∈ [[], [(5 : NodeId)]],
      let s := { without5 (censusFive 0) n with roster.fullPosted := posted }
      s.frame.receipt = some (.arrived (censusFive s.ts.epoch) true) ∧ s.frame.tx = .quiet ∧
        (5 : NodeId) ≠ s.mem.nodeId ∧ s.mem.state = .member ∧ s.port.outbox = [] ∧
        s.roster.entries.find? (fun x => x.id = 5) = none ∧ maskHas s.cfg.admission 5 = true ∧
        s.readSlot 5 = .one 32 ∧ s.roster.entries.length = n ∧ s.roster.fullPosted = posted) ∧
    (let s := { without5 (censusFive 0) 0 with port.record := some { cfg with admission := 0 } }
     maskHas s.cfg.admission 5 = false) ∧
    (∀ n ∈ [0, 14, 15], ∀ epoch ∈ [7, 8],
      let older : List Sample := List.replicate n ⟨6, 0, .oneWay⟩
      let newest : Sample := ⟨7, 0, .oneWay⟩
      let x : Sample := ⟨BitVec.ofNat 32 epoch, 8, .twoWay⟩
      (newest.epoch = x.epoch ↔ epoch = 7) ∧ ((older ++ [newest]).length = 16 ↔ n = 15) ∧
        ((older ++ [newest]).length < 16 ↔ n ≠ 15)) ∧
    (let rows : List DiffRow := [⟨4, none, 7, 1⟩, ⟨6, none, 0, 0⟩]
     rows.Pairwise (fun a b => a.id < b.id) ∧ (⟨4, none, 7, 1⟩ : DiffRow) ∈ rows ∧ (∀ x ∈ rows, x.id ≠ 5)) ∧
    (∀ y ∈ [Entry.new 4 1 0, Entry.new 6 1 0], y.id ≠ entryFive.id) ∧
    ascending [Entry.new 4 1 0, Entry.new 6 1 0] := by
  refine ⟨by decide +kernel, by decide +kernel, by decide +kernel, by decide +kernel, by decide +kernel,
    by decide +kernel, ⟨by decide, trivial⟩⟩

theorem witness_JoinsAndLeavesChangeTheRoster :
    (let s := memberArrived joinFive [entryFive]
     s.frame.receipt = some (.arrived joinFive true) ∧ s.frame.tx = .quiet ∧ (5 : NodeId) ≠ s.mem.nodeId ∧
       s.mem.state = .member ∧ s.port.outbox = [] ∧ s.roster.entries.find? (fun x => x.id = 5) = some entryFive ∧
       s.readSlot 5 = .one 32) ∧
    (∀ n ∈ [7, 8], ∀ posted ∈ [[], [(5 : NodeId)]],
      let s := { without5 joinFive n with roster.fullPosted := posted }
      s.frame.receipt = some (.arrived joinFive true) ∧ s.frame.tx = .quiet ∧ (5 : NodeId) ≠ s.mem.nodeId ∧
        s.mem.state = .member ∧ s.port.outbox = [] ∧ s.roster.entries.find? (fun x => x.id = 5) = none ∧
        maskHas s.cfg.admission 5 = true ∧ s.readSlot 5 = .one 32 ∧ s.roster.entries.length = n ∧
        s.roster.fullPosted = posted) ∧
    (let s := memberArrived (.join 6 0 1 []) []
     s.frame.receipt = some (.arrived (.join 6 0 1 []) true) ∧ (s.readSlot 6).isOne = false) ∧
    (∀ st ∈ [MembershipState.listen, .apart, .aligning, .joining, .member], ∀ es ∈ [[], [entryFive]],
      let s := { arrivedAt st (.leave 5 0 .supply) true with roster.entries := es }
      s.frame.receipt = some (.arrived (.leave 5 0 .supply) true) ∧ s.frame.tx = .quiet ∧
        (5 : NodeId) ≠ s.mem.nodeId ∧ s.mem.state = st ∧ s.port.outbox = [] ∧ s.roster.entries = es ∧
        s.mem.heard = false) := by
  decide +kernel

/-- A listening node with a history of coarse offsets. -/
def listened (history : List Int) (ref : RefState) : State :=
  { node .listen with mem.history := history, ref.state := ref }

/-- A boundary at which an adoption replaces the number 7. -/
def adopting : BoundaryEvent := ⟨some 7, none, false, 0, 0⟩

theorem witness_AlignmentIsDecidedAndNumbered :
    (∀ st ∈ [MembershipState.listen, .apart, .aligning, .joining], ∀ es ∈ [[entryFive], List.replicate 7 (Entry.new 6 1 0),
        List.replicate 8 (Entry.new 6 1 0)], ∀ x ∈ [(censusFive 9, Instr.censusReceived), (joinFive, .joinReceived)],
      ∀ posted ∈ [[], [(5 : NodeId)]],
      let s := { arrivedAt st x.1 true with roster.entries := es, roster.fullPosted := posted }
      s.frame.receipt = some (.arrived x.1 true) ∧ s.frame.tx = .quiet ∧
        ((x.2 = .censusReceived ∧ x.1.kind = .census) ∨ (x.2 = .joinReceived ∧ x.1.kind = .join)) ∧
        x.1.sender ≠ s.mem.nodeId ∧ s.mem.state = st ∧ s.port.outbox = [] ∧ s.roster.fullPosted = posted ∧
        (s.roster.entries.find? (fun e => e.id = x.1.sender) = none ↔ 7 ≤ es.length) ∧
        s.mem.state ≠ .member ∧ converged s.mem.history = false ∧
        maskHas s.cfg.admission x.1.sender = true ∧ (s.readSlot x.1.sender).isOne = true) ∧
    (let s := { arrivedAt .listen joinFive true with mem.history := [0, ns 2000, 0] }
     s.frame.receipt = some (.arrived joinFive true) ∧ s.mem.state = .listen ∧ converged s.mem.history = true) ∧
    (let s := { arrivedAt .listen (.join 6 0 1 []) true with roster.entries := [entryFive] }
     s.frame.receipt = some (.arrived (.join 6 0 1 []) true) ∧ s.roster.entries.find? (fun e => e.id = 6) = none ∧
       (s.readSlot 6).isOne = false) ∧
    [JoinNote.mk 4 true, ⟨6, false⟩].Pairwise (fun a b => a.sender < b.sender) ∧
    [FrameNote.mk 4 .join 7 false, ⟨6, .census, 7, true⟩].Pairwise (fun a b => a.sender < b.sender) ∧
    (JoinNote.mk 5 true).sender ≠ (JoinNote.mk 6 true).sender ∧
    (∀ h ∈ ([[], [0, 0], [0, 0, ns 2001]] : List (List Int)),
      (listened h .absent).mem.state = .listen ∧ converged (listened h .absent).mem.history = false) ∧
    (∀ d ∈ ([ns 25000, -ns 25000] : List Int), converged [d, d, d] = true ∧ d.natAbs ≤ ns 25000) ∧
    (∀ d ∈ ([ns 25001, 8000000000, -7999999999] : List Int), ∀ ref ∈ [RefState.absent, .qualified],
      ∀ st ∈ [MembershipState.listen, .apart],
      let s := { listened [d, d, d] ref with mem.state := st }
      s.mem.state = st ∧ s.mem.history = [d, d, d] ∧ converged [d, d, d] = true ∧ ns 25000 < d.natAbs ∧
        s.ref.state = ref ∧ TimeValidForm s) ∧
    (let closed : List FrameNote := [⟨2, .join, 7, false⟩, ⟨5, .census, 9, true⟩]
     closed.find? (fun x => x.anchored) = some ⟨5, .census, 9, true⟩) ∧
    (let closed : List FrameNote := [⟨2, .join, 7, false⟩]
     closed.find? (fun x => x.anchored) = none) ∧
    (∀ x ∈ ([7, 8] : List Nat),
      let s := { node .listen with
        mem.closedRecord := [⟨5, .census, BitVec.ofNat 32 x, true⟩], mem.newest := some ⟨⟨8, 0⟩, 0⟩ }
      adoptionCandidate s.mem.closedRecord = some (BitVec.ofNat 32 x) ∧ s.mem.newest = some ⟨⟨8, 0⟩, 0⟩ ∧
        (adoptionNumber (BitVec.ofNat 32 x) ⟨⟨8, 0⟩, 0⟩ s.ts.epoch = s.ts.epoch ↔ x = 7)) ∧
    (∀ out ∈ [true, false],
      let s := { node .member with mem.adoptionOutstanding := out, roster.adoptionOutstanding := out }
      adopting.adoptedOver = some 7 ∧ s.mem.adoptionOutstanding = out ∧ s.roster.adoptionOutstanding = out) ∧
    (∀ n ∈ [7, 0xFFFFFFFF], ∀ out ∈ [true, false],
      let s := { node .member with
        ts.pendAdopt := some (BitVec.ofNat 32 n), mem.adoptionOutstanding := out, roster.adoptionOutstanding := out }
      s.ts.pendAdopt = some (BitVec.ofNat 32 n) ∧ s.mem.adoptionOutstanding = out ∧ s.roster.adoptionOutstanding = out ∧
        s.mem.state = .member ∧ (s.boundaryProper none none false).mem.state = .member) := by
  unfold TimeValidForm
  refine ⟨?_, ?_, ?_, ?_, ?_, ?_, ?_, ?_, ?_, ?_, ?_, ?_, ?_, ?_⟩ <;> decide +kernel

/-- A JOINING node with its join record and counters. -/
def joiningWith (senders : List JoinNote) (heard : Bool) (quiet counter : Nat) : State :=
  { node .joining with
    mem := { (node .joining).mem with joinSenders := senders, joinHeard := heard, joinQuiet := quiet, joinCounter := counter } }

theorem witness_ListeningAndJoiningAreJudged :
    (∀ st ∈ [MembershipState.listen, .apart], ∀ count ∈ [2, 3],
      let s := { node st with
        mem := { (node st).mem with quietCount := count, heard := false }
        port.record := some { cfg with firstMember := 4 } }
      s.mem.state = st ∧ ((if s.mem.heard then 0 else min 64 (s.mem.quietCount + 1)) < s.cfg.firstMember ↔ count = 2)) ∧
    (let senders := (joiningWith [⟨1, true⟩, ⟨2, false⟩] true 0 0).mem.joinSenders
     1 ≤ senders.length ∧ senders.length ≤ 2 * (senders.filter (·.lists)).length) ∧
    (∀ x ∈ [(false, 3, 0), (false, 2, 14), (false, 2, 15), (true, 3, 14)],
      let s := joiningWith [] x.1 x.2.1 x.2.2
      s.mem.state = .joining ∧ ¬ 1 ≤ s.mem.joinSenders.length ∧ s.mem.joinHeard = x.1 ∧
        s.mem.joinQuiet = x.2.1 ∧ s.mem.joinCounter = x.2.2 ∧ s.mark.earlyOwn ≠ .ended ∧
        (4 ≤ (if s.mem.joinHeard then 0 else min 4 (s.mem.joinQuiet + 1)) ↔ x = (false, 3, 0))) ∧
    (∀ st ∈ [MembershipState.unconfigured, .listen, .apart, .joining, .member, .withdrawn, .conflict],
      (node st).mem.state = st ∧ (node st).mark.earlyOwn ≠ .ended) ∧
    (∀ count ∈ [1, 2],
      (aligningAt count 0 true).mem.state = .aligning ∧ (2 ≤ (aligningAt count 0 true).mem.aligningCount ↔ count = 2)) ∧
    (let s := closing .joining .ended true false 0 0 (runningGen 0)
     ¬ (s.mark.earlyOwn ≠ .ended ∨ s.mark.fault = true ∨ s.mem.evidenceThis = false)) := by decide +kernel

theorem witness_SolvePointExchangeAgesTheRoster :
    ascending [entryFive, Entry.new 6 1 0] ∧
    (∀ run ∈ [2, 3],
      let e := { entryFive with received := .census, marked := true, goodRun := run }
      e.state = .heard ∧ e.received ≠ .none ∧ e.marked = true ∧ e.goodRun = run) ∧
    (∀ miss ∈ [2, 3],
      let e := { entryFive with censusMiss := miss }
      e.state = .heard ∧ e.received = .none ∧ e.censusMiss = miss) ∧
    (let e := { entryFive with state := .admitted, censusMiss := 2 }
     e.state = .admitted ∧ 3 ≤ e.censusMiss + 1) ∧
    (let e := { entryFive with state := .admitted, received := .census, markMiss := 2 }
     e.state = .admitted ∧ e.received ≠ .none ∧ e.marked = false ∧ 3 ≤ min 3 (e.markMiss + 1)) ∧
    (∀ n ∈ [7, 8],
      let e := { entryFive with state := .admitted, received := .census, marked := true, deviation := n }
      e.state = .admitted ∧ e.received ≠ .none ∧ e.marked = true ∧ e.deviation = n) ∧
    (∀ n ∈ [6, 7],
      let e := { entryFive with state := .suspect, cause := some .markMiss, censusMiss := n }
      e.state = .suspect ∧ e.cause ≠ some .deviation ∧ e.received = .none ∧ e.censusMiss + 1 = n + 1) ∧
    (∀ n ∈ [7, 8],
      let e := { entryFive with state := .suspect, cause := some .deviation, received := .census, restore := n }
      e.state = .suspect ∧ e.cause = some .deviation ∧ e.received ≠ .none ∧ e.restore = n) ∧
    (entryFive.state ≠ .suspect ∨ entryFive.cause ≠ some .deviation) ∧
    (∀ x ∈ [((8 : Mask), 6, false), (8, 7, false), (8, 7, true), (0x28, 7, false)],
      let e := { entryFive with
        state := .admitted, received := .census, declared := some ⟨.coasting, false, 100, 0⟩, mismatch := x.2.1
        mismatchPosted := x.2.2 }
      e.state = .admitted ∧ e.received = .census ∧ e.declared = some ⟨.coasting, false, 100, 0⟩ ∧
        e.mismatch = x.2.1 ∧ e.mismatchPosted = x.2.2 ∧
        ((∀ k : NodeId, k ≠ 3 → k ≠ e.id → maskHas x.1 k = maskHas 0 k) ↔ x.1 ≠ 0x200)) ∧
    (¬ ∀ k : NodeId, k ≠ 3 → k ≠ 5 → maskHas 0x200 k = maskHas 0 k) ∧
    (∀ x ∈ [(none, 0), (some (⟨0, true⟩ : DiffColumns), 1), (some ⟨7, true⟩, 0), (some ⟨7, true⟩, 1), (some ⟨8, true⟩, 1)],
      let r : DiffRow := ⟨5, x.1, 7, x.2⟩
      r.now = x.1 ∧ r.runCount = x.2 ∧ r.runDiff = 7) ∧
    (∀ x ∈ [((5 : NodeId), true), (2, false)],
      let s := { node .member with roster.diffs := [⟨x.1, some ⟨7, x.2⟩, 7, 2⟩] }
      s.mem.state = .member ∧ s.roster.adoptionOutstanding = false ∧ s.solver.timing ≠ .anchored ∧
        (s.roster.diffs.map DiffRow.run).map (·.runCount) = [3] ∧
        ((s.roster.diffs.map DiffRow.run).find? (·.anchored)).isSome = x.2 ∧
        ((s.roster.diffs.map DiffRow.run).find? (fun r => r.now.isSome)).isSome = true) := by
  refine ⟨⟨by decide, trivial⟩, ?_, ?_, ?_, ?_, ?_, ?_, ?_, ?_, ?_, ?_, ?_, ?_⟩ <;> decide +kernel

/-! ## Supply, WITHDRAW and RESUME -/

/-- A node whose supply stands at a level, its supply timer at a value. -/
def supplied (st : MembershipState) (mv : Nat) (low command : Bool) (timer : Nat) : State :=
  { node st with
    pins := { (node st).pins with supply := mv }
    mem := { (node st).mem with supplyIsLow := low, supplyTimer := timer, reasonCommand := command } }

theorem witness_SupplyEventsFollowTheDebounceTime :
    (∀ st ∈ [MembershipState.withdrawn, .conflict, .listen, .apart, .aligning, .joining, .member],
      let s := supplied st 2799 false false (ns 999999)
      s.begun = true ∧ s.mem.supplyIsLow = false ∧ s.pins.supply < s.cfg.supplyLow ∧
        s.dueWithin (ns (1000000 * s.cfg.supplyDebounce) - s.mem.supplyTimer) = true ∧ s.port.outbox = [] ∧
        s.mem.state = st) ∧
    (∀ st ∈ [MembershipState.withdrawn, .listen], ∀ command ∈ [true, false],
      let s := supplied st 3001 true command 0
      s.begun = true ∧ s.mem.supplyIsLow = true ∧ s.cfg.supplyHigh < s.pins.supply ∧
        s.dueWithin (ns (1000000 * s.cfg.supplyDebounce) - s.mem.supplyTimer) = true ∧ s.port.outbox = [] ∧
        s.mem.state = st ∧ s.mem.reasonCommand = command) := by decide +kernel

/-- A node with a transaction open, the talk window open, a talk frame in the slot and one that waits to be returned. -/
def withTalk (st : MembershipState) (flight : Option InFlight) : State :=
  { talking st with
    frame := { FrameUnit.reset with
      windowOpen := true, talk := some (censusFive 0), inFlight := flight
      returnedTalk := some ⟨censusFive 0, false, false⟩ } }

theorem witness_WithdrawAndResumeMoveTheReasonSet :
    (∀ st ∈ [MembershipState.unconfigured, .conflict, .listen, .member],
      (talking st).port.transaction = some .empty ∧ (talking st).port.outbox = [] ∧ (talking st).mem.state = st ∧
        (talking st).frame.inFlight ≠ some .leave) ∧
    (∀ command ∈ [true, false], ∀ supply ∈ [true, false],
      let s := { talking .withdrawn with mem.reasonCommand := command, mem.reasonSupply := supply }
      s.port.transaction = some .empty ∧ s.port.outbox = [] ∧ s.mem.state = .withdrawn ∧
        s.mem.reasonCommand = command ∧ s.mem.reasonSupply = supply) ∧
    (∀ st ∈ [MembershipState.listen, .apart, .aligning, .joining, .member],
      ∀ flight ∈ [none, some InFlight.talk, some .leave],
      let s := withTalk st flight
      s.port.transaction = some .empty ∧ s.port.outbox = [] ∧ s.mem.state = st ∧ s.frame.inFlight = flight ∧
        s.frame.talk = some (censusFive 0) ∧ s.frame.returnedTalk = some ⟨censusFive 0, false, false⟩) := by
  refine ⟨?_, ?_, ?_⟩ <;> decide +kernel

/-- A WITHDRAW taken in LISTEN leaves no talk frame that could start in WITHDRAWN (R95). -/
theorem test_withdraw_in_listen :
    (match exec (.withdraw 0) (withTalk .listen none) with
      | .next t => t.mem.state = .withdrawn ∧ t.frame.talk = none ∧ t.startable = none
      | _ => False) := by
  refine ⟨rfl, rfl, rfl⟩

/-! ## The reference -/

/-- The ring after intervals 0 and 1, both at offset 0, and an edge of interval 2 in progress. -/
def qualifiedAt (st : RefState) (candidate : RefCandidate) (refvalid : Bool) : State :=
  { node .listen with
    pins := { (node .listen).pins with refin := .high, refvalid := refvalid }
    ref := { RefUnit.reset with
      state := st, interval := 2, ring := if st = .absent then [] else [⟨0, 0, 0⟩, ⟨1, 0, 0⟩]
      candidate := some candidate } }

/-- The same node with a ring and a reduced offset of its edge in ns. -/
def ringed (st : RefState) (ring : List RefEntry) (offset : Nat) : State :=
  let s := qualifiedAt st ⟨⟨0, ns offset⟩, 0, ns 999⟩ true
  { s with ref.ring := ring }

theorem witness_ReferenceEdgesAreDebouncedAndCaptured :
    ((node .listen).pins.refin = .low ∧ (node .listen).begun = true ∧ (node .listen).cfg.refFitted = true ∧
      (node .listen).cfg.edgeFalling = false ∧ (node .listen).cfg.debounce ≠ .none ∧
      (node .listen).pins.oscRunning = true ∧
      (node .listen).port.outbox = [] ∧ ((node .listen).advance 0).ref.blanking.getD 0 = 0 ∧
      (node .listen).ref.candidate = none) ∧
    ((node .unconfigured).begun = false ∧ (node .unconfigured).pins.refin ≠ .high) ∧
    ({ node .listen with pins.refin := .high }.pins.refin ≠ .low) ∧
    (({ node .listen with ref.blanking := some 1 }.advance 0).ref.blanking.getD 0 ≠ 0) ∧
    ({ node .listen with port.record := some { cfg with debounce := .none } }.cfg.debounce = .none) ∧
    (∀ st ∈ [RefState.absent, .probation, .qualified, .disputed], ∀ valid ∈ [true, false],
      let c : RefCandidate := ⟨⟨0, ns 10000⟩, 0, ns 999⟩
      let s := qualifiedAt st c valid
      s.ref.candidate = some c ∧ s.dueWithin (s.cfg.debounce.ticks - c.age) = true ∧ s.port.outbox = [] ∧
        (s.runTo (s.ts.sitePhase + (s.cfg.debounce.ticks - c.age))).ref.candidate = some { c with age := ns 1000 } ∧
        s.ref.state = st ∧ s.cfg.useRefvalid = true ∧ s.pins.refvalid = valid) ∧
    (∀ i ∈ [0, 1], ∀ offset ∈ [10000, 10001],
      let s := ringed .qualified [⟨BitVec.ofNat 32 i, 0, 0⟩, ⟨1, 0, 0⟩] offset
      s.ref.ring.reverse = ⟨1, 0, 0⟩ :: ⟨BitVec.ofNat 32 i, 0, 0⟩ :: [] ∧
        ((fold (fold (fold (fold (ns offset) - 16 * s.cfg.refOffset) - 0) - fold 0)).natAbs ≤
          ns (1000 * s.cfg.halfWidth) ↔ offset = 10000)) ∧
    (let s := { node .listen with ref.blanking := some 1 }
     s.ref.blanking = some 1 ∧ s.dueWithin 1 = true) := by
  refine ⟨?_, ?_, ?_, ?_, ?_, ?_, ?_, ?_⟩ <;> decide +kernel

/-- A node in PROBATION, a ring and a count held, an edge accepted in this interval or not. -/
def proving (ring : List RefEntry) (count : Nat) (accepted : Bool) : State :=
  { node .listen with
    port.record := some { cfg with qualCount := 4, missLimit := 4 }
    ref := { RefUnit.reset with
      state := .probation, interval := 3, ring := ring, probCount := count, record := ⟨accepted, false, none⟩ } }

/-- A QUALIFIED node with outliers and misses. -/
def missing (outliers : List RefEntry) (misses : Nat) (accepted : Bool) : State :=
  { node .listen with
    port.record := some { cfg with qualCount := 4, missLimit := 4 }
    ref := { RefUnit.reset with
      state := .qualified, interval := 3, outliers := outliers, missCount := misses, record := ⟨accepted, false, none⟩ } }

theorem witness_ReferenceIsQualifiedSteppedOrLost :
    (∀ x ∈ [(ns 1000, 2), (ns 1000, 3), (ns 1000 + 1, 3)],
      let s := proving [⟨1, 0, 0⟩, ⟨2, 0, 0⟩] x.2 false
      let e : RefEntry := ⟨3, 0, x.1⟩
      s.ref.state = .probation ∧ s.ref.record.accepted = false ∧ s.cfg.qualCount = 4 ∧
        (appendBounded 16 s.ref.ring e).reverse = e :: ⟨2, 0, 0⟩ :: ⟨1, 0, 0⟩ :: [] ∧
        ((fold (e.u - 0) - fold (0 - 0)).natAbs ≤ ns 1000 ↔ x.1 = ns 1000)) ∧
    (let s := proving [⟨2, 0, 0⟩] 1 false
     (appendBounded 16 s.ref.ring ⟨3, 0, 0⟩).reverse = [⟨3, 0, 0⟩, ⟨2, 0, 0⟩]) ∧
    (let s := proving [] 1 false
     (appendBounded 16 s.ref.ring ⟨3, 0, 0⟩).reverse = [⟨3, 0, 0⟩]) ∧
    (let s := proving [⟨3, 0, 0⟩] 1 true
     s.ref.record.accepted = true) ∧
    (∀ m ∈ [2, 3], ∀ u ∈ ([ns 1000, ns 1001] : List Int),
      let s := missing [⟨1, 0, 0⟩, ⟨2, 0, 0⟩] m false
      s.ref.state = .qualified ∧ s.cfg.missLimit = 4 ∧ (min 16 (s.ref.missCount + 1) < s.cfg.missLimit ↔ m = 2) ∧
        appendBounded 3 s.ref.outliers ⟨3, 0, u⟩ = [⟨1, 0, 0⟩, ⟨2, 0, 0⟩, ⟨3, 0, u⟩] ∧
        ((fold (0 - u)).natAbs ≤ ns 1000 ↔ u = ns 1000)) ∧
    (let s := missing [⟨2, 0, 0⟩, ⟨3, 0, 0⟩] 0 true
     s.ref.outliers.getLast? = some ⟨3, 0, 0⟩) ∧
    (proving [] 0 true).ref.record.accepted = true ∧ (node .listen).ref.state = .absent ∧
    (∀ m ∈ [2, 3], (missing [] m false).ref.record.accepted = false ∧
      (min 16 ((missing [] m false).ref.missCount + 1) < (missing [] m false).cfg.missLimit ↔ m = 2)) := by
  refine ⟨?_, ?_, ?_, ?_, ?_, ?_, ?_, ?_, ?_⟩ <;> decide +kernel

theorem witness_RefvalidLossMakesTheReferenceAbsent :
    (∀ st ∈ [RefState.absent, .probation, .qualified, .disputed],
      let s := qualifiedAt st ⟨⟨0, 0⟩, 0, 0⟩ true
      s.pins.refvalid = true ∧ s.begun = true ∧ s.cfg.refFitted = true ∧ s.cfg.useRefvalid = true ∧
        s.ref.state = st ∧ s.port.outbox = [] ∧ s.pins.oscRunning = true) ∧
    (node .listen).pins.refvalid = false ∧
    (let s := { node .unconfigured with pins.refvalid := true }
     s.pins.refvalid = true ∧ s.begun = false) ∧
    (∀ x ∈ [(TimingState.anchored, none), (.acquiring, some Target.anchored), (.acquiring, some .borrowing),
        (.coasting, none)],
      let s := { qualifiedAt .qualified ⟨⟨0, 0⟩, 0, 0⟩ true with
        solver.timing := x.1, solver.target := x.2, solver.timeValid := true, solver.lastA := [3, 5], mem.state := .member
        port.queue := List.replicate 29 ⟨0, 0, .snapshot, none, none⟩ }
      s.pins.refvalid = true ∧ s.begun = true ∧ s.cfg.refFitted = true ∧ s.cfg.useRefvalid = true ∧
        s.ref.state = .qualified ∧ s.port.outbox = [] ∧ s.pins.oscRunning = true ∧ s.solver.timeValid = true ∧
        s.mem.state = .member ∧ s.port.queue.length + 3 ≤ 32 ∧
        s.solver.lastA.filter (fun k => k ≠ s.mem.nodeId) ≠ [] ∧
        ((s.solver.timing = .anchored ∨ (s.solver.timing = .acquiring ∧ s.solver.target = some .anchored)) ↔
          x = (.anchored, none) ∨ x = (.acquiring, some .anchored))) := by decide +kernel

/-! ## The solve -/

theorem witness_SolvePointHandsItsResultsOver :
    (∀ st ∈ [MembershipState.unconfigured, .listen, .member],
      (node st).pointDue .solve = true ∧ (node st).port.outbox = [] ∧
        ((node st).begun = false ↔ st = .unconfigured)) ∧
    (∀ t ∈ [TimingState.free, .acquiring, .anchored, .borrowing], ∀ held ∈ [14, 15], ∀ x ∈ [-801, -800, 1759, 1760],
      let s := { node .member with
        solver.timing := t, solver.stateHeld := held, temp.samples := [x] }
      s.solver.timing = t ∧ s.temp.mean = some x ∧ s.ts.stepBegan = false ∧ s.mem.supplyIsLow = false ∧
        (16 ≤ min 65535 (s.solver.stateHeld + 1) ↔ held = 15) ∧
        (((15 : Int).natAbs : Int) < 16 * (s.cfg.slewAnchor : Int)) ∧ ¬ ((16 : Int).natAbs : Int) < 16 * (s.cfg.slewAnchor : Int)) ∧
    (node .member).temp.mean = none ∧
    (let peers := [Peer.mk 5 0 4 true 1 (some ⟨.anchored, false, 7, 0⟩)]
     (peers.filter (fun q => q.anchored && [(5 : NodeId)].contains q.id)).filterMap
       (fun q => q.declared.map (fun d : Declared => d.bound)) ≠ []) := by
  refine ⟨?_, ?_, ?_, ?_⟩ <;> decide +kernel

/-- A solver in a timing state, a phase error, and a lock count. -/
def solving (t : TimingState) (lock : Nat) : State :=
  { node .member with solver.timing := t, solver.lockCount := lock }

theorem witness_SolvesSteerAgainstTheirError :
    (∀ t ∈ [TimingState.free, .acquiring, .anchored, .borrowing, .coasting, .alone], ∀ lock ∈ [6, 7],
      ∀ target ∈ [none, some Target.coasting],
      let s := { solving t lock with solver.target := target }
      s.solver.timing = t ∧ s.solver.timeValid = false ∧ s.solver.lockCount = lock ∧ s.solver.target = target) ∧
    ns cfg.stepLimit < (16001 : Int).natAbs ∧ (16000 : Int).natAbs ≤ ns cfg.stepLimit ∧
    ns cfg.lockLimit < (321 : Int).natAbs ∧ (-320 : Int).natAbs ≤ ns cfg.lockLimit ∧
    (∀ ob ∈ [true, false],
      let declared := [Declared.mk TimingState.anchored ob 7 0]
      (declared.filter (fun d => d.overBudget = false) = [] ↔ ob = true)) := by
  refine ⟨?_, ?_, ?_, ?_, ?_, ?_⟩ <;> decide

theorem witness_SourcePriorityMovesTheTimingState :
    (∀ t ∈ [TimingState.free, .acquiring, .anchored, .borrowing, .coasting, .alone], ∀ valid ∈ [true, false],
      let s := { solving t 0 with
        solver := { (solving t 0).solver with target := some .borrowing, validTime := valid, timeValid := valid } }
      s.solver.timing = t ∧ s.solver.target = some .borrowing ∧ s.solver.target ≠ some .anchored ∧
        s.solver.validTime = valid ∧ s.solver.timeValid = valid) ∧
    TimingState.anchored = Target.anchored.state ∧ TimingState.anchored ≠ Target.borrowing.state ∧
    (2 : OscClass) ∈ [1, (2 : OscClass)] := by
  refine ⟨?_, ?_, ?_, ?_⟩ <;> decide

/-- A peer of class 1 at an offset. -/
def peer (id : NodeId) (offset : Int) : Peer := ⟨id, offset, 4, true, 1, none⟩

theorem witness_DisputesAndSplitsAreCounted :
    (∀ st ∈ [RefState.qualified, .disputed], ∀ n ∈ [2, 3, 6, 7],
      let s := { solving .anchored 0 with
        ref.state := st, solver := { (solving .anchored 0).solver with disputeCount := n, undisputeCount := n } }
      s.ref.state = st ∧ s.solver.disputeCount = n ∧ s.solver.undisputeCount = n ∧ s.solver.timing = .anchored) ∧
    (∀ d ∈ [ns cfg.dispute, ns cfg.dispute + 1],
      let v : SolveView := ⟨some 0, [peer 5 d, peer 6 d], true, true⟩
      v.anchors ≠ [] ∧ v.member = true ∧ v.ownAnchored = true ∧ 2 ≤ v.anchors.length ∧ v.offset = some 0 ∧
        ((-0 - lowerMedian (v.anchors.map (·.offset))).natAbs ≤ ns cfg.dispute ↔ d = ns cfg.dispute) ∧
        ((-0 - lowerMedian (-0 :: v.anchors.map (·.offset))).natAbs ≤ ns cfg.dispute ↔ d = ns cfg.dispute)) ∧
    (∀ d ∈ [ns cfg.dispute, ns cfg.dispute + 1],
      let v : SolveView := ⟨some 0, [peer 5 d], true, true⟩
      v.anchors = [peer 5 d] ∧ v.offset = some 0 ∧ v.ownAnchored = true ∧
        ((-0 - (peer 5 d).offset).natAbs ≤ ns cfg.dispute ↔ d = ns cfg.dispute)) ∧
    (∀ split ∈ [true, false],
      { solving .anchored 0 with solver.split := split }.solver.split = split) ∧
    (⟨none, [], true, false⟩ : SolveView).anchors = [] ∧ (⟨none, [], true, false⟩ : SolveView).offset = none ∧
    (solving .borrowing 0).solver.timing ≠ .anchored := by
  refine ⟨?_, ?_, ?_, ?_, ?_, ?_, ?_⟩ <;> decide +kernel

theorem witness_PhaseErrorsAreWeighedAndJudged :
    (∀ t ∈ [TimingState.free, .acquiring, .anchored, .borrowing, .coasting, .alone],
      ∀ target ∈ [Target.anchored, .borrowing, .coasting],
      let s := { solving t 0 with solver.target := some target }
      s.solver.timing = t ∧ s.solver.target = some target) ∧
    ([2, 3].map (fun n => (List.replicate n (Weighed.mk 5 0 4)).length) = [2, 3]) ∧
    (let e := { entryFive with state := .admitted, sampled := true, ring := [⟨0, 8, .twoWay⟩] }
     e.state = .admitted ∧ e.sampled = true ∧ e.ring.getLast? = some ⟨0, 8, .twoWay⟩) ∧
    (entryFive.state ≠ .admitted ∧ entryFive.sampled = false ∧ entryFive.ring = []) ∧
    (memberArrived joinFive [entryFive]).roster.entries.find? (fun x => x.id = entryFive.id) = some entryFive ∧
    (let e := { entryFive with state := .suspect, cause := some .deviation, sampled := true, ring := [⟨0, 8, .twoWay⟩] }
     let p : PhaseError := ⟨some 0, [], [], some 0⟩
     e.id ∉ p.judged ∧ e.state = .suspect ∧ e.cause = some .deviation ∧ e.sampled = true ∧ p.point = some 0 ∧
       e.ring.getLast? = some ⟨0, 8, .twoWay⟩) ∧
    (∀ kept ∈ [[], [(5 : NodeId)]],
      let p : PhaseError := ⟨some 0, kept, [5, 3], some 0⟩
      entryFive.id ∈ p.judged ∧ (entryFive.id ∈ p.kept ↔ kept = [5]) ∧ (3 : NodeId) ∈ p.judged ∧ (3 : NodeId) ∉ p.kept ∧
        p.point = some 0) ∧
    (∀ out ∈ [true, false],
      let s := { solving .coasting 0 with solver.selfExcluded := out }
      s.solver.timing = .coasting ∧ s.mem.nodeId = 3 ∧ s.solver.selfExcluded = out) := by
  refine ⟨?_, ?_, ?_, ?_, ?_, ?_, ?_, ?_⟩ <;> decide

/-- A node in holdover whose B reaches the budget at the next solve, or passes it by 1 fs. -/
def holding (timing : TimingState) (past : Nat) (flagged : Bool) : State :=
  { nodeAt .member 900000000 with
    solver := { Solver.reset with
      timing := timing, timeValid := !flagged, overBudget := flagged
      bound := cfg.budget * 1000000 - 2 + past, rate := 1001 } }

theorem witness_HoldoverBoundNeverDecreases :
    (let s := { solving .coasting 0 with solver.bound := 1000000000000000 }
     (∃ t, exec (.refvalidAssert 0) s = .next t ∧ (t.solver.timing = .coasting ∨ t.solver.timing = .alone)) ∧
      s.solver.timing = .coasting ∧ s.solver.bound ≤ 1000000000000000) ∧
    (∀ timing ∈ [TimingState.coasting, .alone], ∀ past ∈ [0, 1], ∀ flagged ∈ [true, false],
      let s := holding timing past flagged
      s.solver.timing = timing ∧ s.solver.overBudget = flagged ∧
        s.solver.grow.bound = s.cfg.budget * 1000000 + past) ∧
    (let s := holding .alone 1 false
     let r := (s.raise .solve).closeInterval
     let a := r.2.rosterMarks
     let v := a.solveView r.1
     let b := (a.solveOpens v).settleSource v
     let p := b.phaseError v
     s.pointDue .solve = true ∧ s.begun = true ∧ ((b.judgeSelf p).steer v p).2.solver.timing = .alone) := by
  refine ⟨⟨⟨_, rfl, Or.inl (by decide +kernel)⟩, rfl, by decide⟩, ?_, ?_⟩ <;> decide +kernel

/-! ## Temperature -/

theorem witness_TemperatureSamplesFormTheMean :
    (∀ st ∈ [MembershipState.unconfigured, .listen], (node st).pointDue .temperature = true ∧
      (node st).port.outbox = [] ∧ (node st).temp.samples = [] ∧ (node st).temp.excursion = false) ∧
    (∀ x ∈ ([-801, 1760] : List Int), Int.tdiv (sumInt (appendBounded 8 [] (clampInt (-1024) 2560 x))) 1 = x) ∧
    (∀ x ∈ ([-800, 1759] : List Int), Int.tdiv (sumInt (appendBounded 8 [] (clampInt (-1024) 2560 x))) 1 = x) := by
  decide +kernel

theorem witness_LearnedSamplesMoveTheirBin :
    (TempBin.mk 5 0).count = 0 ∧ (0 < (TempBin.mk 5 254).count ∧ (TempBin.mk 5 254).count < 255) ∧
      (TempBin.mk 5 255).count = 255 := by decide

/-- A table with one learned bin, and a mean temperature in bin 25. -/
def oneBin (i : Nat) : TempUnit :=
  { TempUnit.reset (TempUnit.clearTable.setIfInBounds i ⟨7, 8⟩) with samples := [0] }

theorem witness_PredictionReadsTheNearestLearnedBin :
    (TempUnit.reset TempUnit.clearTable).samples = [] ∧
    (∀ i ∈ [14, 15, 25, 35, 36], (oneBin i).mean = some 0 ∧ binOf 0 = 25 ∧ 8 ≤ ((oneBin i).bin i).count ∧
      ∀ j, j < 80 → j ≠ i → ¬ 8 ≤ ((oneBin i).bin j).count) ∧
    (nightAt (-801)).mean = some (-801) ∧ (nightAt 1760).mean = some 1760 := by decide +kernel

theorem witness_TheTableChangesOnlyByResetLoadOrLearning :
    let s := { node .member with temp.table := TempUnit.clearTable.set 3 ⟨7, 9⟩ }
    (∃ t, exec .powerOnReset s = .next t ∧ t.temp.table ≠ s.temp.table) ∧
      ∀ i, i < 80 → (s.temp.bin i).count ≤ 255 := by
  exact ⟨⟨_, rfl, by decide +kernel⟩, by decide +kernel⟩

/-! ## Generators -/

/-- A node with generator 0 in a condition. -/
def generating (g : Generator) : State := { node .member with gen.gens.g0 := g }

theorem witness_PulsesStartOnTheGridAndLastTheWidth :
    (∀ phase ∈ ([0, 999999999] : List Int),
      let s := generating (runningGen phase)
      (s.gen.gens.get 0).run = .running ∧ (s.gen.gens.get 0).next = some ⟨phase, false⟩ ∧
        (⟨phase, false⟩ : NextStart).nextEpoch = false ∧
        s.ts.replay = false ∧ s.dueWithin (ns phase.toNat - s.ts.sitePhase) = true) ∧
    (let s := generating { runningGen 0 with pulse := some ⟨1600, true⟩ }
     (s.gen.gens.get 0).pulse = some ⟨1600, true⟩ ∧ s.dueWithin 1600 = true) ∧
    (∀ period ∈ [1, 1000000],
      let g : GenSettings := ⟨true, period, 0, 100, false, .a, .low, 0⟩
      1 ≤ g.period ∧ g.period ≤ 1000000) ∧
    (searchStart { Timescale.reset with tau := ns 1 } ⟨true, 1000000, 0, 100, false, .a, .low, 0⟩ false).nextEpoch = true ∧
    (searchStart Timescale.reset ⟨true, 1000000, 0, 100, false, .a, .low, 0⟩ false).nextEpoch = false ∧
    (searchStart Timescale.reset ⟨true, 1000000, 0, 100, false, .a, .low, 0⟩ true).nextEpoch = true := by
  refine ⟨?_, ?_, ?_, ?_, ?_, ?_⟩ <;> decide +kernel

theorem witness_TimeValidMovesTheGenerators :
    (∀ t ∈ [TimingState.anchored, .coasting, .free], ∀ valid ∈ [true, false],
      ((solving t 0).solver.timing = t ∧ { solving t 0 with solver.timeValid := valid }.solver.timeValid = valid)) ∧
    (node .unconfigured).begun = false ∧
    (∀ run ∈ [RunState.disabled, .holding, .skipping, .running], ∀ skip ∈ [0, 1],
      ∀ invalid ∈ [InvalidBehaviour.low, .high, .run],
      let s := { generating ⟨run, 0, none, none⟩ with
        port.record := some { cfg with gens := { cfg.gens with g0 := ⟨true, 1000, 0, 100, false, .a, invalid, skip⟩ } } }
      s.begun = true ∧ (s.gen.gens.get 0).run = run ∧ (s.cfg.gens.get 0).skip = skip ∧
        (s.cfg.gens.get 0).invalid = invalid) ∧
    onGrid Timescale.reset ⟨true, 1000, 0, 100, false, .a, .low, 0⟩ = true := by
  refine ⟨?_, ?_, ?_, ?_⟩ <;> decide +kernel

/-- A node with INHIBIT at a level, its filtered level and inhibit state, in a mode. -/
def inhibited (pin filtered inForce : Bool) (mode : InhibitMode) : State :=
  { talking .member with
    pins := { (node .member).pins with inhibit := pin }
    gen := { GenUnit.reset with filtered := filtered, inForce := inForce, filterTimer := some 0 }
    port := { (talking .member).port with record := some { cfg with inhibitMode := mode } } }

theorem witness_InhibitFollowsTheFilteredPin :
    (∀ mode ∈ [InhibitMode.latched, .follow], ∀ pin ∈ [true, false], ∀ inForce ∈ [true, false],
      let s := inhibited pin false inForce mode
      s.gen.filterTimer = some 0 ∧ s.dueWithin (ns 1000 - 0) = true ∧ s.port.outbox = [] ∧
        s.pins.inhibit = pin ∧ s.gen.inForce = inForce ∧ s.cfg.inhibitMode = mode ∧ s.begun = true ∧
        s.port.transaction = some .empty ∧ s.gen.filtered = false ∧ s.pins.oscRunning = true) ∧
    (node .unconfigured).begun = false ∧ (node .unconfigured).pins.inhibit ≠ true := by
  refine ⟨?_, ?_, ?_⟩ <;> decide +kernel

theorem witness_OutputPinsFollowTheState :
    (node .unconfigured).begun = false ∧
    (inhibited true true true .follow).begun = true ∧ (inhibited true true true .follow).gen.inForce = true ∧
    (∀ run ∈ [RunState.disabled, .holding, .skipping, .running],
      let s := generating ⟨run, 0, none, none⟩
      s.begun = true ∧ s.gen.inForce = false ∧ (s.gen.gens.get 0).run = run) := by decide

/-! ## The local port -/

theorem witness_TransactionsAreAnsweredThroughTheSlot :
    ((node .member).pins.resetHeld = false ∧ (node .member).port.transaction = none) ∧
    ({ node .member with port.slot := .pending ⟨4, .ok, 0, []⟩ }.port.slot = .pending ⟨4, .ok, 0, []⟩) ∧
    (talking .member).port.transaction = some .empty ∧ (4#8).toNat < 5 ∧ 5 ≤ (5#8).toNat ∧
    0x0C ≤ (0x0C#8).toNat ∧ (0x0B#8).toNat < 0x0C ∧ [0x0B#8] ≠ [] := by decide

/-- The values of a record at the bottom of its ranges. -/
def lowestValues : List Nat :=
  [0, 0, 0, 0, 4, 1, 1, 0, 0, 1, 1, 1, 50, 1000, 20, 200, 0, 4, 0, 0, 1, 1, 0, 1, 0] ++
    (List.replicate 4 [0, 1, 0, 50, 0, 0, 0, 0]).flatten

theorem witness_ConfigurationIsTakenBeforeBegin :
    (talking .unconfigured).port.transaction = some .empty ∧ (talking .unconfigured).begun = false ∧
    (talking .listen).port.transaction = some .empty ∧ (talking .listen).begun = true ∧
    parseFields setupFields 1 [] [] = .refused 1 ∧
    parseFields setupFields 1 [] (layOut setupFields lowestValues) = .accepted lowestValues ∧
    parseFields tablePageFields 1 [] [5#8] = .refused 1 ∧
    parseFields tablePageFields 1 [] (4#8 :: List.replicate 80 0#8) = .accepted (4 :: List.replicate 16 0) ∧
    (∀ page ∈ [0, 4], page < 5 ∧ (List.replicate 16 0).length = 16 ∧
      (∀ i ∈ [16 * page, 16 * page + 15], i < 80 ∧ 16 * page ≤ i ∧ i < 16 * page + 16)) ∧
    ¬ 79 < 16 * 3 + 16 := by
  decide +kernel

theorem witness_SetupFieldsAreCheckedAndClamped :
    ([0#8].length < (clampField 2 0 3300).width ∧ (clampField 1 4 64).width ≤ [0#8].length) ∧
    ((codeField 2).check [] 2 = none ∧ (codeField 2).check [] 1 = some 1) ∧
    (clampField 1 4 64).check [] (natBE ([0#8].take 1)) = some 4 := by decide

/-- A target of TRIM GROUP in a transaction's bytes. -/
def trimBytes (group : Nat) (target : Int) : List Byte := BitVec.ofNat 8 group :: (bytesS32 target ++ [])

theorem witness_BeginStartsEveryBlock :
    (talking .unconfigured).port.transaction = some .empty ∧ (talking .unconfigured).port.outbox = [] ∧
    (talking .unconfigured).begun = false ∧ (talking .unconfigured).port.record = some cfg ∧
    (talking .member).begun = true ∧
    { talking .unconfigured with port.record := none }.port.record = none ∧
    2 ≤ (2#8).toNat ∧ (1#8).toNat < 2 ∧ [0#8, 0#8, 0#8].length < 4 := by
  refine ⟨?_, ?_, ?_, ?_, ?_, ?_, ?_, ?_, ?_⟩ <;> decide

/-- TRIM GROUP at the ends of its ranges: groups 0 and 1, targets just within and just beyond ±1,000,000 ns. -/
theorem test_trim_group :
    (∀ group ∈ [0, 1], ∀ target ∈ ([1000000, -1000000] : List Int),
      parseFields trimFields 1 [] (trimBytes group target) = .accepted [group, patternOf target] ∧
        signedOf (patternOf target) = target) ∧
    (∀ group ∈ [0, 1], ∀ target ∈ ([1000001, -1000001] : List Int),
      parseFields trimFields 1 [] (trimBytes group target) = .refused 2) ∧
    parseFields trimFields 1 [] (trimBytes 2 0) = .refused 1 := by decide +kernel

theorem witness_EventsAreStoredRemovedOrLost :
    (talking .member).port.transaction = some .empty ∧
    (∀ b ∈ [1#8, 8#8], 1 ≤ b.toNat ∧ b.toNat ≤ 8) ∧ (0#8).toNat = 0 ∧ 8 < (9#8).toNat ∧
    (let r : EventRecord := ⟨0, 0, .snapshot, none, none⟩
     { node .member with port.queue := List.replicate 31 r }.port.queue.length < 32 ∧
       32 ≤ { node .member with port.queue := List.replicate 32 r }.port.queue.length) := by decide

theorem witness_RecordsAreLaidOutInBytes :
    { Roster.reset with entries := [entryFive] }.entries[0]? = some entryFive := by decide

/-- The first byte clocked in selects the command, and bits beyond the last whole byte are discarded (R177, R197). -/
theorem test_of_transaction : Instr.ofTransaction 0 [] 7 = .shortTransaction 0 7 ∧
    Instr.ofTransaction 0 [0x0B#8] 7 = .clearInhibit 0 ∧ Instr.ofTransaction 0 [0x00#8, 1#8, 2#8] 0 = .readResponse 0 2 ∧
    Instr.ofTransaction 0 [0x0C#8] 0 = .unknownCommand 0 0x0C#8 := by decide

/-! ## Headline statements -/

theorem witness_FramesSurviveTheWire :
    (Frame.census 15 0 3 ⟨.alone, true, 65535, 0xFFFF#16⟩ (List.replicate 8 ⟨15, 524287⟩)).fits ∧
    (Frame.join 0 0 0 (List.replicate 15 ⟨15, -524288⟩)).fits ∧
    { FrameUnit.reset with rx := .starting }.rx = .starting ∧
    { FrameUnit.reset with rx := .starting }.receipt = none := by
  refine ⟨⟨by decide, by decide, ?_⟩, ⟨by decide, ?_⟩, rfl, rfl⟩ <;>
    simp [Observation.fits]

/-- A MEMBER with an entry, a stored event, a mark in progress and a command waiting. -/
def steppable : State :=
  { node .member with
    mark.drive := some 16, roster.entries := [entryFive], port.nextSeq := 1
    port.queue := [⟨0, 0, .membershipChange, none, some 5⟩], pending := [.markFall 0] }

/-- An ANCHORED node, its reference QUALIFIED, time-valid high. -/
def anchored : State :=
  { steppable with solver.timing := .anchored, solver.timeValid := true, gen.timeValid := true, ref.state := .qualified }

theorem witness_StepKeepsTheQueueForm : QueueForm steppable ∧ ∃ t, step steppable = .next t := by
  refine ⟨⟨by decide, trivial, ?_, rfl⟩, _, rfl⟩
  intro r h
  cases h
  decide

theorem witness_StepKeepsTheTimingStatesHonest :
    (TimeValidForm anchored ∧ AnchoredIsQualified anchored) ∧ ∃ t, step anchored = .next t := by
  refine ⟨?_, _, rfl⟩
  unfold TimeValidForm AnchoredIsQualified
  decide

theorem witness_StepKeepsTheRosterForm : RosterForm steppable ∧ ∃ t, step steppable = .next t := by
  refine ⟨⟨by decide, trivial, ?_, by decide, by decide⟩, _, rfl⟩
  intro e h
  cases h with
  | head => decide
  | tail _ h => cases h

theorem witness_StepKeepsTheCorrectionsInRange :
    CorrectionsInRange steppable ∧ ∃ t, step steppable = .next t := by
  refine ⟨⟨by unfold within; decide, by unfold within; decide, by unfold within; decide, ?_, ?_, by decide,
    by decide⟩, _, rfl⟩ <;>
    intro x h <;> cases h

theorem witness_StepKeepsDrivesReasonsAndInhibit :
    (MarkDriveForm steppable ∧ WithdrawnForAReason steppable ∧ InhibitHidesPulses steppable) ∧
    InhibitHidesPulses (inhibited true true true .follow) ∧
    WithdrawnForAReason { talking .withdrawn with mem.reasonCommand := true } ∧
    ∃ t, step steppable = .next t := by
  refine ⟨?_, ?_, ?_, _, rfl⟩ <;> simp only [MarkDriveForm, WithdrawnForAReason, InhibitHidesPulses] <;> decide

end Sys2Proof.Tests
end

/-! # Laws of every command, of the timescale unit, and of the boundary -/

namespace Sys2Proof.Machine

open Sys2Proof

/-! ## Commands that wait for their instant -/

section Due

variable {P : State → Prop} {s : State} {f : State → State}

/-- What holds of the state, and of the work at the expiry, holds whether the timer is due or not. -/
theorem atExpiry_of (r : Option Nat) (hs : P s) (hf : ∀ p, P (f (s.runTo p))) : P (s.atExpiry r f) := by
  obtain h | ⟨n, -, -, h⟩ := atExpiry_cases r f s
  · rwa [h]
  · rw [h]; exact hf _

/-- What holds of the state, and of the work at the point, holds whether the point is due or not. -/
theorem atPoint_of (p : PhasePoint) (hs : P s) (hf : P (f (s.raise p))) : P (s.atPoint p f) := by
  obtain h | ⟨-, h⟩ := atPoint_cases p f s
  · rwa [h]
  · rwa [h]

/-- What holds once time has run on, and of the command taken, holds with a transaction in progress or without. -/
theorem atRise_of (d : Nat) (hs : P (s.advance d))
    (hf : P (f { s.advance d with port.transaction := none, port.sdo := none })) : P (s.atRise d f) := by
  obtain ⟨-, h⟩ | ⟨-, h⟩ := atRise_cases d f s
  · rwa [h]
  · rwa [h]

end Due

/-- What a command answers is a next state, of which `P` holds. -/
def NextHolds (P : State → Prop) (r : Result) : Prop := ∀ t, r = .next t → P t

theorem nextHolds_next {P : State → Prop} {s : State} (h : P s) : NextHolds P (.next s) := by
  intro t e
  rwa [← Host.Outcome.next.inj e]

/-! ## The timescale unit at the work of the other blocks -/

/-! The MARK line -/

@[simp] theorem markFalls_ts (s : State) : s.markFalls.ts = s.ts := by
  unfold State.markFalls; dsimp only; split <;> rfl

@[simp] theorem assertMark_ts (s : State) : s.assertMark.ts = s.ts := by
  unfold State.assertMark; dsimp only; split <;> simp

@[simp] theorem slotTime_ts (s : State) (k : NodeId) : (s.slotTime k).ts = s.ts := by
  unfold State.slotTime; split <;> simp

@[simp] theorem strayEdge_ts (s : State) (p : Nat) : (s.strayEdge p).ts = s.ts := by
  unfold State.strayEdge; dsimp only; split <;> rfl

theorem ite_ts {p : Prop} [Decidable p] {a b : State} {t : Timescale} (ha : a.ts = t) (hb : b.ts = t) :
    (if p then a else b).ts = t := by
  split <;> assumption

/-- The branches of the work on an edge in WINDOWED (R44) change the mark unit, or count a stray edge. -/
@[simp] theorem acceptMark_ts (s : State) (c : MarkCandidate) : (s.acceptMark c).ts = s.ts := by
  refine ite_ts rfl ?_
  dsimp only
  split
  next => rfl
  next => rfl
  next =>
    refine ite_ts rfl (ite_ts (ite_ts (ite_ts rfl rfl) rfl) (ite_ts rfl (ite_ts (strayEdge_ts _ _) ?_)))
    split
    · rfl
    · exact strayEdge_ts _ _

@[simp] theorem acceptHeld_ts (s : State) : s.acceptHeld.ts = s.ts := by
  unfold State.acceptHeld; split <;> simp

@[simp] theorem candidateAtRise_ts (s : State) : s.candidateAtRise.ts = s.ts := by
  unfold State.candidateAtRise; repeat' split
  all_goals simp

@[simp] theorem confirmEvidence_ts (s : State) : s.confirmEvidence.ts = s.ts := by
  unfold State.confirmEvidence
  split
  case h_1 => rfl
  case h_2 c cs _ =>
    split
    · rfl
    · exact ((report_keeps _ _).1).trans (choose_ts c cs s)

@[simp] theorem markRises_ts (s : State) : s.markRises.ts = s.ts := by
  unfold State.markRises; dsimp only; split <;> simp

@[simp] theorem markStuck_ts (s : State) : s.markStuck.ts = s.ts := by
  unfold State.markStuck; dsimp only; repeat' split
  all_goals simp

/-! The WORD line -/

@[simp] theorem wordFallSeen_ts (s : State) : s.wordFallSeen.ts = s.ts := by
  unfold State.wordFallSeen; dsimp only; repeat' split
  all_goals simp

@[simp] theorem wordRises_ts (s : State) : s.wordRises.ts = s.ts := by
  unfold State.wordRises; dsimp only; split <;> simp

@[simp] theorem driveBit_ts (s : State) : s.driveBit.ts = s.ts := by
  unfold State.driveBit; dsimp only; split <;> simp

@[simp] theorem bitEnds_ts (s : State) : s.bitEnds.ts = s.ts := by
  unfold State.bitEnds; repeat' split
  all_goals simp

@[simp] theorem lineIdle_ts (s : State) : s.lineIdle.ts = s.ts := by
  unfold State.lineIdle; repeat' split
  all_goals simp

@[simp] theorem dropInFlight_ts (s : State) : s.dropInFlight.ts = s.ts := by
  unfold State.dropInFlight; split <;> rfl

@[simp] theorem openTalk_ts (s : State) : s.openTalk.ts = s.ts := by
  unfold State.openTalk; dsimp only; split <;> simp

@[simp] theorem closeTalk_ts (s : State) : s.closeTalk.ts = s.ts := by
  unfold State.closeTalk; dsimp only; repeat' split
  all_goals simp

@[simp] theorem returnTalk_ts (s : State) : s.returnTalk.ts = s.ts := by
  unfold State.returnTalk; dsimp only; repeat' split
  all_goals simp

@[simp] theorem wordStuck_ts (s : State) : s.wordStuck.ts = s.ts := by
  unfold State.wordStuck; dsimp only; split <;> simp

@[simp] theorem wordRecovered_ts (s : State) : s.wordRecovered.ts = s.ts := by
  simp [State.wordRecovered]

/-! The roster and the membership unit -/

@[simp] theorem offerEntry_ts (s : State) (f : Frame) : (s.offerEntry f).ts = s.ts := by
  unfold State.offerEntry; dsimp only; repeat' split
  all_goals rfl

@[simp] theorem noteDifference_ts (s : State) (k : NodeId) (e : Epoch) (t : TimingState) :
    (s.noteDifference k e t).ts = s.ts := by
  unfold State.noteDifference; split <;> rfl

@[simp] theorem rosterTakes_ts (s : State) (f : Frame) : (s.rosterTakes f).ts = s.ts := by
  unfold State.rosterTakes State.noteFrame; dsimp only; repeat' split
  all_goals simp

@[simp] theorem rosterLeave_ts (s : State) (k : NodeId) (r : LeaveReason) : (s.rosterLeave k r).ts = s.ts := by
  unfold State.rosterLeave; split <;> simp

@[simp] theorem rosterNotice_ts (s : State) (k : NodeId) (e : Epoch) (t : TimingState) :
    (s.rosterNotice k e t).ts = s.ts := by
  unfold State.rosterNotice; dsimp only; split <;> simp

@[simp] theorem rosterMarks_ts (s : State) : s.rosterMarks.ts = s.ts := rfl

@[simp] theorem memberLeave_ts (s : State) : s.memberLeave.ts = s.ts := by
  unfold State.memberLeave; split <;> rfl

@[simp] theorem leaveArrives_ts (s : State) (f : Frame) : (s.leaveArrives f).ts = s.ts := by
  unfold State.leaveArrives; repeat' split
  all_goals simp

@[simp] theorem reasonsChecked_ts (s : State) : s.reasonsChecked.ts = s.ts := by
  unfold State.reasonsChecked; split <;> simp

@[simp] theorem supplyFell_ts (s : State) : s.supplyFell.ts = s.ts := by
  unfold State.supplyFell; dsimp only; split <;> simp

@[simp] theorem supplyRose_ts (s : State) : s.supplyRose.ts = s.ts := by
  simp [State.supplyRose]

/-! The temperature unit and the generators -/

@[simp] theorem takeSample_ts (s : State) (die : Int) : (s.takeSample die).ts = s.ts := by
  unfold State.takeSample State.judgeRange; dsimp only; repeat' split
  all_goals rfl

@[simp] theorem tempBegin_ts (s : State) : s.tempBegin.ts = s.ts := by
  unfold State.tempBegin; split <;> rfl

@[simp] theorem startPulse_ts (s : State) (i : Fin 4) : (s.startPulse i).ts = s.ts := by
  unfold State.startPulse; split <;> rfl

@[simp] theorem filteredBecomes_ts (s : State) (l : Bool) : (s.filteredBecomes l).ts = s.ts := by
  unfold State.filteredBecomes; dsimp only; repeat' split
  all_goals rfl

@[simp] theorem inhibitTaken_ts (s : State) (a : Bool) : (s.inhibitTaken a).ts = s.ts := by
  unfold State.inhibitTaken; dsimp only; repeat' split
  all_goals rfl

@[simp] theorem genBegin_ts (s : State) : s.genBegin.ts = s.ts := by
  unfold State.genBegin; dsimp only; split <;> rfl

/-! The local port -/

@[simp] theorem setup_ts (s : State) (p : List Byte) : (s.setup p).ts = s.ts := by
  unfold State.setup; repeat' split
  all_goals rfl

@[simp] theorem loadPage_ts (s : State) (p : List Byte) : (s.loadPage p).ts = s.ts := by
  unfold State.loadPage; repeat' split
  all_goals rfl

@[simp] theorem readPage_ts (s : State) (p : List Byte) : (s.readPage p).ts = s.ts := by
  unfold State.readPage; split <;> rfl

@[simp] theorem begin_ts (s : State) : s.begin.ts = s.ts := by
  simp [State.begin, State.beginLines]

@[simp] theorem accept_ts (s : State) (c : Byte) (p : List Byte) : (s.accept c p).ts = s.ts := rfl

@[simp] theorem refuseState_ts (s : State) (c : Byte) : (s.refuseState c).ts = s.ts := rfl

@[simp] theorem takeBegin_ts (s : State) : s.takeBegin.ts = s.ts := by
  unfold State.takeBegin; split <;> simp

@[simp] theorem withdraw_ts (s : State) : s.withdraw.ts = s.ts := by
  unfold State.withdraw; split <;> simp

@[simp] theorem resume_ts (s : State) : s.resume.ts = s.ts := by
  unfold State.resume; split <;> simp

@[simp] theorem clearInhibit_ts (s : State) : s.clearInhibit.ts = s.ts := by
  unfold State.clearInhibit; split <;> simp [State.inhibitEnds]

@[simp] theorem takeEvents_ts (s : State) (p : List Byte) : (s.takeEvents p).ts = s.ts := by
  unfold State.takeEvents; split <;> rfl

/-! The solve -/

@[simp] theorem solveOpens_ts (s : State) (v : SolveView) : (s.solveOpens v).ts = s.ts := by
  unfold State.solveOpens; dsimp only; split <;> rfl

@[simp] theorem applySource_ts (s : State) (v : SolveView) : (s.applySource v).ts = s.ts := by
  simp [State.applySource]

@[simp] theorem judgeUndispute_ts (s : State) (v : SolveView) : (s.judgeUndispute v).ts = s.ts := by
  unfold State.judgeUndispute State.countUndispute State.endDispute State.requestUndisputed
  dsimp only
  repeat' split
  all_goals rfl

@[simp] theorem judgeSplit_ts (s : State) (v : SolveView) : (s.judgeSplit v).ts = s.ts := by
  unfold State.judgeSplit; repeat' split
  all_goals rfl

@[simp] theorem requestDisputed_ts (s : State) : s.requestDisputed.ts = s.ts := by
  unfold State.requestDisputed; split <;> rfl

@[simp] theorem judgeDispute_ts (s : State) (v : SolveView) : (s.judgeDispute v).ts = s.ts := by
  unfold State.judgeDispute State.dispute; repeat' split
  all_goals simp

@[simp] theorem settleSource_ts (s : State) (v : SolveView) : (s.settleSource v).ts = s.ts := by
  unfold State.settleSource State.judgeAnchors; split <;> simp

@[simp] theorem judgeSelf_ts (s : State) (p : PhaseError) : (s.judgeSelf p).ts = s.ts := by
  unfold State.judgeSelf; repeat' split
  all_goals rfl

@[simp] theorem judgeLock_ts (s : State) (v : SolveView) (e : Int) : (s.judgeLock v e).ts = s.ts := by
  unfold State.judgeLock State.lock; dsimp only; repeat' split
  all_goals simp

@[simp] theorem correctF_ts (s : State) (e : Int) : (s.correctF e).ts = s.ts := by
  unfold State.correctF; dsimp only; split <;> rfl

@[simp] theorem setBound_ts (s : State) (v : SolveView) (p : PhaseError) : (s.setBound v p).ts = s.ts := by
  unfold State.setBound; split <;> rfl

@[simp] theorem updateBound_ts (s : State) (v : SolveView) (p : PhaseError) : (s.updateBound v p).ts = s.ts := by
  unfold State.updateBound
  split
  · rw [(refreshTimeValid_keeps _).2.1, (judgeBudget_keeps _).2.1]
  · exact setBound_ts s v p

/-! ## The boundary (R2 to R5) -/

/-- The state at a boundary proper with its new epoch open, before the work of the other blocks (R5). -/
def State.opened (step : Option Int) (forward : Option Nat) (s : State) : State :=
  { s with ts := s.ts.openEpoch forward step.isSome
           ref.tally := fold (s.ref.tally + ((forward.getD 0 : Nat) : Int)) }

@[simp] theorem opened_ts (s : State) (step : Option Int) (forward : Option Nat) :
    (s.opened step forward).ts = s.ts.openEpoch forward step.isSome := rfl

/-- The boundary proper as one composition: each block's work in the order of R5. -/
theorem boundaryProper_eq (s : State) (step : Option Int) (forward : Option Nat) (discarded : Bool) :
    s.boundaryProper step forward discarded =
      (((((s.opened step forward).memberBoundary (s.ts.eventOf step discarded)).rosterBoundary
        (s.ts.eventOf step discarded)).markBoundary forward.isSome).genBoundary forward.isSome
        (s.ts.eventOf step discarded).deltaA (s.ts.eventOf step discarded).deltaB).snapshot.afterJump forward := rfl

/-- The timescale unit opens the epoch, and no other block's work moves it (R5). -/
@[simp] theorem boundaryProper_ts (s : State) (step : Option Int) (forward : Option Nat) (discarded : Bool) :
    (s.boundaryProper step forward discarded).ts = s.ts.openEpoch forward step.isSome := by
  rw [boundaryProper_eq, (afterJump_keeps _ _).1, (snapshot_keeps _).2.1, (genBoundary_keeps _ _ _ _).2.1,
    (markBoundary_keeps _ _).1, (rosterBoundary_keeps _ _).2.1, (memberBoundary_keeps _ _).2.1, opened_ts]

end Sys2Proof.Machine

/-! # The corrections stay in their ranges (R2, R3) -/

namespace Sys2Proof.Machine

open Sys2Proof

/-! ## Ranges of the corrections (R2, R3) -/

/-- `CorrectionsInRange`, said of the timescale unit alone: no other block has a part in it. -/
def Timescale.CorrectionsHold (t : Timescale) : Prop :=
  within 100000000 t.f ∧ within 32000 t.c ∧ within 999 t.carry ∧
  (∀ f, t.pendF = some f → within 100000000 f) ∧ (∀ c, t.pendC = some c → within 32000 c) ∧
  15998368000 ≤ t.len ∧ t.len ≤ 16001632000

theorem correctionsInRange_iff (s : State) : CorrectionsInRange s ↔ s.ts.CorrectionsHold := Iff.rfl

theorem clampInt_within (limit x : Int) (h : 0 ≤ limit) : within limit (clampInt (-limit) limit x) := by
  unfold within clampInt
  omega

theorem clampPpt_within (x : Int) : within 100000000 (clampPpt x) := clampInt_within _ x (by decide)

/-- The F term of an F and a carry in range, and the carry left, are in range (R2). -/
theorem fTerm_within {f carry : Int} (hf : within 100000000 f) (hk : within 999 carry) :
    within 1600000 (fTerm f carry).1 ∧ within 999 (fTerm f carry).2 := by
  have sign : Int.sign 1000 = 1 := rfl
  simp only [within, fTerm, Int.tdiv_eq_ediv, Int.tmod_eq_emod, sign] at *
  constructor <;> split <;> omega

@[simp] theorem advance_correctionsHold (s : State) (d : Nat) :
    (s.advance d).ts.CorrectionsHold ↔ s.ts.CorrectionsHold := by
  unfold State.advance; split <;> rfl

theorem setTarget_correctionsHold {t : Timescale} (h : t.CorrectionsHold) (g : Nat) (x : Int) :
    (t.setTarget g x).CorrectionsHold := by
  unfold Timescale.setTarget; split <;> exact h

theorem reset_correctionsHold : Timescale.reset.CorrectionsHold := by
  simp [Timescale.CorrectionsHold, Timescale.reset, within]

/-- The opening of an epoch takes its corrections from those in range, and its length follows (R2, R3, R5). -/
theorem openEpoch_correctionsHold {t : Timescale} (h : t.CorrectionsHold) (forward : Option Nat) (began : Bool) :
    (t.openEpoch forward began).CorrectionsHold := by
  obtain ⟨hf, hc, hk, hpf, hpc, hl⟩ := h
  have newF : within 100000000 (t.pendF.getD t.f) := by
    cases e : t.pendF with
    | none => exact hf
    | some f => exact hpf f e
  have newC : within 32000 (t.pendC.getD 0) := by
    cases e : t.pendC with
    | none => simp [within]
    | some c => exact hpc c e
  obtain ⟨hterm, hcarry⟩ := fTerm_within newF hk
  have len : 15998368000 ≤ (16000000000 - (fTerm (t.pendF.getD t.f) t.carry).1 - t.pendC.getD 0).toNat ∧
      (16000000000 - (fTerm (t.pendF.getD t.f) t.carry).1 - t.pendC.getD 0).toNat ≤ 16001632000 := by
    unfold within at hterm newC
    omega
  exact ⟨newF, newC, hcarry, nofun, nofun, len⟩

section HandOvers

variable {s : State} (h : s.ts.CorrectionsHold)
include h

/-- A hand-over brings F and c into their ranges (R3). -/
theorem handOver_correctionsHold (f c : Int) : (s.handOver f c).ts.CorrectionsHold := by
  obtain ⟨hf, hc, hk, -, -, hl⟩ := h
  refine ⟨hf, hc, hk, ?_, ?_, hl⟩
  · rintro _ ⟨⟩; exact clampPpt_within f
  · rintro _ ⟨⟩; exact clampInt_within 32000 c (by decide)

theorem requestStep_correctionsHold (x : Int) : (s.requestStep x).ts.CorrectionsHold := by
  unfold State.requestStep; split <;> exact h

theorem reevaluate_correctionsHold : s.reevaluate.ts.CorrectionsHold := by
  unfold State.reevaluate
  dsimp only
  split
  · exact handOver_correctionsHold (by simpa using h) _ _
  · exact h

theorem freeRequest_correctionsHold : s.freeRequest.ts.CorrectionsHold := by
  unfold State.freeRequest
  dsimp only
  split
  · exact handOver_correctionsHold (by exact h) _ _
  · exact handOver_correctionsHold (by simpa using h) _ _

/-! The reference qualifier (R24 to R36) -/

theorem setRefState_correctionsHold (x : RefState) : (s.setRefState x).ts.CorrectionsHold := by
  unfold State.setRefState
  dsimp only
  split
  · exact reevaluate_correctionsHold (by exact h)
  · exact h

theorem loseRef_correctionsHold (c : LossCause) : (s.loseRef c).ts.CorrectionsHold :=
  setRefState_correctionsHold (by exact h) _

theorem qualify_correctionsHold (r : Int) : (s.qualify r).ts.CorrectionsHold :=
  setRefState_correctionsHold (by exact h) _

theorem probationEdge_correctionsHold (e : RefEntry) : (s.probationEdge e).ts.CorrectionsHold := by
  unfold State.probationEdge
  dsimp only
  split <;> split
  · exact qualify_correctionsHold (by exact h) _
  · exact h
  · exact qualify_correctionsHold (by exact h) _
  · exact h

theorem takeOutlier_correctionsHold (e : RefEntry) : (s.takeOutlier e).ts.CorrectionsHold := by
  unfold State.takeOutlier State.refStepped
  dsimp only
  split
  · exact setRefState_correctionsHold (by exact h) _
  · split
    · exact loseRef_correctionsHold (by exact h) _
    · exact h

theorem trackEdge_correctionsHold (e : RefEntry) : (s.trackEdge e).ts.CorrectionsHold := by
  obtain ⟨n, hn⟩ := predict_shape s
  unfold State.trackEdge
  dsimp only
  rw [hn]
  split
  · exact h
  · exact takeOutlier_correctionsHold (by exact h) e

theorem takeEdge_correctionsHold (e : RefEntry) : (s.takeEdge e).ts.CorrectionsHold := by
  unfold State.takeEdge
  split
  case h_1 => exact setRefState_correctionsHold (by exact h) _
  case h_2 => exact probationEdge_correctionsHold h e
  case h_3 => exact trackEdge_correctionsHold h e
  case h_4 => exact trackEdge_correctionsHold h e

theorem acceptEdge_correctionsHold (c : RefCandidate) : (s.acceptEdge c).ts.CorrectionsHold := by
  unfold State.acceptEdge
  dsimp only
  split
  · exact h
  · exact takeEdge_correctionsHold (by exact h) _

theorem candidateAccepted_correctionsHold : s.candidateAccepted.ts.CorrectionsHold := by
  unfold State.candidateAccepted
  split
  · exact acceptEdge_correctionsHold h _
  · exact h

theorem closeTracked_correctionsHold : s.closeTracked.ts.CorrectionsHold := by
  have judged (t : State) (ht : t.ts.CorrectionsHold) :
      (if t.cfg.missLimit ≤ t.ref.missCount then t.loseRef .misses else t).ts.CorrectionsHold := by
    split
    · exact loseRef_correctionsHold ht _
    · exact ht
  exact judged _ (by exact h)

theorem closeInterval_correctionsHold : s.closeInterval.2.ts.CorrectionsHold := by
  show s.closeByState.ts.CorrectionsHold
  unfold State.closeByState
  split
  case h_1 => exact h
  case h_2 =>
    split
    · exact h
    · exact setRefState_correctionsHold (by exact h) _
  case h_3 => exact closeTracked_correctionsHold h
  case h_4 => exact closeTracked_correctionsHold h

theorem selectedTransition_correctionsHold : s.selectedTransition.ts.CorrectionsHold := by
  unfold State.selectedTransition
  dsimp only
  repeat' split
  · exact h
  · exact acceptEdge_correctionsHold h _
  · exact h

theorem refinTaken_correctionsHold (l : Level) : (s.refinTaken l).ts.CorrectionsHold := by
  unfold State.refinTaken
  dsimp only
  repeat' split
  · exact h
  · exact h
  · exact selectedTransition_correctionsHold (by exact h)
  · exact h

theorem refvalidTaken_correctionsHold (a : Bool) : (s.refvalidTaken a).ts.CorrectionsHold := by
  unfold State.refvalidTaken State.refvalidLost
  dsimp only
  repeat' split
  · exact h
  · exact h
  · exact loseRef_correctionsHold (by exact h) _
  · exact h

theorem refvalidPinBecomes_correctionsHold (d : Nat) (a : Bool) :
    (s.refvalidPinBecomes d a).ts.CorrectionsHold := by
  have advanced : (s.advance d).ts.CorrectionsHold := by simpa using h
  unfold State.refvalidPinBecomes
  dsimp only
  split
  · exact refvalidTaken_correctionsHold (by exact advanced) _
  · exact advanced

theorem trim_correctionsHold (p : List Byte) : (s.trim p).ts.CorrectionsHold := by
  unfold State.trim
  repeat' split
  · exact h
  · exact h
  · exact setTarget_correctionsHold h _ _

theorem inhibitTaken_correctionsHold (a : Bool) : (s.inhibitTaken a).ts.CorrectionsHold := by
  unfold State.inhibitTaken
  dsimp only
  repeat' split
  all_goals exact h

/-- Either of the two levels may be taken first (R19, R36). -/
theorem referenceTaken_correctionsHold : s.referenceTaken.ts.CorrectionsHold := by
  unfold State.referenceTaken
  dsimp only
  split
  · split
    · exact refinTaken_correctionsHold (refvalidTaken_correctionsHold (by simpa using h) _) _
    · exact refvalidTaken_correctionsHold (refinTaken_correctionsHold (by simpa using h) _) _
  · exact refvalidTaken_correctionsHold (refinTaken_correctionsHold h _) _

/-! The membership unit (R87, R88) -/

theorem adoptEnsemble_correctionsHold : s.adoptEnsemble.ts.CorrectionsHold := by
  unfold State.adoptEnsemble
  dsimp only
  repeat' split
  all_goals exact h

theorem decideAlignment_correctionsHold (delta : Int) : (s.decideAlignment delta).ts.CorrectionsHold := by
  unfold State.decideAlignment
  split
  · simpa using adoptEnsemble_correctionsHold h
  · split
    · split
      · simpa using h
      · exact h
    · simpa using adoptEnsemble_correctionsHold (requestStep_correctionsHold (freeRequest_correctionsHold h) (-delta))

theorem listenDelivery_correctionsHold (f : Frame) : (s.listenDelivery f).ts.CorrectionsHold := by
  unfold State.listenDelivery
  dsimp only
  split
  · exact decideAlignment_correctionsHold (by exact h) _
  · exact h

theorem memberDelivery_correctionsHold (f : Frame) : (s.memberDelivery f).ts.CorrectionsHold := by
  unfold State.memberDelivery
  split
  case h_1 => exact listenDelivery_correctionsHold h f
  case h_2 => exact listenDelivery_correctionsHold h f
  all_goals exact h

theorem censusArrives_correctionsHold (f : Frame) : (s.censusArrives f).ts.CorrectionsHold := by
  unfold State.censusArrives State.deliver
  split
  · simpa using h
  · split
    · split
      · simpa using h
      · exact memberDelivery_correctionsHold (by simpa using h) _
    · exact h
    · exact h

theorem joinArrives_correctionsHold (f : Frame) : (s.joinArrives f).ts.CorrectionsHold := by
  unfold State.joinArrives State.deliver
  split
  · simpa using h
  · exact memberDelivery_correctionsHold (by simpa using h) _

/-! The solve (R122, R146) -/

theorem steer_correctionsHold (v : SolveView) (p : PhaseError) : (s.steer v p).2.ts.CorrectionsHold := by
  unfold State.steer
  dsimp only
  split
  · split <;> exact h
  · split
    · exact requestStep_correctionsHold (by exact h) _
    · split
      · simpa using h
      · simpa using h

theorem handResults_correctionsHold (c : Int) (verdicts : NodeId → Verdict) :
    (s.handResults c verdicts).ts.CorrectionsHold := by
  have handed := handOver_correctionsHold (s := { s with solver.stateHeld := satInc16 s.solver.stateHeld }) h
    s.solver.steerF c
  unfold State.handResults
  dsimp only
  generalize State.handOver s.solver.steerF c _ = t at handed
  obtain ⟨r, lastC, lastA, ps, adopt, completed⟩ := rosterComplete_shape t verdicts
  obtain ⟨table, learned⟩ := tempHandOver_shape (t.rosterComplete verdicts) (t.rosterComplete verdicts).solver.steerF c
    ((t.rosterComplete verdicts).cfg.slewLimit (t.rosterComplete verdicts).solver.timing)
  rw [learned, completed]
  exact handed

theorem solvePoint_correctionsHold : s.solvePoint.ts.CorrectionsHold := by
  unfold State.solvePoint State.solve
  dsimp only
  refine handResults_correctionsHold ?_ _ _
  rw [updateBound_ts]
  refine steer_correctionsHold ?_ _ _
  simpa using closeInterval_correctionsHold h

/-! The boundary (R4, R5) -/

theorem boundaryProper_correctionsHold (step : Option Int) (forward : Option Nat) (discarded : Bool) :
    (s.boundaryProper step forward discarded).ts.CorrectionsHold := by
  rw [boundaryProper_ts]
  exact openEpoch_correctionsHold h forward _

theorem decideStep_correctionsHold : s.decideStep.ts.CorrectionsHold := by
  unfold State.decideStep
  split
  · exact boundaryProper_correctionsHold h _ _ _
  · split
    · exact boundaryProper_correctionsHold (by exact h) _ _ _
    · split
      · exact boundaryProper_correctionsHold (by exact h) _ _ _
      · exact h

end HandOvers

/-! ## The commands -/

/-- The end of a step moves no correction (R189). -/
theorem settle_inRange {u : State} (hu : NextHolds CorrectionsInRange (.next u)) :
    NextHolds CorrectionsInRange (.next u.settle) :=
  nextHolds_next (by rw [correctionsInRange_iff, settle_ts]; exact hu u rfl)

section Commands

variable {s : State} (h : s.ts.CorrectionsHold)
include h

theorem execEndOfEpoch_inRange : NextHolds CorrectionsInRange (execEndOfEpoch s) := by
  unfold execEndOfEpoch
  split
  · refine nextHolds_next ?_
    rw [correctionsInRange_iff, settle_ts]; exact decideStep_correctionsHold h
  · exact nextHolds_next h

theorem execReplayEnd_inRange : NextHolds CorrectionsInRange (execReplayEnd s) := by
  unfold execReplayEnd
  split
  · refine nextHolds_next ?_
    rw [correctionsInRange_iff, settle_ts]; exact boundaryProper_correctionsHold (by exact h) _ _ _
  · exact nextHolds_next h

/-- A command whose answer stands at `s`, or at `s` once time has run on, in its timescale unit. -/
theorem inRange_of_ts {t : State} {d : Nat} (e : t.ts = (s.advance d).ts) : NextHolds CorrectionsInRange (.next t) :=
  nextHolds_next (by rw [correctionsInRange_iff, e]; simpa using h)

theorem inRange_of_same {t : State} (e : t.ts = s.ts) : NextHolds CorrectionsInRange (.next t) :=
  nextHolds_next (by rw [correctionsInRange_iff, e]; exact h)

/-- A command at the expiry of a timer. -/
theorem atExpiry_inRange {f : State → State} (r : Option Nat)
    (hf : ∀ u : State, u.ts.CorrectionsHold → (f u).ts.CorrectionsHold) :
    NextHolds CorrectionsInRange (.next (s.atExpiry r f)) :=
  nextHolds_next <| atExpiry_of (P := CorrectionsInRange) r h (fun p => hf _ (by exact h))

/-- A command at a fixed point. -/
theorem atPoint_inRange {f : State → State} (p : PhasePoint)
    (hf : ∀ u : State, u.ts.CorrectionsHold → (f u).ts.CorrectionsHold) :
    NextHolds CorrectionsInRange (.next (s.atPoint p f)) :=
  nextHolds_next <| atPoint_of (P := CorrectionsInRange) p h (hf _ (by exact h))

/-- A command at the rise of CSN. -/
theorem atRise_inRange {f : State → State} (d : Nat)
    (hf : ∀ u : State, u.ts.CorrectionsHold → (f u).ts.CorrectionsHold) :
    NextHolds CorrectionsInRange (.next (s.atRise d f)) :=
  nextHolds_next <| atRise_of (P := CorrectionsInRange) d ((advance_correctionsHold s d).2 h)
    (hf _ ((advance_correctionsHold s d).2 h))

/-- F, c, the carry and the epoch's length stay in range at every command. -/
theorem exec_inRange (i : Instr) : NextHolds CorrectionsInRange (exec i s) := by
  have same {f : State → State} (hf : ∀ u, (f u).ts = u.ts) (u : State) (hu : u.ts.CorrectionsHold) :
      (f u).ts.CorrectionsHold := by rwa [hf]
  match i with
  | .powerOnReset => exact nextHolds_next reset_correctionsHold
  | .resetPin => exact nextHolds_next reset_correctionsHold
  | .resetRelease straps =>
    show NextHolds CorrectionsInRange (execResetRelease straps s)
    unfold execResetRelease; split <;> exact nextHolds_next h
  | .endOfEpoch => exact execEndOfEpoch_inRange h
  | .replayEnd => exact execReplayEnd_inRange h
  | .slotTime k => exact atPoint_inRange h _ (same fun u => slotTime_ts u k)
  | .markRelease => exact atExpiry_inRange h _ fun _ hu => by exact hu
  | .heldLowTest => exact atExpiry_inRange h _ fun _ hu => by exact hu
  | .endOfMarkRegion => exact settle_inRange (atPoint_inRange h _ (same fun u => (endOfMark_keeps u).1))
  | .temperatureSample die => exact settle_inRange (atPoint_inRange h _ (same fun u => takeSample_ts u die))
  | .talkWindowOpening =>
    exact atPoint_inRange h _ (same fun u => by split <;> simp)
  | .talkWindowClosing => exact settle_inRange (atPoint_inRange h _ (same closeTalk_ts))
  | .solvePoint =>
    refine settle_inRange (atPoint_inRange h _ fun u hu => ?_)
    split
    · exact solvePoint_correctionsHold hu
    · exact hu
  | .refinTransition dt rising =>
    refine settle_inRange (nextHolds_next ?_)
    rw [correctionsInRange_iff]
    dsimp only
    split
    · exact refinTaken_correctionsHold (by simpa using h) _
    · simpa using h
  | .refinEdgeAccepted => exact settle_inRange (atExpiry_inRange h _ fun _ hu => candidateAccepted_correctionsHold hu)
  | .blankingEnd => exact atExpiry_inRange h _ fun _ hu => by exact hu
  | .refvalidDeassert dt =>
    exact nextHolds_next (by
      rw [correctionsInRange_iff, settle_ts]; exact refvalidPinBecomes_correctionsHold h dt false)
  | .refvalidAssert dt =>
    exact nextHolds_next (by rw [correctionsInRange_iff, settle_ts]; exact refvalidPinBecomes_correctionsHold h dt true)
  | .markFall dt =>
    show NextHolds CorrectionsInRange (execMarkFall dt s)
    unfold execMarkFall
    dsimp only
    split <;> exact inRange_of_ts (d := dt) h (by simp)
  | .markEdgeAccept => exact settle_inRange (atExpiry_inRange h _ (same acceptHeld_ts))
  | .markRise dt =>
    show NextHolds CorrectionsInRange (execMarkRise dt s)
    unfold execMarkRise
    dsimp only
    repeat' split
    all_goals exact inRange_of_ts (d := dt) h (by simp)
  | .markStuck => exact settle_inRange (atExpiry_inRange h _ (same markStuck_ts))
  | .markRecovery => exact atExpiry_inRange h _ fun _ hu => by exact hu
  | .wordFall dt =>
    show NextHolds CorrectionsInRange (execWordFall dt s)
    unfold execWordFall
    dsimp only
    split <;> exact inRange_of_ts (d := dt) h (by simp)
  | .wordRise dt =>
    show NextHolds CorrectionsInRange (execWordRise dt s)
    unfold execWordRise
    dsimp only
    repeat' split
    all_goals exact inRange_of_ts (d := dt) h (by simp)
  | .lineIdle => exact atExpiry_inRange h _ (same lineIdle_ts)
  | .arbitrationLoss =>
    show NextHolds CorrectionsInRange (execArbitrationLoss s)
    unfold execArbitrationLoss; split <;> exact nextHolds_next h
  | .payloadCollision =>
    show NextHolds CorrectionsInRange (execPayloadCollision s)
    unfold execPayloadCollision; split <;> exact inRange_of_same h (by simp)
  | .frameSent =>
    show NextHolds CorrectionsInRange (execFrameSent s)
    unfold execFrameSent; split <;> exact nextHolds_next h
  | .frameError =>
    show NextHolds CorrectionsInRange (execFrameError s)
    unfold execFrameError; split <;> exact inRange_of_same h (by simp)
  | .censusReceived =>
    show NextHolds CorrectionsInRange (execCensusReceived s)
    unfold execCensusReceived
    split
    · exact nextHolds_next (by
        rw [correctionsInRange_iff, settle_ts]; exact censusArrives_correctionsHold (by exact h) _)
    · exact nextHolds_next h
  | .joinReceived =>
    show NextHolds CorrectionsInRange (execJoinReceived s)
    unfold execJoinReceived
    split
    · exact nextHolds_next (by rw [correctionsInRange_iff, settle_ts]; exact joinArrives_correctionsHold (by exact h) _)
    · exact nextHolds_next h
  | .leaveReceived =>
    show NextHolds CorrectionsInRange (execLeaveReceived s)
    unfold execLeaveReceived; split <;> exact inRange_of_same h (by simp)
  | .wordStuck => exact settle_inRange (atExpiry_inRange h _ (same wordStuck_ts))
  | .wordRecovery => exact atExpiry_inRange h _ (same wordRecovered_ts)
  | .supplySenseCrossing dt millivolts =>
    show NextHolds CorrectionsInRange (execSupplySenseCrossing dt millivolts s)
    unfold execSupplySenseCrossing
    dsimp only
    split <;> exact inRange_of_ts (d := dt) h rfl
  | .supplyLow => exact settle_inRange (atExpiry_inRange h _ (same supplyFell_ts))
  | .supplyRestored => exact settle_inRange (atExpiry_inRange h _ (same supplyRose_ts))
  | .generatorStart g => exact atExpiry_inRange h _ (same fun u => startPulse_ts u g)
  | .pulseEnd g => exact atExpiry_inRange h _ fun _ hu => by exact hu
  | .inhibitPinChange dt asserted =>
    refine inRange_of_ts (d := dt) h ?_
    dsimp only
    split <;> simp
  | .filteredLevelChange =>
    exact settle_inRange (atExpiry_inRange h _ (same fun u => filteredBecomes_ts u u.pins.inhibit))
  | .transactionStart dt =>
    show NextHolds CorrectionsInRange (execTransactionStart dt s)
    unfold execTransactionStart
    dsimp only
    split <;> exact inRange_of_ts (d := dt) h rfl
  | .shortTransaction dt bits => exact atRise_inRange h dt fun _ hu => by exact hu
  | .readResponse dt count =>
    show NextHolds CorrectionsInRange (execReadResponse dt count s)
    unfold execReadResponse
    split
    · exact atRise_inRange h dt fun _ hu => by exact hu
    · exact atRise_inRange h dt fun _ hu => by exact hu
  | .setup dt payload => exact atRise_inRange h dt (same fun u => setup_ts u payload)
  | .loadTablePage dt payload => exact atRise_inRange h dt (same fun u => loadPage_ts u payload)
  | .begin dt => exact settle_inRange (atRise_inRange h dt (same takeBegin_ts))
  | .status dt => exact atRise_inRange h dt fun _ hu => by exact hu
  | .roster dt => exact atRise_inRange h dt fun _ hu => by exact hu
  | .tablePage dt payload => exact atRise_inRange h dt (same fun u => readPage_ts u payload)
  | .events dt payload => exact atRise_inRange h dt (same fun u => takeEvents_ts u payload)
  | .withdraw dt => exact settle_inRange (atRise_inRange h dt (same withdraw_ts))
  | .resume dt => exact settle_inRange (atRise_inRange h dt (same resume_ts))
  | .trimGroup dt payload => exact atRise_inRange h dt fun _ hu => trim_correctionsHold hu payload
  | .clearInhibit dt => exact settle_inRange (atRise_inRange h dt (same clearInhibit_ts))
  | .unknownCommand dt code =>
    show NextHolds CorrectionsInRange (execUnknownCommand dt code s)
    unfold execUnknownCommand
    split
    · exact nextHolds_next h
    · exact atRise_inRange h dt fun _ hu => by exact hu
  | .responseCompletion dt =>
    show NextHolds CorrectionsInRange (execResponseCompletion dt s)
    unfold execResponseCompletion
    dsimp only
    split <;> exact inRange_of_ts (d := dt) h rfl
  | .wordSamplePoint => exact atExpiry_inRange h _ fun _ hu => by exact hu
  | .wordBitStart => exact atExpiry_inRange h _ (same bitEnds_ts)
  | .oscinStop dt => exact inRange_of_ts (d := dt) h rfl
  | .oscinReturn =>
    refine nextHolds_next ?_
    rw [correctionsInRange_iff, settle_ts]
    exact referenceTaken_correctionsHold (inhibitTaken_correctionsHold (by exact h) _)

end Commands

/-- Settles O59: `exec_inRange`, command by command. -/
theorem stepKeepsTheCorrectionsInRange : Obligations.StepKeepsTheCorrectionsInRange := by
  unfold Obligations.StepKeepsTheCorrectionsInRange
  intro s t h e
  rw [correctionsInRange_iff] at h ⊢
  unfold step at e
  split at e
  · rwa [← Host.Outcome.next.inj e]
  · exact exec_inRange (by exact h) _ _ e

end Sys2Proof.Machine

/-! # The stopped clock (R1, R19, R171) -/

namespace Sys2Proof.Machine

open Sys2Proof

section Stopped

variable {s : State} (h : s.running = false)
include h

theorem dueWithin_stopped (r : Nat) : s.dueWithin r = false := by
  simp [State.dueWithin, h]

/-- No timer expires while the clock stands still (R9). -/
theorem atExpiry_stopped (r : Option Nat) (f : State → State) : s.atExpiry r f = s := by
  cases r with
  | none => rfl
  | some n => simp [State.atExpiry, dueWithin_stopped h]

/-- No fixed point is raised while the clock stands still (R6). -/
theorem atPoint_stopped (p : PhasePoint) (f : State → State) : s.atPoint p f = s := by
  simp [State.atPoint, State.pointDue, h]

theorem execEndOfEpoch_stopped : execEndOfEpoch s = .next s := by
  simp [execEndOfEpoch, h]

theorem execReplayEnd_stopped : execReplayEnd s = .next s := by
  simp [execReplayEnd, h]

end Stopped

theorem running_of_oscin_stopped {s : State} (h : s.pins.oscRunning = false) : s.running = false := by
  simp [State.running, h]

/-! ## REFIN, REFVALID and INHIBIT at their pins (R19, R171) -/

theorem execRefinTransition_eq (s : State) (dt : Nat) (rising : Bool) :
    execRefinTransition dt rising s = .next (if s.pins.oscRunning
      then { s.advance dt with pins.refinPin := if rising then .high else .low }.refinTaken
        (if rising then .high else .low)
      else { s.advance dt with pins.refinPin := if rising then .high else .low }).settle := by
  simp [execRefinTransition]

theorem refvalidPinBecomes_eq (s : State) (dt : Nat) (a : Bool) :
    s.refvalidPinBecomes dt a = if s.pins.oscRunning
      then { s.advance dt with pins.refvalidPin := a }.refvalidTaken a
      else { s.advance dt with pins.refvalidPin := a } := by
  simp [State.refvalidPinBecomes]

theorem execInhibitPinChange_eq (s : State) (dt : Nat) (a : Bool) :
    execInhibitPinChange dt a s = .next (if s.pins.oscRunning
      then { s.advance dt with pins.inhibitPin := a }.inhibitTaken a
      else { s.advance dt with pins.inhibitPin := a }) := by
  simp [execInhibitPinChange]

/-! ## The return of the clock -/

/-- INHIBIT taken at a level that it did not have: from BEGIN the filter timer starts or stops with it (R171). -/
theorem inhibitTaken_other (s : State) (a : Bool) (h : s.pins.inhibit ≠ a) :
    s.inhibitTaken a = { s with
      pins.inhibit := a
      gen.filterTimer := if s.begun = false then s.gen.filterTimer
        else if a = s.gen.filtered then none else some 0 } := by
  unfold State.inhibitTaken
  rw [if_neg h]
  dsimp only
  split
  next hb =>
    have hb' : s.begun = true := hb
    simp [hb']
  next hb =>
    have hb' : s.begun = false := Bool.eq_false_iff.2 hb
    simp [hb']

/-- With no more than one of REFIN and REFVALID changed there is nothing to choose. -/
theorem referenceTaken_one (s : State) (h : s.pins.refin = s.pins.refinPin ∨ s.pins.refvalid = s.pins.refvalidPin) :
    s.referenceTaken = (s.refinTaken s.pins.refinPin).refvalidTaken s.pins.refvalidPin := by
  have hb : (decide (s.pins.refin ≠ s.pins.refinPin) && decide (s.pins.refvalid ≠ s.pins.refvalidPin)) = false := by
    rcases h with h | h <;> simp [h]
  simp only [State.referenceTaken, hb]
  rfl

theorem referenceTaken_none (s : State) (hr : s.pins.refin = s.pins.refinPin)
    (hv : s.pins.refvalid = s.pins.refvalidPin) : s.referenceTaken = s := by
  rw [referenceTaken_one s (.inl hr), refinTaken_same s _ hr, refvalidTaken_same s _ hv]

theorem referenceTaken_refin (s : State) (hv : s.pins.refvalid = s.pins.refvalidPin) :
    s.referenceTaken = s.refinTaken s.pins.refinPin := by
  rw [referenceTaken_one s (.inr hv)]
  exact refvalidTaken_same _ _ (by rw [refinTaken_pins]; exact hv)

theorem referenceTaken_refvalid (s : State) (hr : s.pins.refin = s.pins.refinPin) :
    s.referenceTaken = s.refvalidTaken s.pins.refvalidPin := by
  rw [referenceTaken_one s (.inl hr), refinTaken_same s _ hr]

/-- With both changed either comes first, and one free value is used (R36, log entry 4). -/
theorem referenceTaken_both (s : State) (hr : s.pins.refin ≠ s.pins.refinPin)
    (hv : s.pins.refvalid ≠ s.pins.refvalidPin) :
    let w : State := { s with freeCount := s.freeCount + 1 }
    s.referenceTaken = (w.refinTaken s.pins.refinPin).refvalidTaken s.pins.refvalidPin ∨
      s.referenceTaken = (w.refvalidTaken s.pins.refvalidPin).refinTaken s.pins.refinPin := by
  have hb : (decide (s.pins.refin ≠ s.pins.refinPin) && decide (s.pins.refvalid ≠ s.pins.refvalidPin)) = true := by
    simp [hr, hv]
  have hc : (s.choose false [true]).2 = { s with freeCount := s.freeCount + 1 } := rfl
  intro w
  unfold State.referenceTaken
  simp only [hb, if_true, hc]
  cases (s.choose false [true]).1
  · exact .inl rfl
  · exact .inr rfl

theorem execOscinReturn_eq (s : State) :
    execOscinReturn s =
      .next ({ s with pins.oscRunning := true }.inhibitTaken s.pins.inhibitPin).referenceTaken.settle := rfl

/-- Where INHIBIT has not changed, the return takes REFIN and REFVALID alone. -/
theorem execOscinReturn_inhibit_same (s : State) (h : s.pins.inhibit = s.pins.inhibitPin) :
    execOscinReturn s = .next { s with pins.oscRunning := true }.referenceTaken.settle := by
  rw [execOscinReturn_eq, inhibitTaken_same { s with pins.oscRunning := true } _ h]

/-! ## The statement -/

/-- The rows of the part's own do nothing while OSCIN stands still (R1). -/
theorem exec_own_row_stopped {s : State} (hs : s.pins.oscRunning = false) (hb : s.port.outbox = []) :
    (∀ c ∈ ([.endOfEpoch, .replayEnd, .markRelease, .heldLowTest, .endOfMarkRegion, .talkWindowOpening,
        .talkWindowClosing, .solvePoint, .refinEdgeAccepted, .blankingEnd, .markEdgeAccept, .markStuck,
        .markRecovery, .lineIdle, .wordStuck, .wordRecovery, .supplyLow, .supplyRestored,
        .filteredLevelChange, .wordSamplePoint, .wordBitStart] : List Instr), exec c s = .next s) ∧
    (∀ k, exec (.slotTime k) s = .next s) ∧ (∀ x, exec (.temperatureSample x) s = .next s) ∧
    (∀ g, exec (.generatorStart g) s = .next s) ∧ (∀ g, exec (.pulseEnd g) s = .next s) := by
  have hr := running_of_oscin_stopped hs
  have expiry (r f) : s.atExpiry r f = s := atExpiry_stopped hr r f
  have point (p f) : s.atPoint p f = s := atPoint_stopped hr p f
  have settled := settle_nil s hb
  refine ⟨?_, fun k => ?_, fun x => ?_, fun g => ?_, fun g => ?_⟩
  · simp [exec, execEndOfEpoch_stopped hr, execReplayEnd_stopped hr, execMarkRelease, execHeldLowTest,
      execEndOfMarkRegion, execTalkWindowOpening, execTalkWindowClosing, execSolvePoint, execRefinEdgeAccepted,
      execBlankingEnd, execMarkEdgeAccept, execMarkStuck, execMarkRecovery, execLineIdle, execWordStuck,
      execWordRecovery, execSupplyLow, execSupplyRestored, execFilteredLevelChange, execWordSamplePoint,
      execWordBitStart, expiry, point, settled]
  · simp [exec, execSlotTime, point]
  · simp [exec, execTemperatureSample, point, settled]
  · simp [exec, execGeneratorStart, expiry]
  · simp [exec, execPulseEnd, expiry]

/-- While OSCIN stands still the three synchronised inputs move at their pins alone (R19, R171). -/
theorem exec_pin_row_stopped {s : State} (hs : s.pins.oscRunning = false) (hb : s.port.outbox = []) :
    (∀ dt rising, exec (.refinTransition dt rising) s =
      .next { s with pins.refinPin := if rising then .high else .low }) ∧
    (∀ dt, exec (.refvalidAssert dt) s = .next { s with pins.refvalidPin := true } ∧
      exec (.refvalidDeassert dt) s = .next { s with pins.refvalidPin := false }) ∧
    (∀ dt level, exec (.inhibitPinChange dt level) s = .next { s with pins.inhibitPin := level }) := by
  have still (dt) : s.advance dt = s := advance_stopped s dt (running_of_oscin_stopped hs)
  have settled (p : Pins) : State.settle { s with pins := p } = { s with pins := p } := settle_nil _ hb
  refine ⟨fun dt rising => ?_, fun dt => ⟨?_, ?_⟩, fun dt level => ?_⟩
  · simp [exec, execRefinTransition_eq, still, hs, settled]
  · simp [exec, execRefvalidAssert, refvalidPinBecomes_eq, still, hs, settled]
  · simp [exec, execRefvalidDeassert, refvalidPinBecomes_eq, still, hs, settled]
  · simp [exec, execInhibitPinChange_eq, still, hs]

/-- Settles O4: a stopped clock makes every timer, point and boundary a row that is not due, and the return of OSCIN
takes the levels of the three synchronised inputs, whose order `referenceTaken_both` leaves free. -/
theorem stoppedClockHoldsTimeStill : Obligations.StoppedClockHoldsTimeStill := by
  unfold Obligations.StoppedClockHoldsTimeStill
  refine ⟨fun s dt => rfl, fun s hs hb => ?_, fun s hb => ?_, fun s dt rising hs => ?_⟩
  · obtain ⟨own, slots, samples, starts, ends⟩ := exec_own_row_stopped hs hb
    obtain ⟨refin, refvalid, inhibit⟩ := exec_pin_row_stopped hs hb
    exact ⟨fun dt => advance_stopped s dt (running_of_oscin_stopped hs), own, slots, samples, starts, ends, refin,
      refvalid, inhibit⟩
  · intro u
    have settled : u.settle = u := settle_nil u hb
    refine ⟨fun hi => ?_, fun hi hr hv => ?_⟩
    · have returned : exec .oscinReturn s = .next u.referenceTaken.settle := execOscinReturn_inhibit_same s hi
      rw [returned]
      refine ⟨fun hr hv => ?_, fun _ hv => ?_, fun hr _ => ?_, fun hr hv => ?_⟩
      · rw [referenceTaken_none u hr hv, settled]
      · rw [referenceTaken_refin u hv]
      · rw [referenceTaken_refvalid u hr]
      · intro w
        obtain h | h := referenceTaken_both u hr hv
        · exact .inl (by rw [h])
        · exact .inr (by rw [h])
    · have returned : exec .oscinReturn s = .next (u.inhibitTaken s.pins.inhibitPin).referenceTaken.settle := rfl
      rw [returned, inhibitTaken_other u _ hi, referenceTaken_none, settle_nil]
      exacts [rfl, hb, hr, hv]
  · intro level
    refine ⟨?_, ?_, ?_⟩
    · simp [exec, execRefinTransition_eq, hs, level]
    · simp [exec, execRefvalidAssert, refvalidPinBecomes_eq, hs]
    · simp [exec, execRefvalidDeassert, refvalidPinBecomes_eq, hs]

end Sys2Proof.Machine

/-! # The end of an epoch and of a replay (R2 to R5, R10 to R16) -/

namespace Sys2Proof.Machine

open Sys2Proof

/-! ## What the rows of the boundary do -/

/-- END_OF_EPOCH where it is due: time runs to the end, the step is decided, the events are stored (R4). -/
theorem execEndOfEpoch_due {s : State} (hr : s.running = true) (hp : s.ts.replay = false) :
    exec .endOfEpoch s = .next s.runToEnd.decideStep.settle := by
  simp [exec, execEndOfEpoch, hr, hp]

/-- REPLAY_END where it is due: the boundary proper follows, the step having been applied (R13). -/
theorem execReplayEnd_due {s : State} (hr : s.running = true) (hp : s.ts.replay = true) :
    exec .replayEnd s =
      .next (s.runToEnd.boundaryProper (some ((s.ts.base : Int) - 16000000000)) none false).settle := by
  simp [exec, execReplayEnd, hr, hp]

/-! The decision on a pending step (R4) -/

theorem decideStep_none {s : State} (h : s.ts.pendStep = none) :
    s.decideStep = s.boundaryProper none none false := by
  simp [State.decideStep, h]

theorem decideStep_discarded {s : State} {x : Int} (h : s.ts.pendStep = some x) (hv : s.solver.timeValid = true) :
    s.decideStep = { s with ts.pendStep := none }.boundaryProper none none true := by
  simp [State.decideStep, h, hv]

theorem decideStep_forward {s : State} {x : Int} (h : s.ts.pendStep = some x) (hv : s.solver.timeValid = false)
    (hx : 0 ≤ x) :
    s.decideStep = { s with ts.pendStep := none }.boundaryProper (some x) (some x.toNat) false := by
  simp [State.decideStep, h, hv, hx]

theorem decideStep_backward {s : State} {x : Int} (h : s.ts.pendStep = some x) (hv : s.solver.timeValid = false)
    (hx : x < 0) : s.decideStep = s.startReplay x := by
  simp [State.decideStep, h, hv, Int.not_le.2 hx]

/-! ## The opening of an epoch (R2, R3, R5, R12) -/

theorem mem_allPoints (p : PhasePoint) : p ∈ allPoints := by
  cases p with
  | slot k => revert k; decide
  | endOfMark => decide
  | temperature => decide
  | talkOpen => decide
  | talkClose => decide
  | solve => decide

/-- The points below a forward step are passed, and no other point is raised (R12). -/
theorem mem_openEpoch_raised (t : Timescale) (forward : Option Nat) (began : Bool) (p : PhasePoint) :
    p ∈ (t.openEpoch forward began).raised ↔ p.phase < forward.getD 0 := by
  simp [Timescale.openEpoch, mem_allPoints]

theorem openEpoch_raised_none (t : Timescale) (began : Bool) : (t.openEpoch none began).raised = [] := by
  refine List.eq_nil_iff_forall_not_mem.2 fun p hp => ?_
  simpa using (mem_openEpoch_raised t none began p).1 hp

/-- What no block's work at a boundary proper touches (R5). -/
theorem boundaryProper_keeps (s : State) (step : Option Int) (forward : Option Nat) (discarded : Bool) :
    let t := s.boundaryProper step forward discarded
    t.temp = s.temp ∧ t.pending = s.pending ∧ t.freeCount = s.freeCount ∧
    t.solver.timing = s.solver.timing ∧ t.solver.steerF = s.solver.steerF ∧ t.solver.bound = s.solver.bound ∧
    t.solver.timeValid = s.solver.timeValid ∧ t.ref.state = s.ref.state ∧ t.ref.ring = s.ref.ring ∧
    t.ref.record = s.ref.record ∧ t.port.record = s.port.record ∧ t.port.slot = s.port.slot ∧
    t.pins.refin = s.pins.refin ∧ t.mark.strayCount = s.mark.strayCount ∧ t.mem.nodeId = s.mem.nodeId := by
  intro t
  have e : t = _ := boundaryProper_eq s step forward discarded
  rw [e]
  and_intros <;> simp [State.opened]

/-! ## The statements -/

/-- Settles O5: `boundaryProper_ts` gives the timescale unit, `boundaryProper_keeps` the rest. -/
theorem endOfEpochOpensTheNextEpoch : Obligations.EndOfEpochOpensTheNextEpoch := by
  unfold Obligations.EndOfEpochOpensTheNextEpoch
  intro s hr hp hn
  refine ⟨_, execEndOfEpoch_due hr hp, ?_⟩
  have decided : s.runToEnd.decideStep = s.runToEnd.boundaryProper none none false := decideStep_none hn
  obtain ⟨htemp, -, -, htiming, hsteer, hbound, hvalid, href, hring, hrecord, hcfg, hslot, hrefin, hstray, hid⟩ :=
    boundaryProper_keeps s.runToEnd none none false
  rw [decided]
  simp only [settle_ts, settle_temp, settle_solver, settle_ref, settle_port_record, settle_port_slot, settle_pins,
    settle_mark, settle_mem]
  refine ⟨?_, htemp, htiming, hsteer, hbound, hvalid, href, hring, hrecord, hcfg, hslot, hrefin, hstray, hid⟩
  have passed : (s.ts.openEpoch none false).raised = [] := openEpoch_raised_none s.ts false
  calc (s.runToEnd.boundaryProper none none false).ts
      = s.ts.openEpoch none false := boundaryProper_ts s.runToEnd none none false
    _ = { s.ts.openEpoch none false with raised := [], pendStep := none } := by
        rw [← passed, ← hn]; rfl
    _ = _ := rfl

/-- A folded phase is the representative within half an epoch (00_scope.md, Conventions). -/
theorem fold_spec (x : Int) :
    -8000000000 < fold x ∧ fold x ≤ 8000000000 ∧ (fold x - x) % 16000000000 = 0 := by
  unfold fold
  dsimp only
  split <;> omega

/-- A pending step discarded, the epoch opens at phase 0 as without one (R11). -/
theorem execEndOfEpoch_discards {s : State} {x : Int} (hr : s.running = true) (hp : s.ts.replay = false)
    (hx : s.ts.pendStep = some x) (hv : s.solver.timeValid = true) :
    ∃ t, exec .endOfEpoch s = .next t ∧ t.ts = { s.ts with pendStep := none }.openEpoch none false := by
  refine ⟨_, execEndOfEpoch_due hr hp, ?_⟩
  have decided := decideStep_discarded (s := s.runToEnd) hx hv
  rw [settle_ts, decided, boundaryProper_ts]
  rfl

/-- A forward step is applied within the boundary (R12). -/
theorem execEndOfEpoch_steps {s : State} {x : Int} (hr : s.running = true) (hp : s.ts.replay = false)
    (hx : s.ts.pendStep = some x) (hv : s.solver.timeValid = false) (h0 : 0 ≤ x) :
    ∃ t, exec .endOfEpoch s = .next t ∧ t.ts = { s.ts with pendStep := none }.openEpoch (some x.toNat) true := by
  refine ⟨_, execEndOfEpoch_due hr hp, ?_⟩
  have decided := decideStep_forward (s := s.runToEnd) hx hv h0
  rw [settle_ts, decided, boundaryProper_ts]
  rfl

/-- A backward step starts a replay (R13). -/
theorem execEndOfEpoch_replays {s : State} {x : Int} (hr : s.running = true) (hp : s.ts.replay = false)
    (hx : s.ts.pendStep = some x) (hv : s.solver.timeValid = false) (h0 : x < 0) :
    exec .endOfEpoch s = .next (s.runToEnd.startReplay x).settle := by
  have decided := decideStep_backward (s := s.runToEnd) hx hv h0
  rw [execEndOfEpoch_due hr hp, decided]

/-- Settles O6: the three answers of `decideStep`, and the boundary that ends a replay. -/
theorem stepsAreRequestedAndDecided : Obligations.StepsAreRequestedAndDecided := by
  unfold Obligations.StepsAreRequestedAndDecided
  refine ⟨⟨?_, ?_, fold_spec, by decide⟩, ⟨?_, ?_⟩⟩
  · intro s x hv; simp [State.requestStep, hv]
  · intro s x hv; simp [State.requestStep, hv]
  · intro s x hr hp hx
    refine ⟨fun hv => ?_, fun hv h0 => ?_, fun hv h0 => ?_⟩
    · obtain ⟨t, ht, hts⟩ := execEndOfEpoch_discards hr hp hx hv
      refine ⟨t, ht, ?_⟩
      rw [hts]
      exact ⟨rfl, rfl, rfl, rfl, rfl, rfl, rfl⟩
    · obtain ⟨t, ht, hts⟩ := execEndOfEpoch_steps hr hp hx hv h0
      refine ⟨t, ht, ?_⟩
      rw [hts]
      exact ⟨rfl, rfl, rfl, rfl, rfl, rfl, rfl, mem_openEpoch_raised _ _ _⟩
    · refine ⟨_, execEndOfEpoch_replays hr hp hx hv h0, ?_⟩
      simp only [settle_ts, settle_mark, settle_mem, settle_temp]
      exact ⟨rfl, rfl, rfl, rfl, rfl, rfl, rfl, rfl, rfl, rfl, rfl, rfl⟩
  · intro s hr hp
    refine ⟨_, execReplayEnd_due hr hp, ?_⟩
    obtain ⟨htemp, -, -, htiming, -, -, -, href, hring, -⟩ :=
      boundaryProper_keeps s.runToEnd (some ((s.ts.base : Int) - 16000000000)) none false
    simp only [settle_ts, settle_temp, settle_ref, settle_solver, boundaryProper_ts]
    exact ⟨rfl, rfl, rfl, rfl, rfl, rfl, rfl, rfl, rfl, htemp, href, hring, htiming⟩

end Sys2Proof.Machine

/-! # The membership unit at a boundary proper (R82, R84, R86, R90 to R92) -/

namespace Sys2Proof.Machine

open Sys2Proof

/-! ## Changes of state -/

/-- The posting of MEMBERSHIP_CHANGE at this instant (R82). -/
def State.changePosting (new : MembershipState) (s : State) : Posting :=
  ⟨.membership, s.ts.epoch, .membershipChange, none, some (signed32 new.code), none⟩

/-- A change to JOINING or MEMBER changes the state and posts the change: no other block has work at it (R39, R68,
R82). -/
theorem changeState_active (s : State) (new : MembershipState) (h : new.active = true) :
    s.changeState new = { s with
      mem.state := new
      port.outbox := s.port.outbox ++ [s.changePosting new] } := by
  cases new <;> simp_all [MembershipState.active, State.changeState, MembershipState.clearsRoster,
    MarkUnit.stateChange, FrameUnit.stateChange, MembershipState.mode, State.changePosting, State.postInt, State.post,
    State.postAfter]

/-- Whatever the change, the membership unit itself changes its state alone, and the change is posted (R82). -/
theorem changeState_mem (s : State) (new : MembershipState) :
    (s.changeState new).mem = { s.mem with state := new } := by
  unfold State.changeState; dsimp only; split <;> rfl

theorem changeState_outbox (s : State) (new : MembershipState) :
    (s.changeState new).port.outbox = s.port.outbox ++ [s.changePosting new] := by
  unfold State.changeState; dsimp only; split <;> rfl

/-- A change to a state that clears the roster clears it (R99). -/
theorem changeState_entries (s : State) (new : MembershipState) (h : new.clearsRoster = true) :
    (s.changeState new).roster.entries = [] := by
  simp [State.changeState, h, State.clearRoster]

theorem enterListen_mem (s : State) :
    s.enterListen.mem = { s.mem.listenAfresh s.mark.fault with state := .listen } := by
  rw [State.enterListen, changeState_mem]

theorem enterListen_outbox (s : State) :
    s.enterListen.port.outbox = s.port.outbox ++ [s.changePosting .listen] := by
  rw [State.enterListen, changeState_outbox]; rfl

theorem enterListen_entries (s : State) : s.enterListen.roster.entries = [] :=
  changeState_entries _ _ rfl

/-- A change out of WINDOWED closes the capture set (R39). -/
theorem stateChange_capture (m : MarkUnit) (old new : MembershipState) (h : old.mode = .windowed)
    (hn : new.mode ≠ .windowed) : (m.stateChange old new).capture = none := by
  simp [MarkUnit.stateChange, h, hn, MarkUnit.leaveWindowed]

theorem enterListen_capture (s : State) (h : s.mem.state.mode = .windowed) : s.enterListen.mark.capture = none :=
  stateChange_capture s.mark s.mem.state .listen h (by decide)

/-- Entry to JOINING starts its counters and its record afresh (R91). -/
theorem enterJoining_eq (s : State) :
    s.enterJoining = { s with
      mem := { s.mem with state := .joining, joinCounter := 0, joinQuiet := 0, joinSenders := [], joinHeard := false }
      port.outbox := s.port.outbox ++ [s.changePosting .joining] } :=
  changeState_active _ _ rfl

/-- Entry to CONFLICT leaves the membership unit as it was but for its state (R93). -/
theorem enterConflict_mem (s : State) (c : Cause) : (s.enterConflict c).mem = { s.mem with state := .conflict } := by
  simp [State.enterConflict, changeState_mem, State.postInt, State.post, State.postAfter]

theorem enterConflict_outbox (s : State) (c : Cause) :
    (s.enterConflict c).port.outbox = s.port.outbox ++
      [⟨.membership, s.ts.epoch, .conflict, none, some (signed32 c.code), none⟩, s.changePosting .conflict] := by
  simp [State.enterConflict, changeState_outbox, State.changePosting, State.postInt, State.post, State.postAfter]

/-! ## The judgement of an epoch (R84, R86, R91) -/

/-- The quiet count after the epoch just ended (R84). -/
def State.quietAfter (s : State) : Nat := if s.mem.heard then 0 else min 64 (s.mem.quietCount + 1)

/-- A node in LISTEN or APART after the epoch just ended, its state apart (R84, R86). -/
def State.listened (s : State) : State :=
  { s with mem := { s.mem with quietCount := s.quietAfter
                               heard := s.mark.fault
                               trainStart := false
                               history := if s.mem.trainStart then s.mem.history else []
                               newest := if s.mem.trainStart then s.mem.newest else none } }

theorem judgeListening_stays (s : State) (h : s.quietAfter < s.cfg.firstMember) : s.judgeListening = s.listened :=
  if_neg (Nat.not_le.2 h)

theorem judgeListening_first (s : State) (h : s.cfg.firstMember ≤ s.quietAfter) :
    s.judgeListening = { s.listened with
      mem.state := .member
      port.outbox := s.port.outbox ++ [s.changePosting .member] } :=
  (if_pos h).trans (changeState_active _ _ rfl)

/-- The quiet epochs of JOINING after the epoch just ended (R91). -/
def State.joinQuietAfter (s : State) : Nat := if s.mem.joinHeard then 0 else min 4 (s.mem.joinQuiet + 1)

/-- A JOINING node become MEMBER, its join record empty (R91). -/
def State.joined (quiet : Nat) (s : State) : State :=
  { s with mem := { s.mem with state := .member, joinSenders := [], joinHeard := false, joinQuiet := quiet }
           port.outbox := s.port.outbox ++ [s.changePosting .member] }

/-- A JOINING node that waits for one epoch more (R91). -/
def State.joinWaits (s : State) : State :=
  { s with mem := { s.mem with joinSenders := [], joinHeard := false, joinQuiet := s.joinQuietAfter
                               joinCounter := min 16 (s.mem.joinCounter + 1) } }

theorem judgeJoining_majority (s : State) (h : joinMajority s.mem.joinSenders = true) :
    s.judgeJoining = s.joined s.mem.joinQuiet := by
  simp only [State.judgeJoining, h, if_true]
  exact changeState_active _ _ rfl

theorem judgeJoining_quiet (s : State) (h : joinMajority s.mem.joinSenders = false) (hq : 4 ≤ s.joinQuietAfter) :
    s.judgeJoining = s.joined s.joinQuietAfter := by
  simp only [State.judgeJoining, h]
  exact (if_pos hq).trans (changeState_active _ _ rfl)

theorem judgeJoining_waits (s : State) (h : joinMajority s.mem.joinSenders = false) (hq : s.joinQuietAfter < 4)
    (hc : s.mem.joinCounter < 15) : s.judgeJoining = s.joinWaits := by
  have hc' : ¬ 16 ≤ min 16 (s.mem.joinCounter + 1) := by omega
  simp only [State.judgeJoining, h]
  exact (if_neg (Nat.not_le.2 hq)).trans (if_neg hc')

theorem judgeJoining_timeout (s : State) (h : joinMajority s.mem.joinSenders = false) (hq : s.joinQuietAfter < 4)
    (hc : 15 ≤ s.mem.joinCounter) :
    s.judgeJoining = (s.joinWaits.post .membership .joinTimeout none none).enterListen := by
  have hc' : 16 ≤ min 16 (s.mem.joinCounter + 1) := by omega
  simp only [State.judgeJoining, h]
  exact (if_neg (Nat.not_le.2 hq)).trans (if_pos hc')

theorem joinMajority_iff (senders : List JoinNote) :
    joinMajority senders = true ↔
      1 ≤ senders.length ∧ senders.length ≤ 2 * (senders.filter (·.lists)).length := by
  simp [joinMajority]

/-! ## The boundary of the unit (R86, R90 to R92) -/

/-- The unit at a boundary proper before it judges the epoch: an adoption posted, the evidence of the epoch moved on,
the history emptied by an applied step (R86, R88, R92). -/
def State.evidenceMoved (ev : BoundaryEvent) (s : State) : State :=
  { s.memberAdopted ev with
    mem := { (s.memberAdopted ev).mem with
      evidenceLast := s.mem.evidenceThis
      evidenceThis := false
      history := if ev.step.isSome then [] else s.mem.history
      newest := if ev.step.isSome then none else s.mem.newest } }

/-- An adoption posted changes the flag that it was outstanding, and the outbox (R88). -/
theorem memberAdopted_shape (ev : BoundaryEvent) (s : State) : ∃ (out : Bool) (ps : List Posting),
    s.memberAdopted ev = { s with mem.adoptionOutstanding := out, port.outbox := s.port.outbox ++ ps } := by
  have same : s = { s with mem.adoptionOutstanding := s.mem.adoptionOutstanding
                           port.outbox := s.port.outbox ++ [] } := by simp
  unfold State.memberAdopted
  split
  · split
    · exact ⟨false, _, rfl⟩
    · exact ⟨_, _, same⟩
  · exact ⟨_, _, same⟩

/-- All that goes before the judgement. -/
theorem evidenceMoved_shape (ev : BoundaryEvent) (s : State) : ∃ (out : Bool) (ps : List Posting),
    s.evidenceMoved ev = { s with
      mem := { s.mem with
        adoptionOutstanding := out
        evidenceLast := s.mem.evidenceThis
        evidenceThis := false
        history := if ev.step.isSome then [] else s.mem.history
        newest := if ev.step.isSome then none else s.mem.newest }
      port.outbox := s.port.outbox ++ ps } := by
  obtain ⟨out, ps, h⟩ := memberAdopted_shape ev s
  exact ⟨out, ps, by rw [State.evidenceMoved, h]⟩

/-- The judgement of the epoch, state by state. -/
def State.memberJudged (s : State) : State :=
  match s.mem.state with
  | .listen | .apart => s.judgeListening
  | .aligning => if 2 ≤ s.mem.aligningCount then s.enterJoining else s
  | .joining => s.judgeJoining
  | .unconfigured | .member | .withdrawn | .conflict => s

theorem memberBoundary_eq (ev : BoundaryEvent) (s : State) :
    s.memberBoundary ev = (s.evidenceMoved ev).memberJudged := by
  have moved : { s.memberAdopted ev with
      mem := (s.memberAdopted ev).mem.shiftEvidence.historyAtBoundary ev } = s.evidenceMoved ev := by
    obtain ⟨out, ps, h⟩ := memberAdopted_shape ev s
    rw [State.evidenceMoved, h]
    cases hs : ev.step.isSome <;> simp [Membership.historyAtBoundary, Membership.shiftEvidence, hs]
  rw [← moved]
  rfl

end Sys2Proof.Machine

/-! # The mark unit and the jump at a boundary proper (R12, R43 to R45, R49, R90, R92) -/

namespace Sys2Proof.Machine

open Sys2Proof

/-! ## A report of conflict evidence (R92) -/

/-- A report in JOINING or MEMBER, after one in the epoch before, is CONFLICT. -/
theorem report_repeats (s : State) (c : Cause) (ha : s.mem.state.active = true) (he : s.mem.evidenceLast = true) :
    s.report c = s.enterConflict c := by
  cases hs : s.mem.state <;> simp_all [State.report, MembershipState.active]

/-- Any other report is noted at most. -/
theorem report_notes (s : State) (c : Cause) (h : ¬ (s.mem.state.active = true ∧ s.mem.evidenceLast = true)) :
    ∃ e, s.report c = { s with mem.evidenceThis := e } := by
  unfold State.report
  split
  case h_1 | h_2 | h_3 => exact ⟨s.mem.evidenceThis, rfl⟩
  case h_4 hs | h_5 hs =>
    have he : s.mem.evidenceLast = false := by simpa [hs, MembershipState.active] using h
    exact ⟨true, by rw [he]; rfl⟩
  case h_6 | h_7 | h_8 => exact ⟨true, rfl⟩

/-- In a state that captures it is noted. -/
theorem report_windowed (s : State) (c : Cause) (hw : s.mem.state.mode = .windowed)
    (h : ¬ (s.mem.state.active = true ∧ s.mem.evidenceLast = true)) :
    s.report c = { s with mem.evidenceThis := true } := by
  cases hs : s.mem.state <;> simp_all [State.report, MembershipState.active, MembershipState.mode]

theorem report_outbox_mono (s : State) (c : Cause) {x : Posting} (hx : x ∈ s.port.outbox) :
    x ∈ (s.report c).port.outbox := by
  by_cases h : s.mem.state.active = true ∧ s.mem.evidenceLast = true
  · rw [report_repeats s c h.1 h.2, enterConflict_outbox]
    exact List.mem_append_left _ hx
  · obtain ⟨e, he⟩ := report_notes s c h
    rw [he]
    exact hx

/-! ## The mark unit (R43 to R45, R49) -/

/-- The mark unit's own work at the boundary, before an own-window edge of ID 0 is confirmed. -/
def State.markOpened (forward : Bool) (s : State) : State :=
  { s with mark := s.mark.boundary s.mem.state.mode s.ts.epoch forward }

theorem markBoundary_eq (s : State) (forward : Bool) : s.markBoundary forward = (s.markOpened forward).reportEarly :=
  rfl

theorem markOpened_idle (s : State) (forward : Bool) (h : s.mem.state.mode ≠ .windowed) :
    (s.markOpened forward).mark.capture = s.mark.capture := by
  unfold State.markOpened MarkUnit.boundary
  cases hm : s.mem.state.mode <;> simp_all

/-- The mark unit in WINDOWED: the new set, its records afresh (R43, R45, R49). -/
theorem markOpened_windowed (s : State) (forward : Bool) (h : s.mem.state.mode = .windowed) :
    let m := (s.markOpened forward).mark
    m.capture = some ⟨s.ts.epoch, emptySlots.set 0 (if forward then .none else s.mark.early)⟩ ∧ m.early = .none ∧
    m.echo = ⟨false, false, none, false⟩ ∧
    m.earlyOwn = (if s.mark.earlyOwn = .ended ∧ s.mark.fault = false then .ended else .none) ∧
    m.evidence = ⟨false, if s.mark.earlyOwn = .lasting ∧ s.mark.fault = false then [.otherEdge] else []⟩ := by
  intro m
  have hm : m = s.mark.boundary .windowed s.ts.epoch forward := by rw [← h]; rfl
  rw [hm]
  exact ⟨rfl, rfl, rfl, rfl, rfl⟩

/-- The state in which the confirmation of an own-window edge of ID 0 is reported. -/
def State.earlyNoted (s : State) : State :=
  { s with mark := { s.mark with earlyOwn := .none, evidence := ⟨true, []⟩ } }

theorem reportEarly_ended (s : State) (h : s.mark.earlyOwn = .ended) :
    s.reportEarly = s.earlyNoted.report .otherEdge :=
  if_pos h

theorem reportEarly_other (s : State) (h : s.mark.earlyOwn ≠ .ended) : s.reportEarly = s :=
  if_neg h

/-- An own-window edge of ID 0 has ended its low period, and no line fault is declared: in WINDOWED it counts in the
set that opens (R49, R52). -/
def MarkUnit.endedEarly (m : MarkUnit) : Prop := m.earlyOwn = .ended ∧ m.fault = false

/-- Evidence in the set that opens, and in the epoch before: CONFLICT (R92). -/
def State.repeats (s : State) : Prop :=
  s.mem.state.active = true ∧ s.mem.evidenceLast = true ∧ s.mark.endedEarly

theorem active_windowed {m : MembershipState} (h : m.active = true) : m.mode = .windowed := by
  cases m <;> simp_all [MembershipState.active, MembershipState.mode]

theorem markOpened_endedEarly (s : State) (forward : Bool) (hw : s.mem.state.mode = .windowed) :
    (s.markOpened forward).mark.earlyOwn = .ended ↔ s.mark.endedEarly := by
  obtain ⟨-, -, -, he, -⟩ := markOpened_windowed s forward hw
  rw [he, MarkUnit.endedEarly]
  split <;> simp_all

theorem markBoundary_repeats (s : State) (forward : Bool) (h : s.repeats) :
    (s.markBoundary forward).mem = { s.mem with state := .conflict } := by
  obtain ⟨ha, hl, he⟩ := h
  have ended := (markOpened_endedEarly s forward (active_windowed ha)).2 he
  rw [markBoundary_eq, reportEarly_ended _ ended, report_repeats (s.markOpened forward).earlyNoted _ ha hl,
    enterConflict_mem]
  rfl

/-- Where evidence does not repeat, the membership unit notes it at most, and the roster stands. -/
theorem markBoundary_notes (s : State) (forward : Bool) (h : ¬ s.repeats) :
    ∃ e, (s.markBoundary forward).mem = { s.mem with evidenceThis := e } ∧
      (s.markBoundary forward).roster = s.roster := by
  rw [markBoundary_eq]
  by_cases hended : (s.markOpened forward).mark.earlyOwn = .ended
  · have once : ¬ (s.mem.state.active = true ∧ s.mem.evidenceLast = true) := fun ⟨ha, hl⟩ =>
      h ⟨ha, hl, (markOpened_endedEarly s forward (active_windowed ha)).1 hended⟩
    obtain ⟨e, he⟩ := report_notes (s.markOpened forward).earlyNoted .otherEdge once
    rw [reportEarly_ended _ hended, he]
    exact ⟨e, rfl, rfl⟩
  · rw [reportEarly_other _ hended]
    exact ⟨s.mem.evidenceThis, rfl, rfl⟩

/-- Outside WINDOWED the capture set stands (R39). -/
theorem markBoundary_capture (s : State) (forward : Bool) (h : s.mem.state.mode ≠ .windowed) :
    (s.markBoundary forward).mark.capture = s.mark.capture := by
  rw [markBoundary_eq, ← markOpened_idle s forward h]
  by_cases hended : (s.markOpened forward).mark.earlyOwn = .ended
  · have once : ¬ (s.mem.state.active = true ∧ s.mem.evidenceLast = true) := fun ⟨ha, _⟩ => h (active_windowed ha)
    obtain ⟨e, he⟩ := report_notes (s.markOpened forward).earlyNoted .otherEdge once
    rw [reportEarly_ended _ hended, he]
    rfl
  · rw [reportEarly_other _ hended]

/-- The capture set of the new epoch, and the evidence in it (R43, R45, R49). -/
def State.opensSet (forward : Bool) (s t : State) : Prop :=
  t.mark.capture = some ⟨s.ts.epoch, emptySlots.set 0 (if forward then .none else s.mark.early)⟩ ∧
  t.mark.early = .none ∧ t.mark.echo = ⟨false, false, none, false⟩ ∧
  (s.mark.earlyOwn = .none ∨ s.mark.fault = true →
    t.mark.evidence = ⟨false, []⟩ ∧ t.mem.evidenceThis = s.mem.evidenceThis) ∧
  (s.mark.earlyOwn = .lasting → s.mark.fault = false →
    t.mark.evidence = ⟨false, [.otherEdge]⟩ ∧ t.mem.evidenceThis = s.mem.evidenceThis) ∧
  (s.mark.earlyOwn = .ended → s.mark.fault = false → t.mark.evidence = ⟨true, []⟩ ∧ t.mem.evidenceThis = true)

theorem markBoundary_opensSet (s : State) (forward : Bool) (hw : s.mem.state.mode = .windowed) (h : ¬ s.repeats) :
    s.opensSet forward (s.markBoundary forward) := by
  obtain ⟨hcap, hearly, hecho, hown, hev⟩ := markOpened_windowed s forward hw
  rw [markBoundary_eq]
  by_cases he : s.mark.endedEarly
  · have ended := (markOpened_endedEarly s forward hw).2 he
    have once : ¬ (s.mem.state.active = true ∧ s.mem.evidenceLast = true) := fun ⟨ha, hl⟩ => h ⟨ha, hl, he⟩
    obtain ⟨hended, hfault⟩ := he
    rw [reportEarly_ended _ ended, report_windowed (s.markOpened forward).earlyNoted _ hw once]
    exact ⟨hcap, hearly, hecho, by simp [hended, hfault], by simp [hended], fun _ _ => ⟨rfl, rfl⟩⟩
  · rw [reportEarly_other _ fun hended => he ((markOpened_endedEarly s forward hw).1 hended)]
    refine ⟨hcap, hearly, hecho, fun hq => ⟨?_, rfl⟩, fun hl hf => ⟨?_, rfl⟩, fun hl hf => absurd ⟨hl, hf⟩ he⟩
    · rw [hev]; rcases hq with hq | hq <;> simp [hq]
    · rw [hev]; simp [hl, hf]

theorem reportEarly_outbox_mono (s : State) {x : Posting} (hx : x ∈ s.port.outbox) :
    x ∈ s.reportEarly.port.outbox := by
  unfold State.reportEarly
  split
  · exact report_outbox_mono _ _ hx
  · exact hx

theorem markBoundary_outbox_mono (s : State) (forward : Bool) {x : Posting} (hx : x ∈ s.port.outbox) :
    x ∈ (s.markBoundary forward).port.outbox :=
  reportEarly_outbox_mono (s.markOpened forward) hx

/-! ## The jump of a forward step (R12, R90) -/

/-- A forward step past the end of the mark region. -/
def jumpsMark (forward : Option Nat) : Prop := ∃ p, forward = some p ∧ ns 1000000 < p

/-- What a jump moves of the membership unit, the mark unit, the roster and the port: what the judgement of a node that
is aligning moves, or nothing. -/
structure State.SameUnits (s t : State) : Prop where
  mem : t.mem = s.mem
  mark : t.mark = s.mark
  roster : t.roster = s.roster
  port : t.port = s.port

theorem tryStart_sameUnits (s : State) : s.SameUnits s.tryStart := by
  constructor <;> simp

theorem afterJump_same (s : State) (forward : Option Nat) (h : s.mem.state = .aligning → ¬ jumpsMark forward) :
    s.SameUnits (s.afterJump forward) := by
  unfold State.afterJump
  split
  next => exact ⟨rfl, rfl, rfl, rfl⟩
  next p =>
    split
    next hp =>
      have hs : ¬ (s.mem.state = .aligning ∧ s.mark.capture.isSome) := fun ha => h ha.1 ⟨p, rfl, hp⟩
      rw [State.endOfMark, if_neg hs]
      exact tryStart_sameUnits s
    next => exact tryStart_sameUnits s

/-- A jump past the end of the mark region judges a node that is aligning with a set open. -/
theorem afterJump_judges (s : State) (forward : Option Nat) (hj : jumpsMark forward) (hs : s.mem.state = .aligning)
    (hc : s.mark.capture.isSome = true) : s.judgeAligning.SameUnits (s.afterJump forward) := by
  obtain ⟨p, rfl, hp⟩ := hj
  have he : s.afterJump (some p) = s.judgeAligning.tryStart := by
    simp only [State.afterJump, if_pos hp, State.endOfMark, if_pos (And.intro hs hc)]
  rw [he]
  exact tryStart_sameUnits _

theorem afterJump_cases (s : State) (forward : Option Nat) :
    s.SameUnits (s.afterJump forward) ∨
      (s.mem.state = .aligning ∧ s.judgeAligning.SameUnits (s.afterJump forward)) := by
  unfold State.afterJump
  split
  next => exact .inl ⟨rfl, rfl, rfl, rfl⟩
  next p =>
    split
    next hp =>
      unfold State.endOfMark
      split
      next h => exact .inr ⟨h.1, tryStart_sameUnits _⟩
      next => exact .inl (tryStart_sameUnits s)
    next => exact .inl (tryStart_sameUnits s)

/-- An aligning node with its two counts moved (R90). -/
def State.counted (aligning empty : Nat) (s : State) : State :=
  { s with mem := { s.mem with aligningCount := aligning, emptyCount := empty } }

/-- The judgement moves the two counts, and may return the node to LISTEN (R90). -/
theorem judgeAligning_cases (s : State) :
    ∃ a e, s.judgeAligning = s.counted a e ∨ s.judgeAligning = (s.counted a e).enterListen := by
  unfold State.judgeAligning
  split
  next => exact ⟨satAdd 2 s.mem.aligningCount 1, 0, .inl rfl⟩
  next =>
    refine ⟨0, satAdd 4 s.mem.emptyCount 1, ?_⟩
    dsimp only
    split
    · exact .inr rfl
    · exact .inl rfl

/-- A set with no slot ONE: an epoch counted empty, and LISTEN at the fourth (R90). -/
theorem judgeAligning_empty (s : State) (h : s.someCapture = false) (hn : s.mem.emptyCount < 3) :
    s.judgeAligning = s.counted 0 (s.mem.emptyCount + 1) := by
  have hm : min 4 (s.mem.emptyCount + 1) = s.mem.emptyCount + 1 := by omega
  have hlt : ¬ 4 ≤ s.mem.emptyCount + 1 := by omega
  simp [State.judgeAligning, State.counted, h, satAdd, hm, hlt]

theorem judgeAligning_listens (s : State) (h : s.someCapture = false) (hn : 3 ≤ s.mem.emptyCount) :
    s.judgeAligning = (s.counted 0 4).enterListen := by
  have hm : min 4 (s.mem.emptyCount + 1) = 4 := by omega
  simp [State.judgeAligning, State.counted, h, satAdd, hm]

theorem someCapture_empty (s : State) {e : Epoch} (h : s.mark.capture = some ⟨e, emptySlots⟩) :
    s.someCapture = false := by
  have none_read (k : NodeId) : (s.readSlot k).isOne = false := by
    unfold State.readSlot
    rw [h]
    dsimp only
    split
    · rfl
    · simp [emptySlots, Vector.get, SlotReading.isOne]
  simp [State.someCapture, none_read]

/-- Where a jump leaves a node that captures, it left the mark unit and the evidence as they were. -/
theorem afterJump_windowed (s : State) (forward : Option Nat) (h : (s.afterJump forward).mem.state.mode = .windowed) :
    s.mem.state.mode = .windowed ∧ (s.afterJump forward).mark = s.mark ∧
    (s.afterJump forward).mem.evidenceThis = s.mem.evidenceThis ∧
    (s.afterJump forward).mem.evidenceLast = s.mem.evidenceLast := by
  obtain ⟨hmem, hmark, -, -⟩ | ⟨-, hmem, hmark, -, -⟩ := afterJump_cases s forward
  · rw [hmem] at h ⊢
    exact ⟨h, hmark, rfl, rfl⟩
  · rw [hmem] at h ⊢
    rw [hmark]
    obtain ⟨a, e, hj | hj⟩ := judgeAligning_cases s
    · rw [hj] at h ⊢
      exact ⟨h, rfl, rfl, rfl⟩
    · rw [hj, enterListen_mem] at h
      exact absurd (show MembershipState.listen.mode = .windowed from h) (by decide)

theorem judgeAligning_outbox_mono (s : State) {x : Posting} (hx : x ∈ s.port.outbox) :
    x ∈ s.judgeAligning.port.outbox := by
  obtain ⟨a, e, hj | hj⟩ := judgeAligning_cases s
  · rw [hj]; exact hx
  · rw [hj, enterListen_outbox]; exact List.mem_append_left _ hx

theorem afterJump_outbox_mono (s : State) (forward : Option Nat) {x : Posting} (hx : x ∈ s.port.outbox) :
    x ∈ (s.afterJump forward).port.outbox := by
  obtain h | ⟨-, h⟩ := afterJump_cases s forward
  · rw [h.port]; exact hx
  · rw [h.port]; exact judgeAligning_outbox_mono s hx

end Sys2Proof.Machine

/-! # The boundary proper, stage by stage (R5) -/

namespace Sys2Proof.Machine

open Sys2Proof

/-! ## What the membership unit leaves -/

@[simp] theorem evidenceMoved_keeps (ev : BoundaryEvent) (s : State) :
    (s.evidenceMoved ev).ts = s.ts ∧ (s.evidenceMoved ev).mark = s.mark ∧ (s.evidenceMoved ev).cfg = s.cfg ∧
    (s.evidenceMoved ev).mem.state = s.mem.state ∧ (s.evidenceMoved ev).quietAfter = s.quietAfter ∧
    (s.evidenceMoved ev).joinQuietAfter = s.joinQuietAfter ∧
    (s.evidenceMoved ev).mem.joinSenders = s.mem.joinSenders ∧
    (s.evidenceMoved ev).mem.joinCounter = s.mem.joinCounter ∧
    (s.evidenceMoved ev).mem.joinQuiet = s.mem.joinQuiet ∧
    (s.evidenceMoved ev).mem.aligningCount = s.mem.aligningCount ∧
    (s.evidenceMoved ev).mem.emptyCount = s.mem.emptyCount ∧
    (s.evidenceMoved ev).mem.evidenceLast = s.mem.evidenceThis ∧
    (s.evidenceMoved ev).mem.evidenceThis = false := by
  obtain ⟨out, ps, h⟩ := evidenceMoved_shape ev s
  rw [h]
  and_intros <;> rfl

theorem evidenceMoved_state (ev : BoundaryEvent) (s : State) : (s.evidenceMoved ev).mem.state = s.mem.state := by
  simp

/-- What the judgement of an epoch can do (R84, R91). -/
theorem memberJudged_cases (s : State) :
    s.memberJudged = s ∨ s.memberJudged = s.listened ∨ s.memberJudged = s.listened.changeState .member ∨
    s.memberJudged = s.enterJoining ∨ (∃ quiet, s.memberJudged = s.joined quiet) ∨ s.memberJudged = s.joinWaits ∨
    s.memberJudged = (s.joinWaits.post .membership .joinTimeout none none).enterListen := by
  have listening : s.judgeListening = s.listened ∨ s.judgeListening = s.listened.changeState .member := by
    by_cases h : s.quietAfter < s.cfg.firstMember
    · exact .inl (judgeListening_stays s h)
    · exact .inr (if_pos (Nat.not_lt.1 h))
  have joining : (∃ quiet, s.judgeJoining = s.joined quiet) ∨ s.judgeJoining = s.joinWaits ∨
      s.judgeJoining = (s.joinWaits.post .membership .joinTimeout none none).enterListen := by
    by_cases hm : joinMajority s.mem.joinSenders = true
    · exact .inl ⟨_, judgeJoining_majority s hm⟩
    have hm' := Bool.eq_false_iff.2 hm
    by_cases hq : s.joinQuietAfter < 4
    · by_cases hc : s.mem.joinCounter < 15
      · exact .inr (.inl (judgeJoining_waits s hm' hq hc))
      · exact .inr (.inr (judgeJoining_timeout s hm' hq (Nat.not_lt.1 hc)))
    · exact .inl ⟨_, judgeJoining_quiet s hm' (Nat.not_lt.1 hq)⟩
  unfold State.memberJudged
  cases s.mem.state
  case listen | apart => tauto
  case aligning => dsimp only; split <;> tauto
  case joining => tauto
  case unconfigured | member | withdrawn | conflict => exact .inl rfl

/-- Where the judgement leaves a node that captures, it left the mark unit and the evidence as they were. -/
theorem memberJudged_windowed (s : State) (h : s.memberJudged.mem.state.mode = .windowed) :
    s.memberJudged.mark = s.mark ∧ s.memberJudged.mem.evidenceThis = s.mem.evidenceThis ∧
    s.memberJudged.mem.evidenceLast = s.mem.evidenceLast := by
  obtain e | e | e | e | ⟨quiet, e⟩ | e | e := memberJudged_cases s
  case inr.inr.inr.inr.inr.inr =>
    rw [e, enterListen_mem] at h
    exact absurd (show MembershipState.listen.mode = .windowed from h) (by decide)
  case inr.inr.inl => rw [e, changeState_active _ _ rfl]; exact ⟨rfl, rfl, rfl⟩
  case inr.inr.inr.inl => rw [e, enterJoining_eq]; exact ⟨rfl, rfl, rfl⟩
  all_goals rw [e]; exact ⟨rfl, rfl, rfl⟩

/-- An empty history stays empty (R86). -/
theorem memberJudged_history (s : State) (hh : s.mem.history = []) (hn : s.mem.newest = none) :
    s.memberJudged.mem.history = [] ∧ s.memberJudged.mem.newest = none := by
  have listened : s.listened.mem.history = [] ∧ s.listened.mem.newest = none := by simp [State.listened, hh, hn]
  obtain e | e | e | e | ⟨quiet, e⟩ | e | e := memberJudged_cases s <;> rw [e]
  · exact ⟨hh, hn⟩
  · exact listened
  · rw [changeState_mem]; exact listened
  · rw [enterJoining_eq]; exact ⟨hh, hn⟩
  · exact ⟨hh, hn⟩
  · exact ⟨hh, hn⟩
  · rw [enterListen_mem]; exact ⟨rfl, rfl⟩

/-- A node that captures nothing is not judged. -/
theorem memberJudged_idle (s : State) (h : s.mem.state.mode = .idle) : s.memberJudged = s := by
  unfold State.memberJudged
  cases hs : s.mem.state <;> simp_all [MembershipState.mode]

theorem memberJudged_begun (s : State) : s.memberJudged.begun = s.begun := by
  by_cases hs : s.mem.state = .unconfigured
  · rw [memberJudged_idle s (by rw [hs]; rfl)]
  have hb : s.begun = true := by simpa [State.begun] using hs
  rw [hb]
  obtain e | e | e | e | ⟨quiet, e⟩ | e | e := memberJudged_cases s <;> rw [e]
  · exact hb
  · exact hb
  · rw [State.begun, changeState_mem]; rfl
  · rw [enterJoining_eq]; rfl
  · rfl
  · exact hb
  · rw [State.begun, enterListen_mem]; rfl

theorem emptySlots_set_none : emptySlots.set 0 .none = emptySlots := by decide

/-! ## What the roster and the local port leave -/

theorem snapshot_outbox_mono (s : State) {x : Posting} (hx : x ∈ s.port.outbox) : x ∈ s.snapshot.port.outbox := by
  unfold State.snapshot
  split
  · exact hx
  split
  · exact hx
  split
  · exact List.mem_append_left _ hx
  · exact hx

theorem rosterBoundary_outbox_mono (ev : BoundaryEvent) (s : State) {x : Posting} (hx : x ∈ s.port.outbox) :
    x ∈ (s.rosterBoundary ev).port.outbox := by
  unfold State.rosterBoundary
  split
  · exact hx
  dsimp only
  split
  · exact List.mem_append_left _ hx
  · exact hx

theorem rosterBoundary_entries_nil (ev : BoundaryEvent) (s : State) (h : s.roster.entries = []) :
    (s.rosterBoundary ev).roster.entries = [] := by
  unfold State.rosterBoundary
  split
  · exact h
  dsimp only
  split <;> simp [State.rosterAdopted, State.post, State.postAfter, h]

/-! ## The stages -/

/-- The boundary proper up to the work of the membership unit. -/
def State.judgedAt (step : Option Int) (forward : Option Nat) (discarded : Bool) (s : State) : State :=
  (s.opened step forward).memberBoundary (s.ts.eventOf step discarded)

/-- Up to the work of the roster. -/
def State.rosteredAt (step : Option Int) (forward : Option Nat) (discarded : Bool) (s : State) : State :=
  (s.judgedAt step forward discarded).rosterBoundary (s.ts.eventOf step discarded)

/-- Up to the work of the mark unit. -/
def State.markedAt (step : Option Int) (forward : Option Nat) (discarded : Bool) (s : State) : State :=
  (s.rosteredAt step forward discarded).markBoundary forward.isSome

/-- Up to the work of the generators. -/
def State.generatedAt (step : Option Int) (forward : Option Nat) (discarded : Bool) (s : State) : State :=
  (s.markedAt step forward discarded).genBoundary forward.isSome (s.ts.eventOf step discarded).deltaA
    (s.ts.eventOf step discarded).deltaB

/-- Up to the work of the local port. -/
def State.countedAt (step : Option Int) (forward : Option Nat) (discarded : Bool) (s : State) : State :=
  (s.generatedAt step forward discarded).snapshot

section

variable (s : State) (step : Option Int) (forward : Option Nat) (discarded : Bool)

theorem boundaryProper_stages :
    s.boundaryProper step forward discarded = (s.countedAt step forward discarded).afterJump forward := rfl

theorem judgedAt_ts : (s.judgedAt step forward discarded).ts = s.ts.openEpoch forward step.isSome := by
  simp [State.judgedAt]

theorem rosteredAt_keeps :
    (s.rosteredAt step forward discarded).ts = s.ts.openEpoch forward step.isSome ∧
    (s.rosteredAt step forward discarded).mem = (s.judgedAt step forward discarded).mem ∧
    (s.rosteredAt step forward discarded).mark = (s.judgedAt step forward discarded).mark := by
  simp [State.rosteredAt, judgedAt_ts]

theorem markedAt_ts : (s.markedAt step forward discarded).ts = s.ts.openEpoch forward step.isSome := by
  simp [State.markedAt, rosteredAt_keeps]

theorem countedAt_keeps :
    (s.countedAt step forward discarded).mem = (s.markedAt step forward discarded).mem ∧
    (s.countedAt step forward discarded).mark = (s.markedAt step forward discarded).mark ∧
    (s.countedAt step forward discarded).roster = (s.markedAt step forward discarded).roster := by
  simp [State.countedAt, State.generatedAt]

/-- What the membership unit posts at the boundary is posted after it. -/
theorem boundaryProper_posts {x : Posting} (hx : x ∈ (s.judgedAt step forward discarded).port.outbox) :
    x ∈ (s.boundaryProper step forward discarded).port.outbox := by
  have marked : x ∈ (s.markedAt step forward discarded).port.outbox :=
    markBoundary_outbox_mono _ _ (rosterBoundary_outbox_mono _ _ hx)
  have counted : x ∈ (s.countedAt step forward discarded).port.outbox :=
    snapshot_outbox_mono _ (by simpa [State.generatedAt] using marked)
  exact afterJump_outbox_mono _ _ counted

/-! ## What the later stages make of the membership unit -/

theorem rosteredAt_repeats :
    (s.rosteredAt step forward discarded).repeats ↔ (s.judgedAt step forward discarded).repeats := by
  obtain ⟨-, hmem, hmark⟩ := rosteredAt_keeps s step forward discarded
  rw [State.repeats, State.repeats, hmem, hmark]

/-- Evidence repeated makes the node CONFLICT and moves nothing more of the membership unit (R92). -/
theorem boundaryProper_mem_repeats (h : (s.judgedAt step forward discarded).repeats) :
    (s.boundaryProper step forward discarded).mem =
      { (s.judgedAt step forward discarded).mem with state := .conflict } := by
  have conflict := markBoundary_repeats _ forward.isSome ((rosteredAt_repeats s step forward discarded).2 h)
  rw [(rosteredAt_keeps s step forward discarded).2.1] at conflict
  have counted := (countedAt_keeps s step forward discarded).1.trans conflict
  have still : (s.countedAt step forward discarded).mem.state ≠ .aligning := by
    rw [counted]
    exact MembershipState.noConfusion
  rw [boundaryProper_stages, (afterJump_same _ forward fun ha => absurd ha still).mem, counted]

/-- Where evidence does not repeat, the membership unit notes it at most, and the roster stands. -/
theorem countedAt_notes (h : ¬ (s.judgedAt step forward discarded).repeats) :
    ∃ e, (s.countedAt step forward discarded).mem =
        { (s.judgedAt step forward discarded).mem with evidenceThis := e } ∧
      (s.countedAt step forward discarded).roster = (s.rosteredAt step forward discarded).roster := by
  obtain ⟨hmem, -, hroster⟩ := countedAt_keeps s step forward discarded
  obtain ⟨e, he, hr⟩ :=
    markBoundary_notes _ forward.isSome (fun hr => h ((rosteredAt_repeats s step forward discarded).1 hr))
  rw [(rosteredAt_keeps s step forward discarded).2.1] at he
  exact ⟨e, hmem.trans he, hroster.trans hr⟩

theorem boundaryProper_mem_notes (h : ¬ (s.judgedAt step forward discarded).repeats)
    (hj : (s.judgedAt step forward discarded).mem.state = .aligning → ¬ jumpsMark forward) :
    ∃ e, (s.boundaryProper step forward discarded).mem =
        { (s.judgedAt step forward discarded).mem with evidenceThis := e } ∧
      (s.boundaryProper step forward discarded).roster = (s.rosteredAt step forward discarded).roster := by
  obtain ⟨e, he, hr⟩ := countedAt_notes s step forward discarded h
  have same := afterJump_same (s.countedAt step forward discarded) forward (by rw [he]; exact hj)
  exact ⟨e, by rw [boundaryProper_stages, same.mem, he], by rw [boundaryProper_stages, same.roster, hr]⟩

/-- The set that opens in a node that captures (R43, R45, R49). -/
theorem markedAt_opensSet (hw : (s.judgedAt step forward discarded).mem.state.mode = .windowed)
    (h : ¬ (s.judgedAt step forward discarded).repeats) :
    (s.rosteredAt step forward discarded).opensSet forward.isSome (s.markedAt step forward discarded) :=
  markBoundary_opensSet _ _ (by rw [(rosteredAt_keeps s step forward discarded).2.1]; exact hw)
    fun hr => h ((rosteredAt_repeats s step forward discarded).1 hr)

/-- A forward step past the end of the mark region judges a node that aligns, with no slot ONE (R12, R90). -/
theorem boundaryProper_judges (hs : (s.judgedAt step forward discarded).mem.state = .aligning)
    (hj : jumpsMark forward) :
    ∃ (w : State) (e : Bool), w.mem = { (s.judgedAt step forward discarded).mem with evidenceThis := e } ∧
      w.someCapture = false ∧ w.judgeAligning.SameUnits (s.boundaryProper step forward discarded) := by
  have once : ¬ (s.judgedAt step forward discarded).repeats := by
    rintro ⟨ha, -, -⟩
    rw [hs] at ha
    exact absurd ha (by decide)
  obtain ⟨hcap, -⟩ := markedAt_opensSet s step forward discarded (by rw [hs]; rfl) once
  obtain ⟨p, rfl, hp⟩ := hj
  rw [Option.isSome_some, if_pos rfl, emptySlots_set_none] at hcap
  obtain ⟨hmem, hmark, -⟩ := countedAt_keeps s step (some p) discarded
  rw [← hmark] at hcap
  obtain ⟨e, he, -⟩ := countedAt_notes s step (some p) discarded once
  have aligning : (s.countedAt step (some p) discarded).mem.state = .aligning := by rw [he]; exact hs
  exact ⟨_, e, he, someCapture_empty _ hcap, afterJump_judges _ _ ⟨p, rfl, hp⟩ aligning (by rw [hcap]; rfl)⟩

/-- A node that captures after the boundary captured before the mark unit's work, and its evidence did not repeat. -/
theorem boundaryProper_windowed (h : (s.boundaryProper step forward discarded).mem.state.mode = .windowed) :
    (s.judgedAt step forward discarded).mem.state.mode = .windowed ∧
    ¬ (s.judgedAt step forward discarded).repeats ∧
    (s.boundaryProper step forward discarded).mark = (s.markedAt step forward discarded).mark ∧
    (s.boundaryProper step forward discarded).mem.evidenceThis = (s.markedAt step forward discarded).mem.evidenceThis ∧
    (s.boundaryProper step forward discarded).mem.evidenceLast =
      (s.judgedAt step forward discarded).mem.evidenceLast := by
  have once : ¬ (s.judgedAt step forward discarded).repeats := by
    intro hr
    rw [boundaryProper_mem_repeats s step forward discarded hr] at h
    exact absurd (show MembershipState.conflict.mode = .windowed from h) (by decide)
  obtain ⟨hw, hmark, hthis, hlast⟩ := afterJump_windowed (s.countedAt step forward discarded) forward h
  obtain ⟨cmem, cmark, -⟩ := countedAt_keeps s step forward discarded
  obtain ⟨e, he, -⟩ := countedAt_notes s step forward discarded once
  rw [he] at hw hlast
  exact ⟨hw, once, hmark.trans cmark, hthis.trans (by rw [cmem]), hlast⟩

/-- Where the membership unit left the node in a state that captures, the mark unit and the evidence of the epoch just
ended stand as they came to the boundary (R92). -/
theorem judgedAt_windowed (hw : (s.judgedAt step forward discarded).mem.state.mode = .windowed) :
    (s.judgedAt step forward discarded).mark = s.mark ∧
    (s.judgedAt step forward discarded).mem.evidenceThis = false ∧
    (s.judgedAt step forward discarded).mem.evidenceLast = s.mem.evidenceThis := by
  unfold State.judgedAt at hw ⊢
  rw [memberBoundary_eq] at hw ⊢
  obtain ⟨hmark, hthis, hlast⟩ := memberJudged_windowed _ hw
  rw [hmark, hthis, hlast]
  simp [State.opened]

/-- Whether evidence repeats at the boundary (R92). -/
def State.againAt (s : State) : Prop := s.mark.earlyOwn = .ended ∧ s.mark.fault = false ∧ s.mem.evidenceThis = true

theorem judgedAt_repeats :
    (s.judgedAt step forward discarded).repeats ↔
      (s.judgedAt step forward discarded).mem.state.active = true ∧ s.againAt := by
  unfold State.repeats State.againAt MarkUnit.endedEarly
  refine and_congr_right fun ha => ?_
  obtain ⟨hmark, -, hlast⟩ := judgedAt_windowed s step forward discarded (active_windowed ha)
  rw [hmark, hlast]
  tauto

end

end Sys2Proof.Machine

/-! # Listening and joining at the end of an epoch (R84, R86, R91) -/

namespace Sys2Proof.Machine

open Sys2Proof

/-! ## The judgement in JOINING (R91) -/

/-- At the sixteenth epoch JOIN_TIMEOUT is posted, and the change to LISTEN, where the roster is empty. -/
theorem judgeJoining_timeout_effects (s : State) (h : joinMajority s.mem.joinSenders = false)
    (hq : s.joinQuietAfter < 4) (hc : 15 ≤ s.mem.joinCounter) :
    s.judgeJoining.mem.state = .listen ∧ s.judgeJoining.roster.entries = [] ∧
    s.judgeJoining.port.outbox = s.port.outbox ++
      [⟨.membership, s.ts.epoch, .joinTimeout, none, none, none⟩, s.changePosting .listen] := by
  rw [judgeJoining_timeout s h hq hc]
  refine ⟨by rw [enterListen_mem], enterListen_entries _, ?_⟩
  rw [enterListen_outbox]
  exact List.append_assoc _ _ _

theorem joinQuietAfter_lt (s : State) (h : s.mem.joinHeard = true ∨ s.mem.joinQuiet < 3) : s.joinQuietAfter < 4 := by
  unfold State.joinQuietAfter
  split
  · omega
  · rcases h with h | h
    · contradiction
    · omega

theorem joinQuietAfter_full (s : State) (h : s.mem.joinHeard = false) (hq : 3 ≤ s.mem.joinQuiet) :
    s.joinQuietAfter = 4 := by
  have hn : ¬ s.mem.joinHeard = true := by simp [h]
  rw [State.joinQuietAfter, if_neg hn]
  omega

/-- Short of the limits the counts of JOINING do not saturate. -/
theorem joinWaits_eq (s : State) (hq : s.mem.joinHeard = true ∨ s.mem.joinQuiet < 3) (hc : s.mem.joinCounter < 15) :
    s.joinWaits = { s with mem := { s.mem with
      joinSenders := [], joinHeard := false
      joinQuiet := if s.mem.joinHeard then 0 else s.mem.joinQuiet + 1
      joinCounter := s.mem.joinCounter + 1 } } := by
  have counter : min 16 (s.mem.joinCounter + 1) = s.mem.joinCounter + 1 := by omega
  have quiet : s.joinQuietAfter = if s.mem.joinHeard then 0 else s.mem.joinQuiet + 1 := by
    unfold State.joinQuietAfter
    split
    · rfl
    · rcases hq with hq | hq
      · contradiction
      · omega
  rw [State.joinWaits, quiet, counter]

/-- What JOINING comes to at the end of an epoch. -/
theorem judgeJoining_spec (s : State) :
    let majority := 1 ≤ s.mem.joinSenders.length ∧
      s.mem.joinSenders.length ≤ 2 * (s.mem.joinSenders.filter (·.lists)).length
    (majority → s.judgeJoining = s.joined s.mem.joinQuiet) ∧
    (¬ majority → s.mem.joinHeard = false → 3 ≤ s.mem.joinQuiet → s.judgeJoining = s.joined 4) ∧
    (¬ majority → (s.mem.joinHeard = true ∨ s.mem.joinQuiet < 3) → s.mem.joinCounter < 15 →
      s.judgeJoining = s.joinWaits) ∧
    (¬ majority → (s.mem.joinHeard = true ∨ s.mem.joinQuiet < 3) → 15 ≤ s.mem.joinCounter →
      s.judgeJoining.mem.state = .listen ∧ s.judgeJoining.roster.entries = [] ∧
      s.judgeJoining.port.outbox = s.port.outbox ++
        [⟨.membership, s.ts.epoch, .joinTimeout, none, none, none⟩, s.changePosting .listen]) := by
  intro majority
  have no (h : ¬ majority) : joinMajority s.mem.joinSenders = false :=
    Bool.eq_false_iff.2 fun hm => h ((joinMajority_iff _).1 hm)
  refine ⟨fun h => judgeJoining_majority s ((joinMajority_iff _).2 h), fun h hh hq => ?_, fun h hq hc => ?_,
    fun h hq hc => ?_⟩
  · have full := joinQuietAfter_full s hh hq
    rw [judgeJoining_quiet s (no h) full.ge, full]
  · exact judgeJoining_waits s (no h) (joinQuietAfter_lt s hq) hc
  · exact judgeJoining_timeout_effects s (no h) (joinQuietAfter_lt s hq) hc

/-! ## The boundary of the unit, state by state -/

theorem memberBoundary_listening (s : State) (ev : BoundaryEvent) (h : s.mem.state = .listen ∨ s.mem.state = .apart) :
    s.memberBoundary ev = (s.evidenceMoved ev).judgeListening := by
  rw [memberBoundary_eq, State.memberJudged, evidenceMoved_state]
  rcases h with h | h <;> rw [h]

theorem memberBoundary_joining (s : State) (ev : BoundaryEvent) (h : s.mem.state = .joining) :
    s.memberBoundary ev = (s.evidenceMoved ev).judgeJoining := by
  rw [memberBoundary_eq, State.memberJudged, evidenceMoved_state, h]

theorem memberBoundary_aligning (s : State) (ev : BoundaryEvent) (h : s.mem.state = .aligning) :
    s.memberBoundary ev =
      if 2 ≤ s.mem.aligningCount then (s.evidenceMoved ev).enterJoining else s.evidenceMoved ev := by
  have hcount : (s.evidenceMoved ev).mem.aligningCount = s.mem.aligningCount := by simp
  rw [memberBoundary_eq, State.memberJudged, evidenceMoved_state, h, ← hcount]

theorem memberBoundary_other (s : State) (ev : BoundaryEvent)
    (h : s.mem.state = .unconfigured ∨ s.mem.state = .member ∨ s.mem.state = .withdrawn ∨ s.mem.state = .conflict) :
    s.memberBoundary ev = s.evidenceMoved ev := by
  rw [memberBoundary_eq, State.memberJudged, evidenceMoved_state]
  rcases h with h | h | h | h <;> rw [h]

/-! ## What the boundary proper makes of LISTEN, APART and JOINING -/

section

variable {s : State} (step : Option Int) (forward : Option Nat) (discarded : Bool)

/-- A change that the membership unit posts carries the number of the epoch that opens (R5, R82). -/
theorem boundaryProper_posts_change (new : MembershipState)
    (h : (s.judgedAt step forward discarded).changePosting new ∈ (s.judgedAt step forward discarded).port.outbox) :
    (s.boundaryProper step forward discarded).changePosting new ∈
      (s.boundaryProper step forward discarded).port.outbox := by
  have same : (s.boundaryProper step forward discarded).changePosting new =
      (s.judgedAt step forward discarded).changePosting new := by
    simp only [State.changePosting, boundaryProper_ts, judgedAt_ts]
  rw [same]
  exact boundaryProper_posts s step forward discarded h

theorem judgedAt_listening_stays (hs : s.mem.state = .listen ∨ s.mem.state = .apart)
    (hq : s.quietAfter < s.cfg.firstMember) :
    let m := (s.judgedAt step forward discarded).mem
    m.state = s.mem.state ∧ m.quietCount = s.quietAfter ∧ m.heard = s.mark.fault ∧ m.trainStart = false := by
  obtain ⟨-, hmark, hcfg, hstate, hquiet, -⟩ :=
    evidenceMoved_keeps (s.ts.eventOf step discarded) (s.opened step forward)
  intro m
  have hm : m = ((s.opened step forward).evidenceMoved (s.ts.eventOf step discarded)).listened.mem := by
    rw [← judgeListening_stays _ (by rw [hquiet, hcfg]; exact hq)]
    exact congrArg State.mem (memberBoundary_listening (s.opened step forward) _ hs)
  rw [hm]
  exact ⟨hstate, hquiet, congrArg MarkUnit.fault hmark, rfl⟩

theorem judgedAt_listening_first (hs : s.mem.state = .listen ∨ s.mem.state = .apart)
    (hq : s.cfg.firstMember ≤ s.quietAfter) :
    let u := s.judgedAt step forward discarded
    u.mem.state = .member ∧ u.changePosting .member ∈ u.port.outbox := by
  obtain ⟨-, -, hcfg, -, hquiet, -⟩ :=
    evidenceMoved_keeps (s.ts.eventOf step discarded) (s.opened step forward)
  intro u
  have hu : u = ((s.opened step forward).evidenceMoved (s.ts.eventOf step discarded)).judgeListening :=
    memberBoundary_listening (s.opened step forward) _ hs
  rw [hu, judgeListening_first _ (by rw [hquiet, hcfg]; exact hq)]
  exact ⟨rfl, List.mem_append_right _ (List.mem_singleton_self _)⟩

theorem judgedAt_joins (hs : s.mem.state = .joining)
    (h : joinMajority s.mem.joinSenders = true ∨ 4 ≤ s.joinQuietAfter) :
    let u := s.judgedAt step forward discarded
    u.mem.state = .member ∧ u.changePosting .member ∈ u.port.outbox := by
  obtain ⟨-, -, -, -, -, hquiet, hsenders, -⟩ :=
    evidenceMoved_keeps (s.ts.eventOf step discarded) (s.opened step forward)
  intro u
  have hu : u = ((s.opened step forward).evidenceMoved (s.ts.eventOf step discarded)).judgeJoining :=
    memberBoundary_joining (s.opened step forward) _ hs
  have joins : ∃ quiet, u = ((s.opened step forward).evidenceMoved (s.ts.eventOf step discarded)).joined quiet := by
    rw [hu]
    by_cases hm : joinMajority s.mem.joinSenders = true
    · exact ⟨_, judgeJoining_majority _ (by rw [hsenders]; exact hm)⟩
    · have four := h.resolve_left hm
      exact ⟨_, judgeJoining_quiet _ (by rw [hsenders]; exact Bool.eq_false_iff.2 hm) (by rw [hquiet]; exact four)⟩
  obtain ⟨quiet, hj⟩ := joins
  rw [hj]
  exact ⟨rfl, List.mem_append_right _ (List.mem_singleton_self _)⟩

theorem judgedAt_join_waits (hs : s.mem.state = .joining) (hno : joinMajority s.mem.joinSenders = false)
    (hq : s.joinQuietAfter < 4) (hc : s.mem.joinCounter < 15) :
    let m := (s.judgedAt step forward discarded).mem
    m.state = .joining ∧ m.joinCounter = s.mem.joinCounter + 1 ∧ m.joinQuiet = s.joinQuietAfter ∧
    m.joinSenders = [] ∧ m.joinHeard = false := by
  obtain ⟨-, -, -, hstate, -, hquiet, hsenders, hcounter, -⟩ :=
    evidenceMoved_keeps (s.ts.eventOf step discarded) (s.opened step forward)
  intro m
  have hm : m = ((s.opened step forward).evidenceMoved (s.ts.eventOf step discarded)).joinWaits.mem := by
    rw [← judgeJoining_waits _ (by rw [hsenders]; exact hno) (by rw [hquiet]; exact hq) (by rw [hcounter]; exact hc)]
    exact congrArg State.mem (memberBoundary_joining (s.opened step forward) _ hs)
  have counter : min 16 (s.mem.joinCounter + 1) = s.mem.joinCounter + 1 := by omega
  rw [hm]
  refine ⟨hstate.trans hs, ?_, hquiet, rfl, rfl⟩
  rw [← counter]
  exact congrArg (fun n => min 16 (n + 1)) hcounter

theorem judgedAt_join_timeout (hs : s.mem.state = .joining) (hm : joinMajority s.mem.joinSenders = false)
    (hq : s.joinQuietAfter < 4) (hc : 15 ≤ s.mem.joinCounter) :
    let u := s.judgedAt step forward discarded
    u.mem.state = .listen ∧ u.roster.entries = [] ∧ u.changePosting .listen ∈ u.port.outbox := by
  obtain ⟨hts, -, -, -, -, hquiet, hsenders, hcounter, -⟩ :=
    evidenceMoved_keeps (s.ts.eventOf step discarded) (s.opened step forward)
  intro u
  have hu : u = ((s.opened step forward).evidenceMoved (s.ts.eventOf step discarded)).judgeJoining :=
    memberBoundary_joining (s.opened step forward) _ hs
  obtain ⟨hstate, hentries, hout⟩ := judgeJoining_timeout_effects
    ((s.opened step forward).evidenceMoved (s.ts.eventOf step discarded))
    (by rw [hsenders]; exact hm) (by rw [hquiet]; exact hq) (by rw [hcounter]; exact hc)
  have same : u.changePosting .listen =
      ((s.opened step forward).evidenceMoved (s.ts.eventOf step discarded)).changePosting .listen := by
    simp only [State.changePosting, u, judgedAt_ts, hts, opened_ts]
  rw [same, hu, hout]
  exact ⟨hstate, hentries, by simp⟩

/-- Outside ALIGNING the state that the membership unit comes to is the state after the boundary, unless evidence
repeats (R92). -/
theorem boundaryProper_mem_once (hu : (s.judgedAt step forward discarded).mem.state ≠ .aligning)
    (h : ¬ ((s.judgedAt step forward discarded).mem.state.active = true ∧ s.againAt)) :
    ∃ e, (s.boundaryProper step forward discarded).mem =
        { (s.judgedAt step forward discarded).mem with evidenceThis := e } ∧
      (s.boundaryProper step forward discarded).roster = (s.rosteredAt step forward discarded).roster :=
  boundaryProper_mem_notes s step forward discarded (fun hr => h ((judgedAt_repeats s step forward discarded).1 hr))
    fun ha => absurd ha hu

theorem boundaryProper_state_of_judged {new : MembershipState} (hn : new ≠ .aligning)
    (hu : (s.judgedAt step forward discarded).mem.state = new) (h : ¬ (new.active = true ∧ s.againAt)) :
    (s.boundaryProper step forward discarded).mem.state = new := by
  obtain ⟨e, he, -⟩ := boundaryProper_mem_once (s := s) step forward discarded (by rwa [hu]) (by rwa [hu])
  rw [he]
  exact hu

/-- A node in LISTEN or APART, through the boundary proper. -/
theorem boundaryProper_listening (hs : s.mem.state = .listen ∨ s.mem.state = .apart) :
    let t := s.boundaryProper step forward discarded
    (s.quietAfter < s.cfg.firstMember → t.mem.state = s.mem.state ∧ t.mem.quietCount = s.quietAfter ∧
      t.mem.heard = s.mark.fault ∧ t.mem.trainStart = false) ∧
    (s.cfg.firstMember ≤ s.quietAfter →
      t.changePosting .member ∈ t.port.outbox ∧ (¬ s.againAt → t.mem.state = .member)) := by
  intro t
  refine ⟨fun hq => ?_, fun hq => ?_⟩
  · obtain ⟨hstate, hquiet, hheard, htrain⟩ := judgedAt_listening_stays step forward discarded hs hq
    have still : (s.judgedAt step forward discarded).mem.state ≠ .aligning := by
      rw [hstate]; rcases hs with hs | hs <;> rw [hs] <;> decide
    have idle : (s.judgedAt step forward discarded).mem.state.active ≠ true := by
      rw [hstate]; rcases hs with hs | hs <;> rw [hs] <;> decide
    obtain ⟨e, he, -⟩ := boundaryProper_mem_once (s := s) step forward discarded still fun h => idle h.1
    rw [show t.mem = _ from he]
    exact ⟨hstate, hquiet, hheard, htrain⟩
  · obtain ⟨hstate, hpost⟩ := judgedAt_listening_first step forward discarded hs hq
    exact ⟨boundaryProper_posts_change step forward discarded .member hpost, fun hk =>
      boundaryProper_state_of_judged step forward discarded (by decide) hstate fun h => hk h.2⟩

/-- A JOINING node, through the boundary proper. -/
theorem boundaryProper_joining (hs : s.mem.state = .joining) :
    let t := s.boundaryProper step forward discarded
    let majority := joinMajority s.mem.joinSenders
    (majority = true ∨ 4 ≤ s.joinQuietAfter →
      t.changePosting .member ∈ t.port.outbox ∧ (¬ s.againAt → t.mem.state = .member)) ∧
    (majority = false → s.joinQuietAfter < 4 → s.mem.joinCounter < 15 → ¬ s.againAt →
      t.mem.state = .joining ∧ t.mem.joinCounter = s.mem.joinCounter + 1 ∧ t.mem.joinQuiet = s.joinQuietAfter ∧
      t.mem.joinSenders = [] ∧ t.mem.joinHeard = false) ∧
    (majority = false → s.joinQuietAfter < 4 → 15 ≤ s.mem.joinCounter →
      t.changePosting .listen ∈ t.port.outbox ∧ t.mem.state = .listen ∧ t.roster.entries = []) := by
  intro t majority
  refine ⟨fun h => ?_, fun hm hq hc hk => ?_, fun hm hq hc => ?_⟩
  · obtain ⟨hstate, hpost⟩ := judgedAt_joins step forward discarded hs h
    exact ⟨boundaryProper_posts_change step forward discarded .member hpost, fun hk =>
      boundaryProper_state_of_judged step forward discarded (by decide) hstate fun h => hk h.2⟩
  · obtain ⟨hstate, hwaits⟩ := judgedAt_join_waits step forward discarded hs hm hq hc
    obtain ⟨e, he, -⟩ :=
      boundaryProper_mem_once (s := s) step forward discarded (by rw [hstate]; decide) fun h => hk h.2
    rw [show t.mem = _ from he]
    exact ⟨hstate, hwaits⟩
  · obtain ⟨hstate, hentries, hpost⟩ := judgedAt_join_timeout step forward discarded hs hm hq hc
    obtain ⟨e, he, hr⟩ := boundaryProper_mem_once (s := s) step forward discarded (by rw [hstate]; decide)
      fun h => absurd h.1 (by rw [hstate]; decide)
    refine ⟨boundaryProper_posts_change step forward discarded .listen hpost, ?_, ?_⟩
    · rw [show t.mem = _ from he]; exact hstate
    · rw [show t.roster = _ from hr]; exact rosterBoundary_entries_nil _ _ hentries

end

/-! ## The statement -/

/-- Settles O28: `judgeListening` and `judgeJoining` in their cases, the boundary of the unit state by state, and what
the later stages of the boundary leave of it. -/
theorem listeningAndJoiningAreJudged : Obligations.ListeningAndJoiningAreJudged := by
  unfold Obligations.ListeningAndJoiningAreJudged
  refine ⟨fun s _ => ⟨judgeListening_stays s, judgeListening_first s⟩, fun s _ => ?_, fun s ev => ?_,
    fun s step forward discarded => ?_⟩
  · obtain ⟨hmajority, hquiet, hwaits, htimeout⟩ := judgeJoining_spec s
    exact ⟨hmajority, hquiet, fun hm hq hc => (hwaits hm hq hc).trans (joinWaits_eq s hq hc), htimeout⟩
  · refine ⟨memberBoundary_listening s ev, memberBoundary_joining s ev, fun hs hc => ?_, fun hs hc => ?_,
      memberBoundary_other s ev⟩
    · exact (memberBoundary_aligning s ev hs).trans (if_neg (Nat.not_le.2 hc))
    · have hpost : (s.evidenceMoved ev).changePosting .joining = s.changePosting .joining := by
        simp only [State.changePosting, evidenceMoved_keeps]
      rw [memberBoundary_aligning s ev hs, if_pos hc, enterJoining_eq, hpost]
      rfl
  · intro t kept quiet senders majority posted
    have once (hk : kept) : ¬ s.againAt := by
      rintro ⟨hended, hfault, hthis⟩
      simp [kept, hended, hfault, hthis] at hk
    have no (h : ¬ majority) : joinMajority s.mem.joinSenders = false :=
      Bool.eq_false_iff.2 fun hm => h ((joinMajority_iff _).1 hm)
    refine ⟨fun hs => ?_, fun hs => ?_⟩
    · obtain ⟨hstays, hfirst⟩ := boundaryProper_listening step forward discarded hs
      exact ⟨hstays, fun hq => ⟨(hfirst hq).1, fun hk => (hfirst hq).2 (once hk)⟩⟩
    · obtain ⟨hjoins, hwaits, htimeout⟩ := boundaryProper_joining step forward discarded hs
      refine ⟨fun h => ?_, fun h hq hc hk => hwaits (no h) hq hc (once hk), fun h hq hc => htimeout (no h) hq hc⟩
      obtain ⟨hpost, hstate⟩ := hjoins (h.imp_left (joinMajority_iff _).2)
      exact ⟨hpost, fun hk => hstate (once hk)⟩

end Sys2Proof.Machine

/-! # The other blocks at a boundary proper (R5, R12, R39, R43, R86, R90, R92, R168, R169, R193) -/

namespace Sys2Proof.Machine

open Sys2Proof

/-! ## The generators (R168, R169) -/

theorem quad_get_zipMap {α β : Type} (f : α → β → β) (p : Quad α) (q : Quad β) (i : Fin 4) :
    (p.zipMap f q).get i = f (p.get i) (q.get i) := by
  match i with
  | 0 => rfl
  | 1 => rfl
  | 2 => rfl
  | 3 => rfl

/-- The move of the offset of a generator's group (R168). -/
def GenSettings.groupMove (deltaA deltaB : Int) (set : GenSettings) : Int :=
  match set.group with
  | .a => deltaA
  | .b => deltaB

section Generators

variable (t : Timescale) (forward inForce : Bool) (deltaA deltaB : Int) (set : GenSettings) {g : Generator}

theorem genBoundary_still (h : g.run = .disabled ∨ g.run = .holding) :
    g.boundary t forward inForce deltaA deltaB set = g := by
  rcases h with h | h <;> simp [Generator.boundary, h]

theorem genBoundary_skips (h : g.run = .skipping) (hs : 1 < g.skip) :
    g.boundary t forward inForce deltaA deltaB set = { g with skip := g.skip - 1 } := by
  simp [Generator.boundary, h, hs]

theorem genBoundary_skipped (h : g.run = .skipping) (hs : g.skip ≤ 1) :
    g.boundary t forward inForce deltaA deltaB set =
      { g with run := .running, skip := 0, next := some (searchStart t set false) } := by
  simp [Generator.boundary, Generator.becomeRunning, h, Nat.not_lt.2 hs]

/-- After a forward step the next start is searched again. -/
theorem genBoundary_searches (h : g.run = .running) :
    g.boundary t true inForce deltaA deltaB set = { g with next := some (searchStart t set false) } := by
  simp [Generator.boundary, h]

/-- Without one it moves by the move of its group's offset. -/
theorem genBoundary_moves (h : g.run = .running) :
    g.boundary t false inForce deltaA deltaB set =
      g.move set inForce (set.groupMove deltaA deltaB) := by
  cases hg : set.group <;> simp [Generator.boundary, GenSettings.groupMove, h, hg]

variable (delta : Int) {n : NextStart}

theorem genMove_stays (hn : g.next = some n) (h : 0 ≤ n.phase + delta) :
    g.move set inForce delta = { g with next := some (.at (n.phase + delta)) } := by
  simp [Generator.move, hn, Int.not_lt.2 h]

theorem genMove_starts (hn : g.next = some n) (h : n.phase + delta < 0) :
    g.move set inForce delta = g.start set inForce (n.phase + delta) := by
  simp [Generator.move, hn, h]

end Generators

/-! ## The local port (R193) -/

theorem snapshot_not_begun (s : State) (h : s.begun = false) : s.snapshot = s := by
  simp [State.snapshot, h]

theorem snapshot_skips (s : State) (h : s.begun = true) (hk : 0 < s.port.snapSkip) :
    s.snapshot = { s with port.snapSkip := s.port.snapSkip - 1 } := by
  simp [State.snapshot, h, hk]

theorem snapshot_counts (s : State) (h : s.begun = true) (hk : s.port.snapSkip = 0)
    (hp : s.port.snapPost + 1 < s.cfg.snapPostscaler) :
    s.snapshot = { s with port.snapPost := s.port.snapPost + 1 } := by
  simp [State.snapshot, h, hk, Nat.not_le.2 hp]

/-- The posting of SNAPSHOT at this instant. -/
def State.snapshotPosting (s : State) : Posting :=
  ⟨.port, s.ts.epoch, .snapshot, none, some (signed32 (reportBound s.solver.bound)), none⟩

theorem snapshot_posts (s : State) (h : s.begun = true) (hk : s.port.snapSkip = 0)
    (hp : s.cfg.snapPostscaler ≤ s.port.snapPost + 1) :
    s.snapshot.port.snapSkip = 0 ∧ s.snapshot.port.snapPost = 0 ∧ s.snapshotPosting ∈ s.snapshot.port.outbox := by
  have e : s.snapshot = { s with port.snapPost := 0 }.postInt .port .snapshot none (reportBound s.solver.bound) := by
    simp [State.snapshot, h, hk, hp]
  rw [e]
  exact ⟨hk, rfl, List.mem_append_right _ (List.mem_singleton_self _)⟩

/-! ## BEGIN taken or not, through the boundary (R83) -/

theorem markBoundary_begun (s : State) (forward : Bool) : (s.markBoundary forward).begun = s.begun := by
  by_cases h : s.repeats
  · have hb : s.begun = true := by
      obtain ⟨ha, -, -⟩ := h
      cases hs : s.mem.state <;> simp_all [State.begun, MembershipState.active]
    rw [hb, State.begun, markBoundary_repeats s forward h]
    rfl
  · obtain ⟨e, he, -⟩ := markBoundary_notes s forward h
    rw [State.begun, he]
    rfl

section

variable {s : State} (step : Option Int) (forward : Option Nat) (discarded : Bool)

theorem judgedAt_begun : (s.judgedAt step forward discarded).begun = s.begun := by
  rw [State.judgedAt, memberBoundary_eq, memberJudged_begun, State.begun, evidenceMoved_state]
  rfl

theorem markedAt_begun : (s.markedAt step forward discarded).begun = s.begun := by
  rw [State.markedAt, markBoundary_begun, State.begun, (rosteredAt_keeps _ _ _ _).2.1]
  exact judgedAt_begun step forward discarded

theorem markedAt_keeps :
    (s.markedAt step forward discarded).gen = s.gen ∧ (s.markedAt step forward discarded).cfg = s.cfg ∧
    (s.markedAt step forward discarded).solver.bound = s.solver.bound ∧
    (s.markedAt step forward discarded).port.snapSkip = s.port.snapSkip ∧
    (s.markedAt step forward discarded).port.snapPost = s.port.snapPost := by
  and_intros <;> simp [State.markedAt, State.rosteredAt, State.judgedAt, State.opened, State.cfg]

theorem generatedAt_keeps :
    (s.generatedAt step forward discarded).ts = s.ts.openEpoch forward step.isSome ∧
    (s.generatedAt step forward discarded).begun = s.begun ∧ (s.generatedAt step forward discarded).cfg = s.cfg ∧
    (s.generatedAt step forward discarded).solver.bound = s.solver.bound ∧
    (s.generatedAt step forward discarded).port.snapSkip = s.port.snapSkip ∧
    (s.generatedAt step forward discarded).port.snapPost = s.port.snapPost := by
  obtain ⟨-, hcfg, hbound, hskip, hpost⟩ := markedAt_keeps (s := s) step forward discarded
  have hbegun := markedAt_begun (s := s) step forward discarded
  simp only [State.cfg, State.begun] at hcfg hbegun
  simp [State.generatedAt, State.cfg, State.begun, markedAt_ts, *]

theorem boundaryProper_gen_counts :
    (s.boundaryProper step forward discarded).gen = (s.generatedAt step forward discarded).gen ∧
    (s.boundaryProper step forward discarded).port.snapSkip =
      (s.generatedAt step forward discarded).snapshot.port.snapSkip ∧
    (s.boundaryProper step forward discarded).port.snapPost =
      (s.generatedAt step forward discarded).snapshot.port.snapPost := by
  rw [boundaryProper_stages]
  simp [State.countedAt]

/-- Before BEGIN the generators and the snapshot counts stand. -/
theorem boundaryProper_not_begun (h : s.begun = false) :
    let t := s.boundaryProper step forward discarded
    t.gen = s.gen ∧ t.port.snapSkip = s.port.snapSkip ∧ t.port.snapPost = s.port.snapPost := by
  intro t
  obtain ⟨hgen, hskip, hpost⟩ := boundaryProper_gen_counts (s := s) step forward discarded
  obtain ⟨-, hbegun, -, -, gskip, gpost⟩ := generatedAt_keeps (s := s) step forward discarded
  rw [snapshot_not_begun _ (hbegun.trans h)] at hskip hpost
  have marked : (s.markedAt step forward discarded).begun = false := (markedAt_begun step forward discarded).trans h
  have still : (s.generatedAt step forward discarded).gen = s.gen := by
    rw [State.generatedAt, State.genBoundary, marked]
    exact (markedAt_keeps step forward discarded).1
  exact ⟨hgen.trans still, hskip.trans gskip, hpost.trans gpost⟩

/-- From BEGIN each generator does its own work at the boundary. -/
theorem boundaryProper_gen (h : s.begun = true) (i : Fin 4) :
    (s.boundaryProper step forward discarded).gen.gens.get i =
      (s.gen.gens.get i).boundary (s.boundaryProper step forward discarded).ts forward.isSome s.gen.inForce
        (s.ts.groupA.moved.current - s.ts.groupA.current) (s.ts.groupB.moved.current - s.ts.groupB.current)
        (s.cfg.gens.get i) := by
  have marked : (s.markedAt step forward discarded).begun = true := (markedAt_begun step forward discarded).trans h
  obtain ⟨hgen, hcfg, -⟩ := markedAt_keeps (s := s) step forward discarded
  rw [(boundaryProper_gen_counts step forward discarded).1, State.generatedAt, State.genBoundary, if_pos marked,
    quad_get_zipMap, hgen, hcfg, boundaryProper_ts, markedAt_ts]
  rfl

end

/-- One generator at a boundary proper, in the cases of R168 and R169. -/
theorem genBoundary_spec (t : Timescale) (forward : Option Nat) (inForce : Bool) (deltaA deltaB : Int)
    (set : GenSettings) (g : Generator) :
    let g' := g.boundary t forward.isSome inForce deltaA deltaB set
    let delta := set.groupMove deltaA deltaB
    (g.run = .disabled ∨ g.run = .holding → g' = g) ∧
    (g.run = .skipping → 1 < g.skip → g' = { g with skip := g.skip - 1 }) ∧
    (g.run = .skipping → g.skip ≤ 1 →
      g' = { g with run := .running, skip := 0, next := some (searchStart t set false) }) ∧
    (g.run = .running → forward.isSome = true → g' = { g with next := some (searchStart t set false) }) ∧
    (∀ n, g.run = .running → forward = none → g.next = some n → 0 ≤ n.phase + delta →
      g' = { g with next := some (.at (n.phase + delta)) }) ∧
    (∀ n, g.run = .running → forward = none → g.next = some n → n.phase + delta < 0 →
      g' = g.start set inForce (n.phase + delta)) := by
  refine ⟨genBoundary_still t _ _ _ _ set, genBoundary_skips t _ _ _ _ set, genBoundary_skipped t _ _ _ _ set,
    fun hr hf => ?_, fun n hr hf hn h0 => ?_, fun n hr hf hn h0 => ?_⟩
  · rw [hf]
    exact genBoundary_searches t inForce deltaA deltaB set hr
  · rw [hf]
    exact (genBoundary_moves t inForce deltaA deltaB set hr).trans (genMove_stays inForce set _ hn h0)
  · rw [hf]
    exact (genBoundary_moves t inForce deltaA deltaB set hr).trans (genMove_starts inForce set _ hn h0)

section

variable {s : State} (step : Option Int) (forward : Option Nat) (discarded : Bool)

/-- From BEGIN the snapshot counts run, and SNAPSHOT carries the bound (R193). -/
theorem boundaryProper_snapshot (h : s.begun = true) :
    let t := s.boundaryProper step forward discarded
    (0 < s.port.snapSkip → t.port.snapSkip = s.port.snapSkip - 1 ∧ t.port.snapPost = s.port.snapPost) ∧
    (s.port.snapSkip = 0 → s.port.snapPost + 1 < s.cfg.snapPostscaler →
      t.port.snapSkip = 0 ∧ t.port.snapPost = s.port.snapPost + 1) ∧
    (s.port.snapSkip = 0 → s.cfg.snapPostscaler ≤ s.port.snapPost + 1 →
      t.port.snapSkip = 0 ∧ t.port.snapPost = 0 ∧
      ⟨.port, t.ts.epoch, .snapshot, none, some (signed32 (reportBound s.solver.bound)), none⟩ ∈ t.port.outbox) := by
  intro t
  obtain ⟨-, hskip, hpost⟩ := boundaryProper_gen_counts (s := s) step forward discarded
  obtain ⟨gts, gbegun, gcfg, gbound, gskip, gpost⟩ := generatedAt_keeps (s := s) step forward discarded
  have begun := gbegun.trans h
  rw [show t.port.snapSkip = _ from hskip, show t.port.snapPost = _ from hpost]
  refine ⟨fun hk => ?_, fun hk hp => ?_, fun hk hp => ?_⟩
  · rw [snapshot_skips _ begun (by rw [gskip]; exact hk)]
    exact ⟨congrArg (· - 1) gskip, gpost⟩
  · rw [snapshot_counts _ begun (gskip.trans hk) (by rw [gpost, gcfg]; exact hp)]
    exact ⟨gskip.trans hk, congrArg (· + 1) gpost⟩
  · obtain ⟨zero, restart, posted⟩ := snapshot_posts _ begun (gskip.trans hk) (by rw [gpost, gcfg]; exact hp)
    refine ⟨zero, restart, ?_⟩
    rw [State.snapshotPosting, gts, gbound] at posted
    rw [show t.ts = _ from boundaryProper_ts s step forward discarded]
    exact afterJump_outbox_mono _ _ posted

end

/-! ## The membership unit and the mark unit (R39, R43, R86, R90, R92) -/

section

variable {s : State} (step : Option Int) (forward : Option Nat) (discarded : Bool)

theorem judgedAt_other
    (h : s.mem.state = .unconfigured ∨ s.mem.state = .member ∨ s.mem.state = .withdrawn ∨ s.mem.state = .conflict) :
    s.judgedAt step forward discarded = (s.opened step forward).evidenceMoved (s.ts.eventOf step discarded) :=
  memberBoundary_other (s.opened step forward) _ h

theorem judgedAt_aligned (hs : s.mem.state = .aligning) (hc : 2 ≤ s.mem.aligningCount) :
    s.judgedAt step forward discarded =
      ((s.opened step forward).evidenceMoved (s.ts.eventOf step discarded)).enterJoining :=
  (memberBoundary_aligning (s.opened step forward) _ hs).trans (if_pos hc)

theorem judgedAt_aligning (hs : s.mem.state = .aligning) (hc : s.mem.aligningCount < 2) :
    s.judgedAt step forward discarded = (s.opened step forward).evidenceMoved (s.ts.eventOf step discarded) :=
  (memberBoundary_aligning (s.opened step forward) _ hs).trans (if_neg (Nat.not_le.2 hc))

/-- Evidence in two epochs running, in JOINING or MEMBER: CONFLICT (R92). -/
theorem boundaryProper_conflict (ha : (s.judgedAt step forward discarded).mem.state.active = true) (h : s.againAt) :
    (s.boundaryProper step forward discarded).mem =
      { (s.judgedAt step forward discarded).mem with state := .conflict } :=
  boundaryProper_mem_repeats s step forward discarded ((judgedAt_repeats s step forward discarded).2 ⟨ha, h⟩)

theorem boundaryProper_member (hs : s.mem.state = .member) :
    let t := s.boundaryProper step forward discarded
    (s.againAt → t.mem.state = .conflict) ∧ (¬ s.againAt → t.mem.state = .member) := by
  intro t
  have member : (s.judgedAt step forward discarded).mem.state = .member := by
    rw [judgedAt_other step forward discarded (.inr (.inl hs)), evidenceMoved_state]
    exact hs
  refine ⟨fun h => ?_, fun h => ?_⟩
  · rw [show t.mem = _ from boundaryProper_conflict step forward discarded (by rw [member]; rfl) h]
  · exact boundaryProper_state_of_judged step forward discarded (by decide) member fun hr => h hr.2

theorem boundaryProper_aligned (hs : s.mem.state = .aligning) (hc : 2 ≤ s.mem.aligningCount) :
    let t := s.boundaryProper step forward discarded
    t.changePosting .joining ∈ t.port.outbox ∧ t.mem.joinCounter = 0 ∧ t.mem.joinQuiet = 0 ∧
    t.mem.joinSenders = [] ∧ t.mem.joinHeard = false ∧ (s.againAt → t.mem.state = .conflict) ∧
    (¬ s.againAt → t.mem.state = .joining) := by
  intro t
  have judged := (judgedAt_aligned step forward discarded hs hc).trans (enterJoining_eq _)
  have joining : (s.judgedAt step forward discarded).mem.state = .joining := by rw [judged]
  have fresh : ∀ m : Membership, (∃ e, m = { (s.judgedAt step forward discarded).mem with evidenceThis := e }) ∨
      m = { (s.judgedAt step forward discarded).mem with state := .conflict } →
      m.joinCounter = 0 ∧ m.joinQuiet = 0 ∧ m.joinSenders = [] ∧ m.joinHeard = false := by
    rintro m (⟨e, rfl⟩ | rfl) <;> rw [judged] <;> exact ⟨rfl, rfl, rfl, rfl⟩
  have post : t.changePosting .joining ∈ t.port.outbox := by
    refine boundaryProper_posts_change step forward discarded .joining ?_
    rw [judged]
    exact List.mem_append_right _ (List.mem_singleton_self _)
  by_cases h : s.againAt
  · have ht := boundaryProper_conflict (s := s) step forward discarded (by rw [joining]; rfl) h
    obtain ⟨counter, quiet, senders, heard⟩ := fresh t.mem (.inr ht)
    exact ⟨post, counter, quiet, senders, heard, fun _ => by rw [show t.mem = _ from ht], fun hn => absurd h hn⟩
  · obtain ⟨e, ht, -⟩ :=
      boundaryProper_mem_once (s := s) step forward discarded (by rw [joining]; decide) fun hr => h hr.2
    obtain ⟨counter, quiet, senders, heard⟩ := fresh t.mem (.inl ⟨e, ht⟩)
    exact ⟨post, counter, quiet, senders, heard, fun ha => absurd ha h, fun _ => by
      rw [show t.mem = _ from ht]; exact joining⟩

theorem boundaryProper_aligning (hs : s.mem.state = .aligning) (hc : s.mem.aligningCount < 2) :
    let t := s.boundaryProper step forward discarded
    (¬ jumpsMark forward → t.mem.state = .aligning ∧ t.mem.aligningCount = s.mem.aligningCount ∧
      t.mem.emptyCount = s.mem.emptyCount) ∧
    (jumpsMark forward → s.mem.emptyCount < 3 → t.mem.state = .aligning ∧ t.mem.aligningCount = 0 ∧
      t.mem.emptyCount = s.mem.emptyCount + 1) ∧
    (jumpsMark forward → 3 ≤ s.mem.emptyCount →
      t.mem.state = .listen ∧ t.mark.capture = none ∧ t.roster.entries = []) := by
  intro t
  obtain ⟨-, -, -, estate, -, -, -, -, -, ecount, eempty, -⟩ :=
    evidenceMoved_keeps (s.ts.eventOf step discarded) (s.opened step forward)
  rw [← judgedAt_aligning step forward discarded hs hc] at estate ecount eempty
  have aligning : (s.judgedAt step forward discarded).mem.state = .aligning := estate.trans hs
  have once : ¬ (s.judgedAt step forward discarded).repeats := by
    rintro ⟨ha, -, -⟩
    rw [aligning] at ha
    exact absurd ha (by decide)
  refine ⟨fun hj => ?_, fun hj hn => ?_, fun hj hn => ?_⟩
  · obtain ⟨e, ht, -⟩ := boundaryProper_mem_notes s step forward discarded once fun _ => hj
    rw [show t.mem = _ from ht]
    exact ⟨aligning, ecount, eempty⟩
  all_goals
    obtain ⟨w, e, hw, hsome, same⟩ := boundaryProper_judges s step forward discarded aligning hj
    have wempty : w.mem.emptyCount = s.mem.emptyCount := by rw [hw]; exact eempty
    have waligning : w.mem.state = .aligning := by rw [hw]; exact aligning
  · rw [show t.mem = _ from same.mem, judgeAligning_empty w hsome (by rw [wempty]; exact hn)]
    exact ⟨waligning, rfl, congrArg (· + 1) wempty⟩
  · rw [show t.mem = _ from same.mem, show t.mark = _ from same.mark, show t.roster = _ from same.roster,
      judgeAligning_listens w hsome (by rw [wempty]; exact hn)]
    have windowed : (w.counted 0 4).mem.state.mode = .windowed := congrArg MembershipState.mode waligning
    exact ⟨by rw [enterListen_mem], enterListen_capture _ windowed, enterListen_entries _⟩

/-- The set and the evidence of a node that captures after the boundary (R43, R45, R49). -/
theorem boundaryProper_opensSet (h : (s.boundaryProper step forward discarded).mem.state.mode = .windowed) :
    let t := s.boundaryProper step forward discarded
    t.mark.capture = some ⟨t.ts.epoch, emptySlots.set 0 (if forward.isSome then .none else s.mark.early)⟩ ∧
    t.mark.early = .none ∧ t.mark.echo = ⟨false, false, none, false⟩ ∧
    t.mem.evidenceLast = s.mem.evidenceThis ∧
    (s.mark.earlyOwn = .none ∨ s.mark.fault = true →
      t.mark.evidence = ⟨false, []⟩ ∧ t.mem.evidenceThis = false) ∧
    (s.mark.earlyOwn = .lasting → s.mark.fault = false →
      t.mark.evidence = ⟨false, [.otherEdge]⟩ ∧ t.mem.evidenceThis = false) ∧
    (s.mark.earlyOwn = .ended → s.mark.fault = false →
      t.mark.evidence = ⟨true, []⟩ ∧ t.mem.evidenceThis = true) := by
  intro t
  obtain ⟨hw, once, hmark, hthis, hlast⟩ := boundaryProper_windowed s step forward discarded h
  obtain ⟨jmark, jthis, jlast⟩ := judgedAt_windowed s step forward discarded hw
  obtain ⟨rts, rmem, rmark⟩ := rosteredAt_keeps s step forward discarded
  have opens := markedAt_opensSet s step forward discarded hw once
  simp only [State.opensSet, rts, rmark, jmark, rmem, jthis] at opens
  obtain ⟨hcap, hearly, hecho, hquiet, hlasting, hended⟩ := opens
  rw [show t.mark = _ from hmark, show t.ts = _ from boundaryProper_ts s step forward discarded,
    show t.mem.evidenceThis = _ from hthis, show t.mem.evidenceLast = _ from hlast]
  exact ⟨hcap, hearly, hecho, jlast, hquiet, hlasting, hended⟩

/-- Outside WINDOWED the set stands (R39). -/
theorem boundaryProper_idle_capture
    (hs : s.mem.state = .unconfigured ∨ s.mem.state = .withdrawn ∨ s.mem.state = .conflict) :
    (s.boundaryProper step forward discarded).mark.capture = s.mark.capture := by
  have judged := judgedAt_other (s := s) step forward discarded (by tauto)
  obtain ⟨-, emark, -, estate, -⟩ := evidenceMoved_keeps (s.ts.eventOf step discarded) (s.opened step forward)
  rw [← judged] at emark estate
  have idle : (s.judgedAt step forward discarded).mem.state.mode = .idle := by
    rw [estate]
    rcases hs with hs | hs | hs <;> exact congrArg MembershipState.mode hs
  have notWindowed : (s.judgedAt step forward discarded).mem.state.mode ≠ .windowed := by rw [idle]; decide
  have notAligning : (s.judgedAt step forward discarded).mem.state ≠ .aligning := by
    intro ha
    rw [ha] at idle
    exact absurd idle (by decide)
  obtain ⟨-, rmem, rmark⟩ := rosteredAt_keeps s step forward discarded
  obtain ⟨-, cmark, -⟩ := countedAt_keeps s step forward discarded
  obtain ⟨e, cmem, -⟩ := countedAt_notes s step forward discarded fun hr => notWindowed (active_windowed hr.1)
  have same := afterJump_same (s.countedAt step forward discarded) forward
    (by rw [cmem]; exact fun ha => absurd ha notAligning)
  calc (s.boundaryProper step forward discarded).mark.capture
      = (s.markedAt step forward discarded).mark.capture := by rw [boundaryProper_stages, same.mark, cmark]
    _ = (s.rosteredAt step forward discarded).mark.capture :=
        markBoundary_capture _ _ (by rw [rmem]; exact notWindowed)
    _ = s.mark.capture := by rw [rmark, emark]; rfl

/-- An empty history stays empty in the judgement of a node that aligns. -/
theorem judgeAligning_history (s : State) (h : s.mem.history = [] ∧ s.mem.newest = none) :
    s.judgeAligning.mem.history = [] ∧ s.judgeAligning.mem.newest = none := by
  obtain ⟨a, e, hj | hj⟩ := judgeAligning_cases s
  · rw [hj]; exact h
  · rw [hj, enterListen_mem]; exact ⟨rfl, rfl⟩

/-- A boundary that applied a step empties the history (R86). -/
theorem boundaryProper_history (h : step.isSome = true) :
    (s.boundaryProper step forward discarded).mem.history = [] ∧
    (s.boundaryProper step forward discarded).mem.newest = none := by
  have judged : (s.judgedAt step forward discarded).mem.history = [] ∧
      (s.judgedAt step forward discarded).mem.newest = none := by
    have emptied : (s.ts.eventOf step discarded).step.isSome = true := h
    obtain ⟨out, ps, he⟩ := evidenceMoved_shape (s.ts.eventOf step discarded) (s.opened step forward)
    rw [State.judgedAt, memberBoundary_eq]
    exact memberJudged_history _ (by rw [he]; exact if_pos emptied) (by rw [he]; exact if_pos emptied)
  by_cases hr : (s.judgedAt step forward discarded).repeats
  · rw [boundaryProper_mem_repeats s step forward discarded hr]
    exact judged
  obtain ⟨e, cmem, -⟩ := countedAt_notes s step forward discarded hr
  have counted : (s.countedAt step forward discarded).mem.history = [] ∧
      (s.countedAt step forward discarded).mem.newest = none := by rw [cmem]; exact judged
  rw [boundaryProper_stages]
  obtain same | ⟨-, same⟩ := afterJump_cases (s.countedAt step forward discarded) forward
  · rw [same.mem]; exact counted
  · rw [same.mem]; exact judgeAligning_history _ counted

end

/-! ## The statement -/

/-- Settles O8: the stages of `boundaryProper`, each unit's work carried to its end. -/
theorem otherBlocksWorkAtTheBoundary : Obligations.OtherBlocksWorkAtTheBoundary := by
  unfold Obligations.OtherBlocksWorkAtTheBoundary
  refine ⟨fun s hr hp => ⟨fun hn => ?_, fun x hx hv => ?_, fun x hx hv h0 => ?_⟩,
    fun s hr hp => execReplayEnd_due hr hp, boundaryProper_eq, fun s step forward discarded => ?_,
    fun s step forward discarded => ?_⟩
  · rw [execEndOfEpoch_due hr hp, decideStep_none (s := s.runToEnd) hn]
  · rw [execEndOfEpoch_due hr hp, decideStep_discarded (s := s.runToEnd) hx hv]
  · rw [execEndOfEpoch_due hr hp, decideStep_forward (s := s.runToEnd) hx hv h0]
  · refine ⟨boundaryProper_member step forward discarded, boundaryProper_aligned step forward discarded,
      boundaryProper_aligning step forward discarded, fun h => boundaryProper_opensSet step forward discarded ?_⟩
    rcases h with h | h | h <;> exact congrArg MembershipState.mode h
  · have snapshots := boundaryProper_snapshot (s := s) step forward discarded
    refine ⟨boundaryProper_idle_capture step forward discarded, boundaryProper_history step forward discarded,
      boundaryProper_not_begun step forward discarded, fun hb i => ?_, fun hb => (snapshots hb).1,
      fun hb => (snapshots hb).2.1, fun hb => (snapshots hb).2.2⟩
    intro g g' set delta
    rw [show g' = _ from boundaryProper_gen step forward discarded hb i]
    exact genBoundary_spec _ forward _ _ _ set g

end Sys2Proof.Machine

/-! # The resets (R18, R81, and the reset tables R38, R56, R80, R98, R119, R147, R161, R176, R194) -/

namespace Sys2Proof.Machine

open Sys2Proof

theorem execResetRelease_held {s : State} (straps : NodeId) (h : s.pins.resetHeld = true) :
    exec (.resetRelease straps) s =
      .next { s with pins.resetHeld := false, mem.nodeId := straps, ts.raised := [.slot 0] } :=
  if_pos h

theorem execResetRelease_not_held {s : State} (straps : NodeId) (h : s.pins.resetHeld = false) :
    exec (.resetRelease straps) s = .next s :=
  if_neg (by simp [h])

/-! ## The invariants at a reset -/

theorem reset_queueForm : QueueForm State.reset := by
  refine ⟨by decide, trivial, fun r hr => ?_, rfl⟩
  exact absurd hr nofun

theorem reset_timeValidForm : TimeValidForm State.reset := by
  constructor <;> decide

theorem reset_rosterForm : RosterForm State.reset := by
  refine ⟨by decide, trivial, fun e he => ?_, fun _ => ⟨rfl, rfl⟩, fun _ => ⟨rfl, rfl⟩⟩
  exact absurd he List.not_mem_nil

theorem reset_inhibitHidesPulses : InhibitHidesPulses State.reset := nofun

/-! ## The values that are worked out -/

theorem reset_tallyNow : State.reset.tallyNow = 0 := by decide

theorem reset_genLevel (i : Fin 4) : State.reset.genLevel i = .low := by
  revert i; decide

/-- Settles O3: the reset state is the table, and each invariant reads off it. -/
theorem resetsLeaveTheirValues : Obligations.ResetsLeaveTheirValues := by
  unfold Obligations.ResetsLeaveTheirValues
  refine ⟨⟨⟨fun _ => rfl, fun _ => rfl⟩, fun s straps => ⟨execResetRelease_held straps,
    execResetRelease_not_held straps⟩⟩, ?timescale, ?reference, ?mark, ?word, ?membership, ?roster, ?solver,
    ?temperature, ?generators, ?port, ?invariants⟩
  case invariants =>
    exact ⟨reset_queueForm, reset_timeValidForm, nofun, reset_rosterForm, reset_correctionsHold, nofun, nofun,
      reset_inhibitHidesPulses⟩
  case generators => exact ⟨rfl, rfl, rfl, rfl, reset_genLevel⟩
  case reference => exact ⟨rfl, rfl, rfl, rfl, rfl, reset_tallyNow, rfl, rfl, rfl, rfl⟩
  all_goals and_intros <;> rfl

end Sys2Proof.Machine

/-! # Disputes, splits and their counts (R34, R35, R140 to R142) -/

namespace Sys2Proof.Machine

open Sys2Proof

theorem agreeWithin_iff (s : State) (x y : Int) : s.agreeWithin x y = true ↔ (x - y).natAbs ≤ ns s.cfg.dispute := by
  unfold State.agreeWithin Settings.disputeTicks
  exact decide_eq_true_iff

/-- The end of a dispute, requested while one lasts (R35). -/
theorem endDispute_disputed (s : State) (h : s.ref.state = .disputed) :
    s.endDispute = { s with
      solver.undisputeCount := 0
      ref.state := .qualified
      port.outbox := s.port.outbox ++ [⟨.qualifier, s.ts.epoch, .refUndisputed, none, none, none⟩] } := by
  simp [State.endDispute, State.requestUndisputed, h, State.post, State.postAfter]

/-! ## The end of a dispute (R141) -/

section Undispute

variable {s : State} {v : SolveView}

theorem judgeUndispute_undisputed (h : s.ref.state ≠ .disputed) :
    s.judgeUndispute v = { s with solver.undisputeCount := 0 } :=
  if_neg h

theorem judgeUndispute_alone (h : s.ref.state = .disputed) (hv : v.anchors = []) :
    s.judgeUndispute v = s.endDispute := by
  simp [State.judgeUndispute, h, hv]

theorem judgeUndispute_unmeasured (h : s.ref.state = .disputed) (hv : v.anchors ≠ []) (ho : v.offset = none) :
    s.judgeUndispute v = s := by
  obtain ⟨j, js, hj⟩ := List.exists_cons_of_ne_nil hv
  simp [State.judgeUndispute, h, hj, ho]

theorem judgeUndispute_measured {r : Int} (h : s.ref.state = .disputed) (hv : v.anchors ≠ []) (ho : v.offset = some r) :
    s.judgeUndispute v = if s.agreeWithin (-r) (lowerMedian (v.anchors.map (·.offset))) then s.countUndispute
      else { s with solver.undisputeCount := 0 } := by
  obtain ⟨j, js, hj⟩ := List.exists_cons_of_ne_nil hv
  simp only [State.judgeUndispute, h, hj, ho, if_true]

theorem countUndispute_early (h : s.solver.undisputeCount < 7) :
    s.countUndispute = { s with solver.undisputeCount := s.solver.undisputeCount + 1 } := by
  have count : satAdd 8 s.solver.undisputeCount 1 = s.solver.undisputeCount + 1 := by unfold satAdd; omega
  simp only [State.countUndispute, count]
  exact if_neg (by omega)

theorem countUndispute_eighth (h : 7 ≤ s.solver.undisputeCount) : s.countUndispute = s.endDispute := by
  have count : 8 ≤ satAdd 8 s.solver.undisputeCount 1 := by unfold satAdd; omega
  exact if_pos count

end Undispute

/-! ## The dispute count (R140) -/

/-- The test that R140 makes: a MEMBER that stands in A with two or more anchored peers. -/
def SolveView.tested (v : SolveView) : Prop := v.member = true ∧ v.ownAnchored = true ∧ 2 ≤ v.anchors.length

section Dispute

variable {s : State} {v : SolveView}

theorem judgeDispute_untested (h : ¬ v.tested) : s.judgeDispute v = { s with solver.disputeCount := 0 } :=
  if_neg h

theorem judgeDispute_unmeasured (h : v.tested) (ho : v.offset = none) : s.judgeDispute v = s := by
  obtain ⟨hm, hA, hn⟩ := h
  simp [State.judgeDispute, hm, hA, hn, ho]

theorem judgeDispute_measured {r : Int} (h : v.tested) (ho : v.offset = some r) :
    s.judgeDispute v =
      if s.agreeWithin (-r) (lowerMedian (-r :: v.anchors.map (·.offset))) then { s with solver.disputeCount := 0 }
      else if 4 ≤ s.solver.disputeCount + 1 then s.dispute v
      else { s with solver.disputeCount := s.solver.disputeCount + 1 } := by
  obtain ⟨hm, hA, hn⟩ := h
  simp [State.judgeDispute, hm, hA, hn, ho]

/-- A request for DISPUTED that is taken: the source is chosen again with the reference in dispute (R34, R140). -/
theorem dispute_qualified (h : s.ref.state = .qualified) :
    s.dispute v = State.applySource v { s with
      solver.disputeCount := 0
      ref.state := .disputed
      port.outbox := s.port.outbox ++ [⟨.qualifier, s.ts.epoch, .refDisputed, none, none, none⟩] } := by
  simp [State.dispute, State.requestDisputed, h, State.post, State.postAfter]

theorem dispute_refused (h : s.ref.state ≠ .qualified) :
    s.dispute v = State.applySource v { s with solver.disputeCount := 0 } := by
  simp [State.dispute, State.requestDisputed, h]

end Dispute

/-! ## The split (R142) -/

section Split

variable {s : State} {v : SolveView}

theorem judgeSplit_unpaired (h : ∀ j r, v.anchors = [j] → v.offset = some r → v.ownAnchored = false) :
    s.judgeSplit v = { s with solver.split := false } := by
  have unpaired : v.pair = none := by
    unfold SolveView.pair
    split
    next j r hj hr ho => exact absurd (h j r hj hr) (by simp [ho])
    next => rfl
  simp [State.judgeSplit, unpaired]

theorem judgeSplit_paired {j : Peer} {r : Int} (hj : v.anchors = [j]) (hr : v.offset = some r)
    (ho : v.ownAnchored = true) :
    s.judgeSplit v =
      if s.agreeWithin (-r) j.offset then { s with solver.split := false }
      else if s.solver.split then s
      else { s with solver.split := true }.postInt .solver .anchorSplit (some j.id) (toNs (j.offset + r)) := by
  simp [State.judgeSplit, SolveView.pair, hj, hr, ho]

end Split

/-- Settles O37, branch by branch: what the three judgements do with a difference that lies within the threshold and
beyond it. -/
theorem disputesAndSplitsAreCounted : Obligations.DisputesAndSplitsAreCounted := by
  intro s v offsets limit set ended count disputed tested split
  have beyond {x y : Int} (h : limit < (x - y).natAbs) : ¬ s.agreeWithin x y = true := by
    rw [agreeWithin_iff]; exact Nat.not_le.2 h
  have inside {x y : Int} (h : (x - y).natAbs ≤ limit) : s.agreeWithin x y = true := (agreeWithin_iff s x y).2 h
  refine ⟨judgeUndispute_undisputed, fun hd => ⟨fun hv => ?_, judgeUndispute_unmeasured hd, fun r hv ho => ?_⟩,
    judgeDispute_untested, judgeDispute_unmeasured, fun r ht ho => ?_, judgeSplit_unpaired, fun j r hj hr ho => ?_,
    fun h => if_neg h, fun h => if_pos h⟩
  · rw [judgeUndispute_alone hd hv, endDispute_disputed s hd]
  · rw [judgeUndispute_measured hd hv ho]
    refine ⟨fun h => if_neg (beyond h), fun h hc => ?_, fun h hc => ?_⟩
    · rw [if_pos (inside h), countUndispute_early hc]
    · rw [if_pos (inside h), countUndispute_eighth hc, endDispute_disputed s hd]
  · rw [judgeDispute_measured ht ho]
    refine ⟨fun h => if_pos (inside h), fun h hc => ?_, fun h hc => ?_⟩
    · rw [if_neg (beyond h), if_neg (by omega)]
    · rw [if_neg (beyond h), if_pos (by omega)]
      exact ⟨dispute_qualified, dispute_refused⟩
  · rw [judgeSplit_paired hj hr ho]
    refine ⟨fun h => if_pos (inside h), fun h hs => ?_, fun h hs => ?_⟩
    · rw [if_neg (beyond h), if_pos hs]
    · rw [if_neg (beyond h), if_neg (by simp [hs])]
      rfl

end Sys2Proof.Machine

/-! # What a change of timing or reference state posts (R24, R120, R126, R143) -/

namespace Sys2Proof.Machine

open Sys2Proof

/-- All events posted in `s` are still posted in `t`, with at most `n` more, in whatever order. -/
def PostsAtMost (n : Nat) (s t : State) : Prop :=
  ∃ ps : List Posting, ps.length ≤ n ∧ t.port.outbox.Perm (s.port.outbox ++ ps)

namespace PostsAtMost

variable {n m : Nat} {s t u : State}

theorem of_eq (h : t.port.outbox = s.port.outbox) : PostsAtMost n s t :=
  ⟨[], Nat.zero_le n, by simp [h]⟩

theorem mono (h : PostsAtMost n s t) (hnm : n ≤ m) : PostsAtMost m s t := by
  obtain ⟨ps, hn, hp⟩ := h
  exact ⟨ps, hn.trans hnm, hp⟩

theorem trans (h : PostsAtMost n s t) (h' : PostsAtMost m t u) : PostsAtMost (n + m) s u := by
  obtain ⟨ps, hn, hp⟩ := h
  obtain ⟨qs, hm, hq⟩ := h'
  refine ⟨ps ++ qs, by simpa using Nat.add_le_add hn hm, hq.trans ?_⟩
  simpa using hp.append_right qs

theorem mem (h : PostsAtMost n s t) {p : Posting} (hp : p ∈ s.port.outbox) : p ∈ t.port.outbox := by
  obtain ⟨ps, -, perm⟩ := h
  exact perm.mem_iff.2 (List.mem_append_left ps hp)

theorem length_le (h : PostsAtMost n s t) : t.port.outbox.length ≤ s.port.outbox.length + n := by
  obtain ⟨ps, hn, perm⟩ := h
  rw [perm.length_eq, List.length_append]
  omega

end PostsAtMost

theorem postAfter_posts (s : State) (a : Option Lane) (l : Lane) (k : EventKind) (j : Option NodeId)
    (v : Option (BitVec 32)) : PostsAtMost 1 s (s.postAfter a l k j v) :=
  ⟨[⟨l, s.ts.epoch, k, j, v, a⟩], Nat.le_refl 1, by simp⟩

/-- Two postings may change places, and none is lost (R139). -/
theorem eitherOrder_posts (s : State) : PostsAtMost 0 s s.eitherOrder := by
  refine ⟨[], Nat.le_refl 0, ?_⟩
  rw [List.append_nil]
  unfold State.eitherOrder
  split
  next q p older h =>
    have outbox : s.port.outbox = (q :: p :: older).reverse := by rw [← h, List.reverse_reverse]
    dsimp only
    split
    · rw [outbox]
      exact (List.reverse_perm _).trans ((List.Perm.swap q p older).trans (List.reverse_perm _).symm)
    · rw [choose_port]
  next => exact List.Perm.refl _

theorem judgeBudgetAtEntry_posts (s : State) : PostsAtMost 1 s s.judgeBudgetAtEntry := by
  unfold State.judgeBudgetAtEntry
  split
  · have posted : PostsAtMost 1 s s.setOverBudget := postAfter_posts _ _ _ _ _ _
    exact posted.trans (eitherOrder_posts _)
  · exact .of_eq rfl

theorem enterHoldover_posts (s : State) (old : TimingState) (g : Growth) (b : Option Nat) :
    PostsAtMost 1 s (s.enterHoldover old g b) := by
  unfold State.enterHoldover
  dsimp only
  split <;> exact judgeBudgetAtEntry_posts _

/-- An entry posts STATE_CHANGE, and OVER_BUDGET at most besides (R120, R139). -/
theorem enter_posts (s : State) (a : Option Lane) (t : TimingState) (target : Option Target) (g : Growth)
    (b : Option Nat) : PostsAtMost 2 s (s.enter a t target g b) := by
  have change (u : State) (h : u.port.outbox = s.port.outbox ++
      [⟨.solver, s.ts.epoch, .stateChange, none, some (signed32 (stateChangeValue t target)), a⟩]) :
      PostsAtMost 1 s u :=
    ⟨[_], Nat.le_refl 1, by rw [h]⟩
  have refreshed (u : State) : PostsAtMost 0 u u.refreshTimeValid := .of_eq (by simp)
  unfold State.enter
  cases t
  case coasting =>
    exact ((change _ rfl).trans (enterHoldover_posts _ _ _ _)).trans (refreshed _)
  case alone =>
    exact ((change _ rfl).trans (enterHoldover_posts _ _ _ _)).trans (refreshed _)
  all_goals exact (((change _ rfl).trans (refreshed _)).mono (by decide))

theorem Target.eq_of_state_anchored {t : Target} (h : t.state = .anchored) : t = .anchored := by
  cases t with
  | anchored => rfl
  | borrowing | coasting => exact absurd h (by decide)

/-- The transition rule enters a state, or leaves all as it is; ANCHORED comes of a reference for its source alone
(R126). -/
theorem transition_cases (s : State) (a : Option Lane) (source : Option Target) (g : Growth) :
    (s.transition a source g = s ∧ (s.solver.timing = .anchored → source = some .anchored)) ∨
      ∃ new target, (new = .anchored → source = some .anchored) ∧
        s.transition a source g = s.enter a new target g none := by
  unfold State.transition
  split
  case h_1 ht | h_12 ht => exact .inl ⟨rfl, fun h => absurd (ht.symm.trans h) (by decide)⟩
  case h_2 => exact .inr ⟨.acquiring, _, nofun, rfl⟩
  case h_9 | h_10 | h_11 => exact .inr ⟨.alone, _, nofun, rfl⟩
  case h_3 ht =>
    split
    · exact .inl ⟨rfl, fun h => absurd (ht.symm.trans h) (by decide)⟩
    · exact .inr ⟨.acquiring, _, nofun, rfl⟩
  case h_4 =>
    split
    · exact .inr ⟨.alone, _, nofun, rfl⟩
    · exact .inr ⟨.free, _, nofun, rfl⟩
  all_goals
    split
    next here => exact .inl ⟨rfl, fun h => congrArg some (Target.eq_of_state_anchored (here.symm.trans h))⟩
    next =>
      split
      · exact .inr ⟨_, _, fun h => congrArg some (Target.eq_of_state_anchored h), rfl⟩
      · exact .inr ⟨.acquiring, _, nofun, rfl⟩

theorem transition_posts (s : State) (a : Option Lane) (source : Option Target) (g : Growth) :
    PostsAtMost 2 s (s.transition a source g) := by
  obtain ⟨h, -⟩ | ⟨new, target, -, h⟩ := transition_cases s a source g
  · exact .of_eq (by rw [h])
  · rw [h]; exact enter_posts s _ _ _ _ _

theorem reevaluate_posts (s : State) : PostsAtMost 2 s s.reevaluate := by
  unfold State.reevaluate
  split
  · exact transition_posts s _ _ _
  · exact .of_eq rfl

/-! ## Changes of reference state (R24, R32, R36) -/

/-- A change of reference state that does not leave QUALIFIED is all that happens (R24, R143). -/
theorem setRefState_stays (s : State) (x : RefState) (h : s.ref.state ≠ .qualified ∨ x = .qualified) :
    s.setRefState x = { s with ref.state := x } :=
  if_neg fun ⟨hs, hx⟩ => h.elim (absurd hs) (absurd · hx)

/-- A change that leaves QUALIFIED makes the solver re-evaluate (R143). -/
theorem setRefState_leaves (s : State) (x : RefState) (h : s.ref.state = .qualified) (hx : x ≠ .qualified) :
    s.setRefState x = State.reevaluate { s with ref.state := x } :=
  if_pos ⟨h, hx⟩

theorem setRefState_ref (s : State) (x : RefState) : (s.setRefState x).ref = { s.ref with state := x } := by
  by_cases h : s.ref.state = .qualified ∧ x ≠ .qualified
  · rw [setRefState_leaves s x h.1 h.2, (reevaluate_keeps _).2.1]
  · rw [setRefState_stays s x (by tauto)]

theorem setRefState_posts (s : State) (x : RefState) : PostsAtMost 2 s (s.setRefState x) := by
  by_cases h : s.ref.state = .qualified ∧ x ≠ .qualified
  · rw [setRefState_leaves s x h.1 h.2]
    exact reevaluate_posts _
  · rw [setRefState_stays s x (by tauto)]
    exact .of_eq rfl

/-- The state in which the loss of the reference is told to the solver: emptied, with REF_LOST posted (R32, R36). -/
def State.refEmptied (cause : LossCause) (s : State) : State :=
  { s with
    ref := { s.ref with ring := [], outliers := [], probCount := 0, missCount := 0 }
    port.outbox := s.port.outbox ++
      [⟨.qualifier, s.ts.epoch, .refLost, none, some (signed32 cause.code), none⟩] }

theorem loseRef_eq (s : State) (c : LossCause) : s.loseRef c = (s.refEmptied c).setRefState .absent := rfl

theorem loseRef_ref (s : State) (c : LossCause) :
    (s.loseRef c).ref =
      { s.ref with state := .absent, ring := [], outliers := [], probCount := 0, missCount := 0 } := by
  rw [loseRef_eq, setRefState_ref]
  rfl

theorem loseRef_posted (s : State) (c : LossCause) :
    (⟨.qualifier, s.ts.epoch, .refLost, none, some (signed32 c.code), none⟩ : Posting) ∈ (s.loseRef c).port.outbox := by
  rw [loseRef_eq]
  exact (setRefState_posts _ _).mem (by simp [State.refEmptied])

/-- Qualification never leaves QUALIFIED, and so is all that happens (R28). -/
theorem qualify_eq (s : State) (r : Int) :
    s.qualify r = { s with
      ref := { s.ref with state := .qualified, missCount := 0, outliers := [] }
      port.outbox := s.port.outbox ++
        [⟨.qualifier, s.ts.epoch, .refQualified, none, some (signed32 (Int.tdiv r 16)), none⟩] } :=
  setRefState_stays _ _ (.inr rfl)

end Sys2Proof.Machine

/-! # Probation, outliers and the close of an interval (R26 to R28, R31 to R33) -/

namespace Sys2Proof.Machine

open Sys2Proof

/-! ## Probation (R26, R28) -/

section Probation

variable {s : State} {e : RefEntry}

/-- The ring that an edge of PROBATION leaves (R26). -/
def State.probationRing (e : RefEntry) (s : State) : List RefEntry :=
  if s.ref.record.accepted then s.ref.ring.dropLast ++ [e] else appendBounded 16 s.ref.ring e

/-- The count that an edge of PROBATION leaves (R26). -/
def State.probationCounted (e : RefEntry) (s : State) : Nat :=
  if s.ref.record.accepted then 1 else probationCount (s.probationRing e) s.ref.probCount

/-- The edge of PROBATION taken, before the count is judged (R26). -/
def State.probationTaken (e : RefEntry) (s : State) : State :=
  { s with ref := { s.ref with
      ring := s.probationRing e, probCount := s.probationCounted e
      record := { s.ref.record with accepted := true, offset := some e.r } } }

/-- An edge of PROBATION is taken, and qualifies where the count has reached Q (R26, R28). -/
theorem takeEdge_probation (h : s.ref.state = .probation) :
    s.takeEdge e = if s.cfg.qualCount ≤ s.probationCounted e then (s.probationTaken e).qualify e.r
      else s.probationTaken e := by
  have edge : s.takeEdge e = s.probationEdge e := by unfold State.takeEdge; rw [h]
  rw [edge]
  cases ha : s.ref.record.accepted <;>
    simp [State.probationEdge, State.probationTaken, State.probationCounted, State.probationRing, ha,
      IntervalRecord.take, State.cfg]

theorem appendBounded_reverse_ne_nil {α : Type} (n : Nat) (xs : List α) (x : α) :
    (appendBounded (n + 1) xs x).reverse ≠ [] := by
  simp [appendBounded]

/-- The count as the rules of R26 word it: a second edge of one interval counts afresh; else by the newest entries. -/
theorem probationCounted_eq {count : Nat} (again : s.ref.record.accepted = true → count = 1)
    (first : s.ref.record.accepted = false →
      (∀ e3 e2 e1 older, (s.probationRing e).reverse = e3 :: e2 :: e1 :: older →
        count = if (fold (e3.u - e2.u) - fold (e2.u - e1.u)).natAbs ≤ ns 1000
          then min 64 (s.ref.probCount + 1) else 1) ∧
      (∀ e2 e1, (s.probationRing e).reverse = [e2, e1] → count = 2) ∧
      (∀ e1, (s.probationRing e).reverse = [e1] → count = s.ref.probCount)) :
    count = s.probationCounted e := by
  unfold State.probationCounted
  cases ha : s.ref.record.accepted with
  | true => exact again ha
  | false =>
    obtain ⟨three, two, one⟩ := first ha
    rw [if_neg Bool.false_ne_true, probationCount]
    split
    next e3 e2 e1 older h => exact three e3 e2 e1 older h
    next e2 e1 h => exact two e2 e1 h
    next longer pair =>
      match h : (s.probationRing e).reverse with
      | [] =>
        have ring : s.probationRing e = appendBounded 16 s.ref.ring e := by simp [State.probationRing, ha]
        exact absurd (ring ▸ h) (appendBounded_reverse_ne_nil 15 _ _)
      | [e1] => exact one e1 h
      | [e2, e1] => exact absurd h (pair e2 e1)
      | e3 :: e2 :: e1 :: older => exact absurd h (longer e3 e2 e1 older)

end Probation

/-! ## Outliers (R31, R33) -/

section Outliers

variable {s : State} {e : RefEntry}

/-- An outlier replaces one of its own interval, and else is appended (R31). -/
theorem placeOutlier_eq {xs ys : List RefEntry}
    (same : ∀ last, xs.getLast? = some last → last.index = e.index → ys = xs.dropLast ++ [e])
    (other : (∀ last, xs.getLast? = some last → last.index ≠ e.index) → ys = appendBounded 3 xs e) :
    placeOutlier xs e = ys := by
  unfold placeOutlier
  split
  next last h =>
    split
    next hi => exact (same last h hi).symm
    next hi =>
      refine (other fun last' h' => ?_).symm
      rwa [← Option.some.inj (h.symm.trans h')]
  next h =>
    rw [other (by simp [h]), List.getLast?_eq_none_iff.1 h]
    rfl

theorem agrees_iff (x y : RefEntry) : agrees x y = true ↔ (fold (x.u - y.u)).natAbs ≤ ns 1000 :=
  decide_eq_true_iff

/-- Three outliers that agree in pairs (R31). -/
theorem threeAgree_eq_some_iff (xs : List RefEntry) (a b c : RefEntry) :
    threeAgree xs = some (a, b, c) ↔
      xs = [a, b, c] ∧ agrees a b = true ∧ agrees b c = true ∧ agrees a c = true := by
  unfold threeAgree
  split
  next x y z =>
    simp only [Option.ite_none_right_eq_some, Option.some.injEq, Prod.mk.injEq, Bool.and_eq_true, List.cons.injEq,
      and_true]
    constructor
    · rintro ⟨⟨⟨hxy, hyz⟩, hxz⟩, rfl, rfl, rfl⟩; exact ⟨⟨rfl, rfl, rfl⟩, hxy, hyz, hxz⟩
    · rintro ⟨⟨rfl, rfl, rfl⟩, hxy, hyz, hxz⟩; exact ⟨⟨⟨hxy, hyz⟩, hxz⟩, rfl, rfl, rfl⟩
  next h =>
    simp only [reduceCtorEq, false_iff]
    rintro ⟨rfl, -⟩
    exact h a b c rfl

/-- The outlier counted as a miss and listed, before the list and the count are judged (R31). -/
def State.outlierListed (e : RefEntry) (s : State) : State :=
  { s with ref := { s.ref with
      missCount := min 16 (s.ref.missCount + 1), outliers := placeOutlier s.ref.outliers e
      record := { s.ref.record with accepted := true, outlierSeen := true } } }

theorem takeOutlier_eq :
    s.takeOutlier e = match threeAgree (placeOutlier s.ref.outliers e) with
      | some (a, b, c) => (s.outlierListed e).refStepped a b c
      | none => if s.cfg.missLimit ≤ min 16 (s.ref.missCount + 1) then (s.outlierListed e).loseRef .misses
        else s.outlierListed e := rfl

/-- A step of the reference starts a probation of its own (R33). -/
theorem refStepped_ref (a b c : RefEntry) :
    (s.refStepped a b c).ref = { s.ref with
      state := .probation, ring := [a, b, c], outliers := [], missCount := 0
      probCount := if (fold (c.u - b.u) - fold (b.u - a.u)).natAbs ≤ ns 1000 then 3 else 1
      record := { s.ref.record with accepted := true, offset := some c.r } } := by
  unfold State.refStepped
  rw [setRefState_ref]
  rfl

theorem refStepped_posted (a b c : RefEntry) :
    (⟨.qualifier, s.ts.epoch, .refStep, none, some (signed32 (Int.tdiv c.r 16)), none⟩ : Posting) ∈
      (s.refStepped a b c).port.outbox := by
  unfold State.refStepped
  exact (setRefState_posts _ _).mem (by simp [State.postInt, State.post, toNs])

end Outliers

/-! ## The close of an interval (R27, R32) -/

section Close

variable {s : State}

theorem closeByState_absent (h : s.ref.state = .absent) : s.closeByState = s := by
  simp [State.closeByState, h]

theorem closeByState_probation (h : s.ref.state = .probation) :
    s.closeByState = if s.ref.record.accepted then s
      else { s with ref := { s.ref with state := .absent, ring := [], probCount := 0 } } := by
  simp only [State.closeByState, h]
  rw [setRefState_stays _ _ (.inl (by simp))]

/-- The misses after the close of an interval in QUALIFIED or DISPUTED (R32). -/
def RefUnit.missesAtClose (r : RefUnit) : Nat := if r.record.accepted then r.missCount else min 16 (r.missCount + 1)

/-- The interval closed in QUALIFIED or DISPUTED, before the misses are judged (R32). -/
def State.trackedClosed (s : State) : State :=
  { s with ref := { s.ref with
      missCount := s.ref.missesAtClose
      outliers := if s.ref.record.outlierSeen then s.ref.outliers else [] } }

theorem closeByState_tracked (h : s.ref.state = .qualified ∨ s.ref.state = .disputed) :
    s.closeByState = if s.cfg.missLimit ≤ s.ref.missesAtClose then s.trackedClosed.loseRef .misses
      else s.trackedClosed := by
  have tracked : s.closeByState = s.closeTracked := by
    unfold State.closeByState
    obtain h | h := h <;> rw [h]
  rw [tracked]
  rfl

end Close

/-- Settles O33: an edge of PROBATION, an outlier and the close of an interval each by the lemma that gives its
branches. -/
theorem referenceIsQualifiedSteppedOrLost : Obligations.ReferenceIsQualifiedSteppedOrLost := by
  refine ⟨fun s e ring count hs again first counted => ?_, fun s e outliers hs same other => ?_, fun s => ?_⟩
  · have ringEq : ring = s.probationRing e := by
      unfold State.probationRing
      split
      next ha => exact (again ha).1
      next ha => exact first (Bool.eq_false_iff.2 ha)
    subst ringEq
    have countEq := probationCounted_eq (e := e) (fun ha => (again ha).2) counted
    subst countEq
    intro v
    rw [takeEdge_probation hs]
    refine ⟨fun h => if_neg (Nat.not_le.2 h), fun h => ?_⟩
    rw [if_pos h, qualify_eq]
    rfl
  · have placed : placeOutlier s.ref.outliers e = outliers := placeOutlier_eq same other
    intro miss near three t
    have none_agree (h : ¬ three) : threeAgree (placeOutlier s.ref.outliers e) = none := by
      rw [placed, Option.eq_none_iff_forall_ne_some]
      rintro ⟨a, b, c⟩ h'
      obtain ⟨ho, hab, hbc, hac⟩ := (threeAgree_eq_some_iff _ a b c).1 h'
      exact h ⟨a, b, c, ho, (agrees_iff a b).1 hab, (agrees_iff b c).1 hbc, (agrees_iff a c).1 hac⟩
    have listed : (s.outlierListed e).ref = { s.ref with
        missCount := miss, outliers := outliers
        record := { s.ref.record with accepted := true, outlierSeen := true } } := by
      rw [← placed]; rfl
    have taken : t = _ := takeOutlier_eq
    refine ⟨fun h hm => ?_, fun h hm => ?_, fun a b c ho hab hbc hac => ?_⟩
    · rw [taken, none_agree h, ← placed]
      exact if_neg (Nat.not_le.2 hm)
    · have lost : t = (s.outlierListed e).loseRef .misses := by
        rw [taken, none_agree h]
        exact if_pos hm
      rw [lost]
      exact ⟨by rw [loseRef_ref, listed], loseRef_posted _ .misses⟩
    · have agree : threeAgree (placeOutlier s.ref.outliers e) = some (a, b, c) := by
        rw [placed, threeAgree_eq_some_iff, agrees_iff, agrees_iff, agrees_iff]
        exact ⟨ho, hab, hbc, hac⟩
      have stepped : t = (s.outlierListed e).refStepped a b c := by rw [taken, agree]
      rw [stepped]
      exact ⟨by rw [refStepped_ref, listed], refStepped_posted a b c⟩
  · intro t miss
    refine ⟨fun h => ?_, fun h ha => ?_, fun h hm => ?_, fun h hm => ?_⟩
    · obtain h | ⟨h, ha⟩ := h
      · exact closeByState_absent h
      · exact (closeByState_probation h).trans (if_pos ha)
    · exact (closeByState_probation h).trans (if_neg (by simp [ha]))
    · exact (closeByState_tracked h).trans (if_neg (Nat.not_le.2 hm))
    · have lost : t = s.trackedClosed.loseRef .misses := (closeByState_tracked h).trans (if_pos hm)
      rw [lost]
      exact ⟨loseRef_ref _ _, loseRef_posted _ .misses⟩

end Sys2Proof.Machine

/-! # REFIN: transitions, candidates, captures and blanking (R19 to R31) -/

namespace Sys2Proof.Machine

open Sys2Proof

/-! ## A transition (R19 to R21) -/

theorem refWorks_iff (s : State) : s.refWorks = true ↔ s.begun = true ∧ s.cfg.refFitted = true := by
  simp [State.refWorks]

@[simp] theorem advance_cfg (s : State) (d : Nat) : (s.advance d).cfg = s.cfg := by simp [State.cfg]

@[simp] theorem advance_begun (s : State) (d : Nat) : (s.advance d).begun = s.begun := by simp [State.begun]

/-- Time ages a candidate, and neither makes nor drops one (R20). -/
@[simp] theorem advance_ref_candidate_none (s : State) (d : Nat) :
    (s.advance d).ref.candidate = none ↔ s.ref.candidate = none := by
  unfold State.advance
  split
  · simp [State.setTau, State.age, RefUnit.age]
  · rfl

theorem selects_iff (cfg : Settings) (rising : Bool) :
    cfg.selects (if rising then .high else .low) = true ↔ rising = !cfg.edgeFalling := by
  cases rising <;> simp [Settings.selects]

theorem blanked_iff (r : RefUnit) : r.blanked = true ↔ r.blanking.getD 0 ≠ 0 := by
  unfold RefUnit.blanked
  cases r.blanking <;> simp [Nat.pos_iff_ne_zero]

/-- A selected transition may become the candidate (R20, R21). -/
def RefUnit.free (r : RefUnit) : Prop := r.blanking.getD 0 = 0 ∧ r.candidate = none

section Transition

variable {s : State}

theorem free_iff (r : RefUnit) : r.free ↔ (r.blanked || r.candidate.isSome) = false := by
  rw [RefUnit.free, Bool.or_eq_false_iff, Option.isSome_eq_false_iff, Option.isNone_iff_eq_none,
    ← Bool.not_eq_true, blanked_iff, not_not]

theorem selectedTransition_not_free (h : ¬ s.ref.free) : s.selectedTransition = s := by
  rw [free_iff, Bool.not_eq_false] at h
  exact if_pos h

theorem selectedTransition_free (h : s.ref.free) :
    s.selectedTransition = if s.cfg.debounce = .none then s.acceptEdge ⟨s.stampNow, s.tallyNow, 0⟩
      else { s with ref.candidate := some ⟨s.stampNow, s.tallyNow, 0⟩ } :=
  if_neg (by rw [(free_iff _).1 h]; exact Bool.false_ne_true)

/-- What a change of REFIN to `l` comes to, REFIN not being at that level (R19, R20). -/
theorem refinTaken_other {l : Level} (h : s.pins.refin ≠ l) :
    let w : State := { s with pins.refin := l }
    (s.refWorks = false → s.refinTaken l = w) ∧
    (s.refWorks = true → s.cfg.selects l = false → s.refinTaken l = { w with ref.candidate := none }) ∧
    (s.refWorks = true → s.cfg.selects l = true → s.refinTaken l = w.selectedTransition) := by
  intro w
  have works : w.refWorks = s.refWorks := rfl
  have selects : w.cfg.selects l = s.cfg.selects l := rfl
  have taken : s.refinTaken l = if !w.refWorks then w else if w.cfg.selects l then w.selectedTransition
      else { w with ref.candidate := none } := if_neg h
  rw [taken, works, selects]
  refine ⟨fun hw => ?_, fun hw hs => ?_, fun hw hs => ?_⟩
  · simp [hw]
  · simp [hw, hs]
  · simp [hw, hs]

end Transition

/-- A transition of REFIN while the clock runs (R19). -/
theorem exec_refinTransition_running {s : State} (dt : Nat) (rising : Bool) (h : s.pins.oscRunning = true) :
    exec (.refinTransition dt rising) s = .next (State.settle
      ({ s.advance dt with pins.refinPin := if rising then .high else .low }.refinTaken
        (if rising then .high else .low))) := by
  show execRefinTransition dt rising s = _
  rw [execRefinTransition_eq, if_pos h]

/-! ## An accepted edge (R20, R21, R23, R25) -/

section Accept

variable {s : State} {c : RefCandidate}

theorem exec_refinEdgeAccepted_due {c0 : RefCandidate} (h0 : s.ref.candidate = some c0)
    (hd : s.dueWithin (s.cfg.debounce.ticks - c0.age) = true)
    (h : (s.runTo (s.ts.sitePhase + (s.cfg.debounce.ticks - c0.age))).ref.candidate = some c) :
    exec .refinEdgeAccepted s =
      .next ((s.runTo (s.ts.sitePhase + (s.cfg.debounce.ticks - c0.age))).acceptEdge c).settle := by
  show execRefinEdgeAccepted s = _
  have due : s.toAcceptance = some (s.cfg.debounce.ticks - c0.age) := by simp [State.toAcceptance, h0]
  rw [execRefinEdgeAccepted, due, atExpiry_due _ _ _ hd, State.candidateAccepted, h]

/-- The state in which an accepted edge is offered to the rule of the reference state: blanking runs from its
transition (R21). -/
def State.edgeAccepted (c : RefCandidate) (s : State) : State :=
  { s with ref := { s.ref with candidate := none, blanking := some (ns 500000000 - c.age) } }

/-- In ABSENT an edge counts for nothing while REFVALID, where it is used, stands deasserted (R25). -/
theorem acceptEdge_invalid (ha : s.ref.state = .absent) (hu : s.cfg.useRefvalid = true)
    (hv : s.pins.refvalid = false) : s.acceptEdge c = { s with ref.candidate := none } := by
  have dropped : (decide (s.ref.state = .absent) && s.cfg.useRefvalid && !s.pins.refvalid) = true := by
    simp [ha, hu, hv]
  exact if_pos dropped

theorem acceptEdge_valid (h : s.ref.state ≠ .absent ∨ s.cfg.useRefvalid = false ∨ s.pins.refvalid = true) :
    s.acceptEdge c = (s.edgeAccepted c).takeEdge (s.capture c) := by
  refine if_neg fun hc => ?_
  simp only [Bool.and_eq_true, decide_eq_true_eq, Bool.not_eq_true'] at hc
  obtain ⟨⟨ha, hu⟩, hv⟩ := hc
  change s.cfg.useRefvalid = true at hu
  obtain h | h | h := h
  · exact h ha
  · exact Bool.false_ne_true (h.symm.trans hu)
  · exact Bool.false_ne_true (hv.symm.trans h)

end Accept

/-! ## Tracking (R25, R29 to R31) -/

section Track

variable {s : State} {e : RefEntry}

/-- An edge accepted in ABSENT starts probation (R25). -/
theorem takeEdge_absent (h : s.ref.state = .absent) :
    s.takeEdge e = { s with ref := { s.ref with
      state := .probation, ring := [e], probCount := 1, missCount := 0, outliers := []
      record := { s.ref.record with accepted := true, offset := some e.r } } } := by
  have start : s.takeEdge e = s.startProbation e := by unfold State.takeEdge; rw [h]
  rw [start, State.startProbation, setRefState_stays _ _ (.inl (by simp [h]))]
  rfl

theorem takeEdge_tracked (h : s.ref.state = .qualified ∨ s.ref.state = .disputed) :
    s.takeEdge e = s.trackEdge e := by
  unfold State.takeEdge
  obtain h | h := h <;> rw [h]

/-- An edge against a prediction: taken in the window around it, an outlier beyond (R29 to R31). -/
theorem trackEdge_predicted {p : Int} {w : State} (h : s.predict = (some p, w)) :
    ((fold (e.u - p)).natAbs ≤ ns (1000 * w.cfg.halfWidth) → s.trackEdge e = w.takePulse e) ∧
    (ns (1000 * w.cfg.halfWidth) < (fold (e.u - p)).natAbs → s.trackEdge e = w.takeOutlier e) := by
  have tracked : s.trackEdge e = if w.cfg.inWindow e.u (some p) then w.takePulse e else w.takeOutlier e := by
    simp [State.trackEdge, h]
  have window : w.cfg.inWindow e.u (some p) = true ↔ (fold (e.u - p)).natAbs ≤ ns (1000 * w.cfg.halfWidth) :=
    decide_eq_true_iff
  rw [tracked]
  exact ⟨fun hp => if_pos (window.2 hp), fun hp => if_neg fun hw => absurd (window.1 hw) (Nat.not_le.2 hp)⟩

section Predict

variable {e1 e0 : RefEntry} {rest : List RefEntry} (hr : s.ref.ring.reverse = e1 :: e0 :: rest)
include hr

/-- The prediction by the two newest entries of different intervals (R29). -/
theorem predict_rated (hi : e1.index ≠ e0.index) :
    s.predict = (some (predictOffset e1 (Int.tdiv (fold (e1.u - e0.u)) ((e1.index - e0.index).toNat : Int))
      s.ref.interval), s) := by
  simp only [State.predict, hr, rateOf, hi, if_false]
  rfl

/-- Two entries of one interval fix no rate: it is a free value (log entry 32). -/
theorem predict_unrated (hi : e1.index = e0.index) :
    ∃ rate, s.predict = (some (predictOffset e1 rate s.ref.interval), { s with freeCount := s.freeCount + 1 }) := by
  refine ⟨fold (Config.freeChoice s.freeCount), ?_⟩
  simp only [State.predict, hr, rateOf, hi, if_true]
  rfl

end Predict

end Track

/-- A transition of REFIN while the clock runs, by what the qualifier makes of it (R19, R20). -/
theorem refinTransition_cases (s : State) (dt : Nat) (rising : Bool) (hosc : s.pins.oscRunning = true)
    (hl : s.pins.refin ≠ if rising then .high else .low) :
    let level : Level := if rising then .high else .low
    let v : State := { s.advance dt with pins.refin := level, pins.refinPin := level }
    let works := s.begun = true ∧ s.cfg.refFitted = true
    (¬ works → exec (.refinTransition dt rising) s = .next v.settle) ∧
    (works → ¬ rising = !s.cfg.edgeFalling →
      exec (.refinTransition dt rising) s = .next (State.settle { v with ref.candidate := none })) ∧
    (works → rising = !s.cfg.edgeFalling → exec (.refinTransition dt rising) s = .next v.selectedTransition.settle) := by
  intro level v works
  let p : State := { s.advance dt with pins.refinPin := level }
  have other : p.pins.refin ≠ level := by simpa [p] using hl
  obtain ⟨inert, unselected, selected⟩ := refinTaken_other other
  have working : p.refWorks = true ↔ works := by
    have same : p.refWorks = s.refWorks := by
      show (s.advance dt).refWorks = s.refWorks
      simp [State.refWorks]
    rw [same, refWorks_iff]
  have selects : p.cfg.selects level = true ↔ rising = !s.cfg.edgeFalling := by
    have same : p.cfg = s.cfg := advance_cfg s dt
    rw [same, selects_iff]
  rw [exec_refinTransition_running dt rising hosc]
  refine ⟨fun hw => ?_, fun hw hs => ?_, fun hw hs => ?_⟩
  · exact congrArg (fun t => Host.Outcome.next (State.settle t)) (inert (Bool.eq_false_iff.2 (mt working.1 hw)))
  · exact congrArg (fun t => Host.Outcome.next (State.settle t))
      (unselected (working.2 hw) (Bool.eq_false_iff.2 (mt selects.1 hs)))
  · exact congrArg (fun t => Host.Outcome.next (State.settle t)) (selected (working.2 hw) (selects.2 hs))

/-- Settles O32: a transition by `refinTransition_cases`, an accepted edge by the rule of the reference state that
`acceptEdge` offers it to, with the prediction worked out once for a ring that fixes a rate and once for one that does
not. -/
theorem referenceEdgesAreDebouncedAndCaptured : Obligations.ReferenceEdgesAreDebouncedAndCaptured := by
  refine ⟨fun s dt rising => ?_, fun s c0 c h0 hd hb => ?_, fun s n hn hd => ?_⟩
  · intro u level v same works selected free
    have settled {t : State} (ht : t.port = s.port) (hb : s.port.outbox = []) : t.settle = t :=
      settle_nil t (by rw [ht, hb])
    have freed : v.ref.free ↔ free := and_congr_right fun _ => advance_ref_candidate_none s dt
    have port : v.port = s.port := advance_port s dt
    have cfg : v.cfg = s.cfg := advance_cfg s dt
    refine ⟨fun hosc hb hl => ?_, fun hosc hb hl hw => ?_, fun hosc hb hl hw hs => ?_, fun hosc hb hl hw hs hf => ?_,
      fun hosc hb hl hw hs hf hd => ?_, fun hosc hl hw hs hf hd => ?_⟩
    · rw [exec_refinTransition_running dt rising hosc, refinTaken_same, settled _ hb]
      · exact advance_port s dt
      · simpa using hl
    all_goals obtain ⟨inert, unselected, taken⟩ := refinTransition_cases s dt rising hosc hl
    · rw [inert hw, settled port hb]
    · exact (unselected hw hs).trans (congrArg Host.Outcome.next (settled port hb))
    · rw [taken hw hs, selectedTransition_not_free (mt freed.1 hf)]
      exact congrArg Host.Outcome.next (settled port hb)
    · rw [taken hw hs, selectedTransition_free (freed.2 hf), cfg, if_neg hd]
      exact congrArg Host.Outcome.next (settled port hb)
    · rw [taken hw hs, selectedTransition_free (freed.2 hf), cfg, if_pos hd]
  · intro u hc r e v
    have port {t : State} (ht : t.port = s.port) : t.settle = t := settle_nil t (by rw [ht, hb])
    rw [exec_refinEdgeAccepted_due h0 hd hc]
    have valid (h : s.ref.state ≠ .absent ∨ s.cfg.useRefvalid = false ∨ s.pins.refvalid = true) :
        u.acceptEdge c = v.takeEdge e := acceptEdge_valid h
    have tracked (h : s.ref.state = .qualified ∨ s.ref.state = .disputed) : u.acceptEdge c = v.trackEdge e := by
      rw [valid (.inl (by obtain h | h := h <;> simp [h])), takeEdge_tracked (s := v) h]
    refine ⟨fun ha hu hv => ?_, fun ha hv => ?_, fun e1 e0 rest hs hr hi => ?_, fun e1 e0 rest hs hr hi => ?_,
      fun e1 e0 rest hs hr hi => ?_, fun hp => ?_⟩
    · rw [acceptEdge_invalid (s := u) ha hu hv]
      exact congrArg Host.Outcome.next (port rfl)
    · rw [valid (.inr hv), takeEdge_absent (s := v) ha]
      exact congrArg Host.Outcome.next (port rfl)
    · intro rate p hp
      rw [tracked hs, (trackEdge_predicted (predict_rated (s := v) hr hi)).1 hp]
      exact congrArg Host.Outcome.next (port rfl)
    · intro rate p hp
      rw [tracked hs, (trackEdge_predicted (predict_rated (s := v) hr hi)).2 hp]
    · obtain ⟨rate, predicted⟩ := predict_unrated (s := v) hr hi
      refine ⟨rate, fun hp => ?_, fun hp => ?_⟩
      · rw [tracked hs, (trackEdge_predicted predicted).1 hp]
        exact congrArg Host.Outcome.next (port rfl)
      · rw [tracked hs, (trackEdge_predicted predicted).2 hp]
        rfl
    · rw [valid (.inl (by simp [hp]))]
  · show Host.Outcome.next (s.atExpiry s.ref.blanking _) = _
    rw [hn, atExpiry_due _ _ _ hd]

end Sys2Proof.Machine

/-! # The loss of REFVALID (R36, R126, R143) -/

namespace Sys2Proof.Machine

open Sys2Proof

/-! ## Every event posted is stored where the queue has room for all (R189) -/

/-- The record of a posting, its sequence number apart. -/
def EventRecord.tells (r : EventRecord) (p : Posting) : Prop :=
  r.epoch = p.epoch ∧ r.kind = p.kind ∧ r.subject = p.subject ∧ r.value = p.value

theorem find_or_mem_dropFirst {p : Posting} {ps : List Posting} (lane : Lane) (h : p ∈ ps) :
    ps.find? (fun q => q.lane = lane) = some p ∨ p ∈ dropFirst lane ps := by
  induction ps with
  | nil => exact absurd h List.not_mem_nil
  | cons q qs ih =>
    by_cases hq : q.lane = lane
    · obtain rfl | h := List.mem_cons.1 h
      · exact .inl (by simp [hq])
      · exact .inr (by simpa [dropFirst, hq] using h)
    · obtain rfl | h := List.mem_cons.1 h
      · exact .inr (by simp [dropFirst, hq])
      · simpa [dropFirst, hq] using (ih h).imp_right .inr

/-- The posting taken next leaves the others behind. -/
theorem nextPosting_or_left {p q : Posting} {ps : List Posting} (s : State) (h : p ∈ q :: ps) :
    (s.nextPosting q ps).1 = p ∨ p ∈ (s.nextPosting q ps).2.1 := by
  unfold State.nextPosting
  split
  next => exact (List.mem_cons.1 h).imp_left Eq.symm
  next l ls _ =>
    refine (find_or_mem_dropFirst _ h).imp_left fun found => ?_
    show Option.getD _ q = p
    rw [found]
    rfl

theorem offer_queue_keeps {r : EventRecord} {k : Nat} (s : State) (p : Posting) (h : r ∈ s.port.queue.drop k) :
    r ∈ (s.offer p).port.queue.drop k := by
  unfold State.offer
  split
  · simp only [List.drop_append, List.mem_append]
    exact .inl h
  · exact h

theorem settleLoop_queue_keeps {r : EventRecord} {k : Nat} (n : Nat) (s : State) (h : r ∈ s.port.queue.drop k) :
    r ∈ (settleLoop n s).port.queue.drop k := by
  induction n generalizing s with
  | zero => exact h
  | succ n ih =>
    cases ho : s.port.outbox with
    | nil => rw [settleLoop, ho]; exact h
    | cons p ps =>
      rw [settleLoop_cons n s p ps ho]
      exact ih _ (offer_queue_keeps _ _ (by simpa using h))

theorem offer_record {k : Nat} (s : State) (p : Posting) (room : s.port.queue.length < 32)
    (hk : k ≤ s.port.queue.length) : ∃ r ∈ (s.offer p).port.queue.drop k, r.tells p := by
  rw [offer_stores s p room]
  refine ⟨⟨s.port.nextSeq, p.epoch, p.kind, p.subject, p.value⟩, ?_, rfl, rfl, rfl, rfl⟩
  simp [List.drop_append, Nat.sub_eq_zero_of_le hk]

theorem offer_queue_length (s : State) (p : Posting) (room : s.port.queue.length < 32) :
    (s.offer p).port.queue.length = s.port.queue.length + 1 := by
  rw [offer_stores s p room]
  simp

theorem settleLoop_stores {k : Nat} (n : Nat) (s : State) (hn : s.port.outbox.length ≤ n)
    (room : s.port.queue.length + s.port.outbox.length ≤ 32) (hk : k ≤ s.port.queue.length)
    {p : Posting} (hp : p ∈ s.port.outbox) : ∃ r ∈ (settleLoop n s).port.queue.drop k, r.tells p := by
  induction n generalizing s with
  | zero => simp [List.length_eq_zero_iff.1 (Nat.le_zero.1 hn)] at hp
  | succ n ih =>
    cases ho : s.port.outbox with
    | nil => simp [ho] at hp
    | cons q ps =>
      rw [ho] at hn room hp
      rw [List.length_cons] at hn room
      rw [settleLoop_cons n s q ps ho]
      have len := nextPosting_length q ps s
      let w : State := { (s.nextPosting q ps).2.2 with port.outbox := (s.nextPosting q ps).2.1 }
      have queue : w.port.queue = s.port.queue := by simp [w]
      have space : w.port.queue.length < 32 := by rw [queue]; omega
      have stored := offer_queue_length w (s.nextPosting q ps).1 space
      have outbox : (w.offer (s.nextPosting q ps).1).port.outbox = (s.nextPosting q ps).2.1 := offer_port_outbox _ _
      obtain taken | left := nextPosting_or_left s hp
      · obtain ⟨r, hr, tells⟩ := offer_record w (s.nextPosting q ps).1 space (queue ▸ hk)
        exact ⟨r, settleLoop_queue_keeps n _ hr, taken ▸ tells⟩
      · refine ih (w.offer (s.nextPosting q ps).1) ?_ ?_ ?_ (outbox ▸ left)
        · rw [outbox]; omega
        · rw [outbox, stored, queue]; omega
        · rw [stored, queue]; omega

/-- Where the queue has room for all that is posted, each event is stored, after the records that stood there. -/
theorem settle_stores {s : State} (room : s.port.queue.length + s.port.outbox.length ≤ 32) {p : Posting}
    (hp : p ∈ s.port.outbox) : ∃ r ∈ s.settle.port.queue.drop s.port.queue.length, r.tells p :=
  settleLoop_stores _ s (Nat.le_refl _) room (Nat.le_refl _) hp

/-- Two events alone, the second bound to follow the first's block, are stored in their order (R143). -/
theorem settle_pair (s : State) {l l' : Lane} {k k' : EventKind} {j j' : Option NodeId} {v v' : Option (BitVec 32)}
    {e e' : Epoch} (h : s.port.outbox = []) (he : e = s.ts.epoch) (he' : e' = s.ts.epoch) :
    State.settle { s with port.outbox := [⟨l, e, k, j, v, none⟩, ⟨l', e', k', j', v', some l⟩] } =
      (s.stored k j v).stored k' j' v' := by
  subst he he'
  rw [settle_bound _ _ _ rfl rfl, State.stored, State.stored, offer_ts]
  dsimp only
  rw [← h]
  rfl

/-! ## Re-evaluation without the reference (R126, R143) -/

theorem sourceOf_unqualified (member anchored peer : Bool) : sourceOf false member anchored peer ≠ some .anchored := by
  unfold sourceOf
  cases member <;> cases anchored <;> cases peer <;> simp

/-- Without the reference for its source the solver does not end ANCHORED (R126, R143). -/
theorem transition_not_anchored (s : State) (a : Option Lane) (g : Growth) {source : Option Target}
    (h : source ≠ some .anchored) : (s.transition a source g).solver.timing ≠ .anchored := by
  obtain ⟨same, anchored⟩ | ⟨new, target, anchored, entered⟩ := transition_cases s a source g
  · rw [same]
    exact mt anchored h
  · have timing : (s.enter a new target g none).solver.timing = new := by simp
    rw [entered, timing]
    exact mt anchored h

theorem reevaluate_not_anchored (s : State) : s.reevaluate.solver.timing ≠ .anchored := by
  unfold State.reevaluate
  split
  · exact transition_not_anchored s _ _ (sourceOf_unqualified _ _ _)
  next h =>
    intro ht
    exact h (by simp [Solver.relies, ht])

theorem relies_iff (v : Solver) : v.relies = true ↔
    v.timing = .anchored ∨ (v.timing = .acquiring ∧ v.target = some .anchored) := by
  simp [Solver.relies]

theorem reevaluate_idle {s : State} (h : ¬ s.solver.relies = true) : s.reevaluate = s := if_neg h

/-- The IDs of a set but the node's own. -/
def othersThan (own : NodeId) (ids : List NodeId) : List NodeId := ids.filter (fun k => k ≠ own)

theorem filter_bne_eq (own : NodeId) (ids : List NodeId) : ids.filter (· != own) = othersThan own ids :=
  List.filter_congr fun k _ => by simp [bne, beq_eq_decide]

/-- The source priority on the last sets, the reference not QUALIFIED (R125, R143). -/
def State.sourceLeft (s : State) : Option Target :=
  sourceOf false (decide (s.mem.state = .member)) (!(othersThan s.mem.nodeId s.solver.lastA).isEmpty)
    (!(othersThan s.mem.nodeId s.solver.lastC).isEmpty)

/-- The growth of the last candidate set (R137, R143). -/
def State.growthLeft (s : State) : Growth :=
  growthOf (decide (s.mem.state = .member)) s.cfg.cls (s.classesOf (othersThan s.mem.nodeId s.solver.lastC))

/-- A solver that relied on the reference applies the transition rule to the source left, and hands over (R143). -/
theorem reevaluate_relies {s : State} (h : s.solver.relies = true) :
    s.reevaluate = (s.transition (some .qualifier) s.sourceLeft s.growthLeft).handOver
      (s.transition (some .qualifier) s.sourceLeft s.growthLeft).solver.steerF 0 := by
  unfold State.reevaluate
  rw [if_pos h]
  simp only [filter_bne_eq]
  rfl

/-- From ANCHORED an anchored source left leads to BORROWING, with time-valid unbroken (R120, R126). -/
theorem transition_to_borrowing (s : State) (a : Option Lane) (g : Growth) (ht : s.solver.timing = .anchored)
    (hv : s.solver.timeValid = true) :
    s.transition a (some .borrowing) g = { s with
      solver := { s.solver with
        timing := .borrowing, target := none, stateHeld := 0, overBudget := false, validTime := true }
      port.outbox := s.port.outbox ++ [⟨.solver, s.ts.epoch, .stateChange, none, some 3, a⟩] } := by
  have entered : s.transition a (some .borrowing) g = s.enter a .borrowing none g none := by
    simp [State.transition, ht, hv, Target.state]
  rw [entered]
  unfold State.enter State.refreshTimeValid
  simp only [timeValidOf, TimingState.holdover, Bool.and_false, State.postAfter, hv, if_true]
  rfl

/-! ## REFVALID at its pin (R19, R36) -/

theorem exec_refvalid_running {s : State} (dt : Nat) (h : s.pins.oscRunning = true) :
    exec (.refvalidAssert dt) s =
      .next (State.settle ({ s.advance dt with pins.refvalidPin := true }.refvalidTaken true)) ∧
    exec (.refvalidDeassert dt) s =
      .next (State.settle ({ s.advance dt with pins.refvalidPin := false }.refvalidTaken false)) := by
  constructor
  · show execRefvalidAssert dt s = _
    rw [execRefvalidAssert, refvalidPinBecomes_eq, if_pos h]
  · show execRefvalidDeassert dt s = _
    rw [execRefvalidDeassert, refvalidPinBecomes_eq, if_pos h]

/-- An assertion has no effect of its own (R36). -/
theorem refvalidTaken_true (s : State) : s.refvalidTaken true = { s with pins.refvalid := true } := by
  unfold State.refvalidTaken
  split
  next h => rw [← h]
  next => rfl

/-- Nor has a deassertion while REFVALID is not used, or the reference ABSENT (R36). -/
theorem refvalidTaken_false_idle (s : State)
    (h : ¬ (s.begun = true ∧ s.cfg.refFitted = true ∧ s.cfg.useRefvalid = true) ∨ s.ref.state = .absent) :
    s.refvalidTaken false = { s with pins.refvalid := false } := by
  unfold State.refvalidTaken State.refvalidLost
  split
  next h => rw [← h]
  next =>
    dsimp only
    split
    next hc =>
      have used : s.begun = true ∧ s.cfg.refFitted = true ∧ s.cfg.useRefvalid = true := by
        simpa [State.refWorks, State.begun, State.cfg, and_assoc] using hc
      exact if_pos (h.resolve_left (not_not.2 used))
    next => rfl

/-- A deassertion of REFVALID where it is used loses the reference, its offset with it (R36). -/
theorem refvalidTaken_false_lost (s : State) (hp : s.pins.refvalid = true)
    (hu : s.begun = true ∧ s.cfg.refFitted = true ∧ s.cfg.useRefvalid = true) (hs : s.ref.state ≠ .absent) :
    s.refvalidTaken false = State.loseRef .refvalid { s with
      pins.refvalid := false
      ref.record := { s.ref.record with offset := none } } := by
  obtain ⟨hb, hf, hr⟩ := hu
  have hc : (!false && (s.begun && s.cfg.refFitted) && s.cfg.useRefvalid) = true := by simp [hb, hf, hr]
  unfold State.refvalidTaken State.refvalidLost
  rw [if_neg (by simp [hp])]
  exact (if_pos hc).trans (if_neg hs)

/-- The loss of REFVALID with REF_LOST posted, before the solver is told of it (R36). -/
def State.refvalidGone (s : State) : State :=
  { s with
    pins := { s.pins with refvalid := false, refvalidPin := false }
    ref := { s.ref with
      state := .absent, ring := [], outliers := [], probCount := 0, missCount := 0
      record := { s.ref.record with offset := none } }
    port.outbox := [⟨.qualifier, s.ts.epoch, .refLost, none, some 1, none⟩] }

/-- A deassertion of REFVALID that loses the reference: the solver is told where it was QUALIFIED (R24, R36). -/
theorem exec_refvalidDeassert_lost {s : State} (dt : Nat) (hosc : s.pins.oscRunning = true) (hb : s.port.outbox = [])
    (hp : s.pins.refvalid = true) (hu : s.begun = true ∧ s.cfg.refFitted = true ∧ s.cfg.useRefvalid = true)
    (hs : s.ref.state ≠ .absent) :
    exec (.refvalidDeassert dt) s = .next (State.settle
      (if s.ref.state = .qualified then (s.advance dt).refvalidGone.reevaluate else (s.advance dt).refvalidGone)) := by
  let w : State := { s.advance dt with pins.refvalidPin := false }
  have state : w.ref.state = s.ref.state := advance_ref_state s dt
  have used : w.begun = true ∧ w.cfg.refFitted = true ∧ w.cfg.useRefvalid = true := by
    show (s.advance dt).begun = true ∧ (s.advance dt).cfg.refFitted = true ∧ (s.advance dt).cfg.useRefvalid = true
    simpa using hu
  let x : State := State.refEmptied .refvalid { w with
    pins.refvalid := false, ref.record := { w.ref.record with offset := none } }
  have emptied : { x with ref.state := .absent } = (s.advance dt).refvalidGone := by
    simp only [x, State.refEmptied, State.refvalidGone, w, advance_port, hb, List.nil_append]
    rfl
  have told : x.setRefState .absent =
      if s.ref.state = .qualified then (s.advance dt).refvalidGone.reevaluate else (s.advance dt).refvalidGone := by
    split
    next h => exact (setRefState_leaves x _ (state.trans h) (by decide)).trans (congrArg State.reevaluate emptied)
    next h => exact (setRefState_stays x _ (.inl fun h' => h (state.symm.trans h'))).trans emptied
  rw [(exec_refvalid_running dt hosc).2, refvalidTaken_false_lost w (by simpa [w] using hp) used (state ▸ hs),
    loseRef_eq, ← told]

/-- The loss alone: REF_LOST is stored (R36). -/
theorem refvalidGone_settle (u : State) :
    u.refvalidGone.settle = { u.refvalidGone with port.outbox := [] }.stored .refLost none (some 1) :=
  settle_single u.refvalidGone ⟨.qualifier, u.ts.epoch, .refLost, none, some 1, none⟩ rfl

/-- With the reference QUALIFIED the solver goes on without it: REF_LOST is stored, among at most three events (R36,
R143). -/
theorem refvalidGone_told (u : State) :
    let t := u.refvalidGone.reevaluate.settle
    t.ref = u.refvalidGone.ref ∧ t.solver.timing ≠ .anchored ∧ t.pins = u.refvalidGone.pins ∧ t.mem = u.mem ∧
    t.mark = u.mark ∧ t.frame = u.frame ∧ t.roster = u.roster ∧
    (u.port.queue.length + 3 ≤ 32 → ∃ r ∈ t.port.queue.drop u.port.queue.length,
      r.tells ⟨.qualifier, u.ts.epoch, .refLost, none, some 1, none⟩) := by
  intro t
  obtain ⟨pins, ref, mark, frame, mem, roster, -, -, -, -, -, -, -, -, -, -, -, -, -, queue, -⟩ :=
    reevaluate_keeps u.refvalidGone
  refine ⟨?_, ?_, ?_, ?_, ?_, ?_, ?_, fun room => ?_⟩
  · rw [settle_ref, ref]
  · rw [settle_solver]; exact reevaluate_not_anchored _
  · rw [settle_pins, pins]
  · rw [settle_mem, mem]; rfl
  · rw [settle_mark, mark]; rfl
  · rw [settle_frame, frame]; rfl
  · rw [settle_roster, roster]; rfl
  · have posts := reevaluate_posts u.refvalidGone
    have few : u.refvalidGone.reevaluate.port.outbox.length ≤ 3 := posts.length_le
    have same : u.refvalidGone.reevaluate.port.queue = u.port.queue := queue
    rw [← same]
    exact settle_stores (by rw [same]; omega) (posts.mem (by simp [State.refvalidGone]))

/-- What the loss leaves of the last sets is what they were (R143). -/
theorem refvalidGone_left (s : State) (dt : Nat) :
    (s.advance dt).refvalidGone.sourceLeft = s.sourceLeft ∧ (s.advance dt).refvalidGone.growthLeft = s.growthLeft := by
  constructor
  · simp only [State.sourceLeft, State.refvalidGone, advance_mem_state, advance_mem_nodeId, advance_solver]
  · simp only [State.growthLeft, State.refvalidGone, State.classesOf, State.cfg, advance_mem_state,
      advance_mem_nodeId, advance_solver, advance_roster, advance_port]

/-- From ANCHORED to BORROWING at the loss: REF_LOST is stored, then STATE_CHANGE, and F is handed over with a slew of 0
(R126, R143). -/
theorem lost_to_borrowing_settle (s : State) (g : Growth) {e : Epoch} (hb : s.port.outbox = [])
    (he : e = s.ts.epoch) (ht : s.solver.timing = .anchored) (hv : s.solver.timeValid = true) :
    let w := State.transition (some .qualifier) (some .borrowing) g
      { s with port.outbox := [⟨.qualifier, e, .refLost, none, some 1, none⟩] }
    State.settle { w with ts.pendF := some (clampPpt w.solver.steerF), ts.pendC := some 0 } =
      (State.stored .refLost none (some 1) { s with
        solver := { s.solver with
          timing := .borrowing, target := none, stateHeld := 0, overBudget := false, validTime := true }
        ts.pendF := some (clampPpt s.solver.steerF)
        ts.pendC := some 0 }).stored .stateChange none (some 3) := by
  intro w
  have borrowed : w = _ := transition_to_borrowing
    { s with port.outbox := [⟨.qualifier, e, .refLost, none, some 1, none⟩] } (some .qualifier) g ht hv
  rw [borrowed]
  exact settle_pair { s with
      solver := { s.solver with
        timing := .borrowing, target := none, stateHeld := 0, overBudget := false, validTime := true }
      ts.pendF := some (clampPpt s.solver.steerF)
      ts.pendC := some 0 }
    (l := .qualifier) (l' := .solver) (k := .refLost) (k' := .stateChange) (j := none) (j' := none) (v := some 1)
    (v' := some 3) hb he rfl

/-! ## The statement -/

/-- Settles O34: the loss is posted, then the solver is told of it, and the branches are those of `reevaluate`. -/
theorem refvalidLossMakesTheReferenceAbsent : Obligations.RefvalidLossMakesTheReferenceAbsent := by
  intro s dt u used hosc hb
  obtain ⟨asserted, deasserted⟩ := exec_refvalid_running dt hosc
  have port : u.port = s.port := advance_port s dt
  have settled {t : State} (ht : t.port = s.port) : t.settle = t := settle_nil t (by rw [ht, hb])
  have usedAdvanced : (u.begun = true ∧ u.cfg.refFitted = true ∧ u.cfg.useRefvalid = true) ↔ used := by
    simp only [u, advance_begun, advance_cfg, used]
  have refState : u.ref.state = s.ref.state := advance_ref_state s dt
  refine ⟨?_, fun hp => ?_, fun hp h => ?_, fun hp hu hs => ?_⟩
  · rw [asserted, refvalidTaken_true]
    exact congrArg Host.Outcome.next (settled port)
  · rw [deasserted, refvalidTaken_same _ _ (by simpa using hp)]
    exact congrArg Host.Outcome.next (settled port)
  · have idle := refvalidTaken_false_idle { u with pins.refvalidPin := false }
      (h.imp (mt usedAdvanced.1) (refState.trans ·))
    rw [deasserted, idle]
    exact congrArg Host.Outcome.next (settled port)
  · intro v
    have gone : u.refvalidGone =
        { v with port.outbox := [⟨.qualifier, s.ts.epoch, .refLost, none, some 1, none⟩] } := by
      simp [State.refvalidGone, v, u]
    have emptied : { u.refvalidGone with port.outbox := [] } = v := by
      have outbox : v.port.outbox = [] := port ▸ hb
      rw [gone, ← outbox]
    have stored : u.refvalidGone.settle = v.stored .refLost none (some 1) := by
      rw [refvalidGone_settle, emptied]
    rw [exec_refvalidDeassert_lost dt hosc hb hp hu hs]
    refine ⟨fun hq => ?_, fun hq => ?_, ?_⟩
    · rw [if_neg hq, stored]
    · rw [if_pos hq]
      obtain ⟨ref, timing, pins, mem, mark, frame, roster, record⟩ := refvalidGone_told u
      rw [port] at record
      refine ⟨_, rfl, ref.trans (by rw [gone]), timing, pins.trans (by rw [gone]), mem, mark, frame, roster, fun room => ?_⟩
      obtain ⟨r, hr, epoch, tells⟩ := record room
      exact ⟨r, hr, epoch.trans (advance_ts_epoch s dt), tells⟩
    · intro relies others member source growth w
      have relying : u.refvalidGone.solver.relies = true ↔ relies := by
        show u.solver.relies = true ↔ _
        rw [advance_solver, relies_iff]
      have told (h : relies) : u.refvalidGone.reevaluate =
          { w with ts.pendF := some (clampPpt w.solver.steerF), ts.pendC := some 0 } := by
        have transited : u.refvalidGone.transition (some .qualifier) u.refvalidGone.sourceLeft
            u.refvalidGone.growthLeft = w := by
          rw [(refvalidGone_left s dt).1, (refvalidGone_left s dt).2, gone]
          rfl
        rw [reevaluate_relies (relying.2 h), transited]
        rfl
      refine ⟨fun hq h => ?_, fun hq h => ?_, fun hq ht hv hm hA => ?_⟩
      · rw [if_pos hq, reevaluate_idle (mt relying.1 h), stored]
      · rw [if_pos hq, told h]
      · have borrows : source = some .borrowing := by
          have nonempty : (others s.solver.lastA).isEmpty = false := List.isEmpty_eq_false_iff.2 hA
          simp [source, sourceOf, member, hm, nonempty]
        have settle := lost_to_borrowing_settle v growth (e := s.ts.epoch) ((congrArg Port.outbox port).trans hb)
          (advance_ts_epoch s dt).symm ((congrArg Solver.timing (advance_solver s dt)).trans ht)
          ((congrArg Solver.timeValid (advance_solver s dt)).trans hv)
        have steer : v.solver.steerF = s.solver.steerF := congrArg Solver.steerF (advance_solver s dt)
        rw [← borrows] at settle
        rw [if_pos hq, told (.inl ht), ← steer]
        exact congrArg Host.Outcome.next settle

end Sys2Proof.Machine

/-! # The solve point (R24, R105, R121 to R125, R136, R138, R146, R152) -/

namespace Sys2Proof.Machine

open Sys2Proof

/-! ## What the steps of the solve leave alone -/

/-- What no step of the solve moves: the pins, the line units, the membership, the interval in progress, the die samples
and the time. -/
structure SolveKeeps (s t : State) : Prop where
  pins : t.pins = s.pins
  mem : t.mem = s.mem
  mark : t.mark = s.mark
  frame : t.frame = s.frame
  interval : t.ref.interval = s.ref.interval
  record : t.ref.record = s.ref.record
  samples : t.temp.samples = s.temp.samples
  epoch : t.ts.epoch = s.ts.epoch
  phase : t.ts.sitePhase = s.ts.sitePhase

namespace SolveKeeps

variable {s t u : State}

theorem refl (s : State) : SolveKeeps s s := ⟨rfl, rfl, rfl, rfl, rfl, rfl, rfl, rfl, rfl⟩

theorem trans (h : SolveKeeps s t) (h' : SolveKeeps t u) : SolveKeeps s u :=
  ⟨h'.pins.trans h.pins, h'.mem.trans h.mem, h'.mark.trans h.mark, h'.frame.trans h.frame,
    h'.interval.trans h.interval, h'.record.trans h.record, h'.samples.trans h.samples, h'.epoch.trans h.epoch,
    h'.phase.trans h.phase⟩

end SolveKeeps

/-- Steps that write in the solver, the roster, the port, and the reference state alone. -/
theorem solveKeeps_of_written (s : State) (v : Solver) (x : RefState) (p : Port) (r : Roster) :
    SolveKeeps s { s with solver := v, ref.state := x, port := p, roster := r } :=
  ⟨rfl, rfl, rfl, rfl, rfl, rfl, rfl, rfl, rfl⟩

/-- Steps 1 and 2 of the solve as one record (R121, R123, R124). -/
theorem solveOpens_eq (s : State) (v : SolveView) :
    let own : Bool → List NodeId := fun stands => if stands then [s.mem.nodeId] else []
    s.solveOpens v = { s with
      solver := { s.solver with
        validTime := if s.ts.stepBegan then false else s.solver.validTime
        lockCount := if s.ts.stepBegan then 0 else s.solver.lockCount
        lastC := own v.member ++ v.peers.map (·.id)
        lastA := own v.ownAnchored ++ v.anchors.map (·.id) } } := by
  intro own
  have ids (stands : Bool) (peers : List Peer) :
      idsOf s.mem.nodeId stands peers = own stands ++ peers.map (·.id) := by
    cases stands <;> rfl
  rw [← ids, ← ids]
  unfold State.solveOpens
  cases s.ts.stepBegan <;> rfl

theorem solveOpens_keeps (s : State) (v : SolveView) : SolveKeeps s (s.solveOpens v) := by
  unfold State.solveOpens
  dsimp only
  split <;> exact solveKeeps_of_written s _ _ _ _

theorem endDispute_keeps (s : State) : SolveKeeps s s.endDispute := by
  unfold State.endDispute State.requestUndisputed
  split <;> exact solveKeeps_of_written s _ _ _ _

theorem countUndispute_keeps (s : State) : SolveKeeps s s.countUndispute := by
  unfold State.countUndispute
  dsimp only
  split
  · exact endDispute_keeps s
  · exact solveKeeps_of_written s _ _ _ _

theorem judgeUndispute_keeps (s : State) (v : SolveView) : SolveKeeps s (s.judgeUndispute v) := by
  by_cases hd : s.ref.state = .disputed
  · by_cases hv : v.anchors = []
    · rw [judgeUndispute_alone hd hv]
      exact endDispute_keeps s
    · cases ho : v.offset with
      | none =>
        rw [judgeUndispute_unmeasured hd hv ho]
        exact .refl s
      | some r =>
        rw [judgeUndispute_measured hd hv ho]
        split
        · exact countUndispute_keeps s
        · exact solveKeeps_of_written s _ _ _ _
  · rw [judgeUndispute_undisputed hd]
    exact solveKeeps_of_written s _ _ _ _

theorem enter_solveKeeps (s : State) (a : Option Lane) (t : TimingState) (target : Option Target) (g : Growth)
    (b : Option Nat) : SolveKeeps s (s.enter a t target g b) := by
  obtain ⟨pins, ts, ref, mark, frame, mem, -, -, samples, -⟩ := enter_keeps s a t target g b
  exact ⟨pins, mem, mark, frame, by rw [ref], by rw [ref], samples, by rw [ts], by rw [ts]⟩

theorem applySource_keeps (s : State) (v : SolveView) : SolveKeeps s (s.applySource v) := by
  unfold State.applySource
  obtain ⟨h, -⟩ | ⟨new, target, -, h⟩ := transition_cases s none
    (sourceOf (decide (s.ref.state = .qualified)) v.member (!v.anchors.isEmpty) (!v.peers.isEmpty)) (s.solveGrowth v)
  · rw [h]; exact .refl s
  · rw [h]; exact enter_solveKeeps s _ _ _ _ _

theorem dispute_keeps (s : State) (v : SolveView) : SolveKeeps s (s.dispute v) := by
  by_cases h : s.ref.state = .qualified
  · rw [dispute_qualified h]
    exact (solveKeeps_of_written s _ _ _ _).trans (applySource_keeps _ v)
  · rw [dispute_refused h]
    exact (solveKeeps_of_written s _ _ _ _).trans (applySource_keeps _ v)

theorem judgeDispute_keeps (s : State) (v : SolveView) : SolveKeeps s (s.judgeDispute v) := by
  by_cases ht : v.tested
  · cases ho : v.offset with
    | none =>
      rw [judgeDispute_unmeasured ht ho]
      exact .refl s
    | some r =>
      rw [judgeDispute_measured ht ho]
      split
      · exact solveKeeps_of_written s _ _ _ _
      · split
        · exact dispute_keeps s v
        · exact solveKeeps_of_written s _ _ _ _
  · rw [judgeDispute_untested ht]
    exact solveKeeps_of_written s _ _ _ _

theorem judgeSplit_keeps (s : State) (v : SolveView) : SolveKeeps s (s.judgeSplit v) := by
  unfold State.judgeSplit
  split
  · exact solveKeeps_of_written s _ _ _ _
  · split
    · exact solveKeeps_of_written s _ _ _ _
    · split <;> exact solveKeeps_of_written s _ _ _ _

theorem judgeAnchors_keeps (s : State) (v : SolveView) : SolveKeeps s (s.judgeAnchors v) := by
  unfold State.judgeAnchors
  split
  · exact (judgeSplit_keeps s v).trans (judgeDispute_keeps _ v)
  · exact solveKeeps_of_written s _ _ _ _

theorem settleSource_keeps (s : State) (v : SolveView) : SolveKeeps s (s.settleSource v) :=
  ((judgeUndispute_keeps s v).trans (applySource_keeps _ v)).trans (judgeAnchors_keeps _ v)

theorem judgeSelf_keeps (s : State) (p : PhaseError) : SolveKeeps s (s.judgeSelf p) := by
  unfold State.judgeSelf
  split
  · exact solveKeeps_of_written s _ _ _ _
  · split <;> exact solveKeeps_of_written s _ _ _ _

theorem judgeLock_keeps (s : State) (v : SolveView) (e : Int) : SolveKeeps s (s.judgeLock v e) := by
  have locked (n : Nat) : SolveKeeps s (State.lock v { s with solver.lockCount := n }) := by
    unfold State.lock
    split
    · exact (solveKeeps_of_written s _ _ _ _).trans (enter_solveKeeps _ _ _ _ _ _)
    · exact solveKeeps_of_written s _ _ _ _
  unfold State.judgeLock
  dsimp only
  split
  · split
    · exact locked _
    · exact solveKeeps_of_written s _ _ _ _
  · exact solveKeeps_of_written s _ _ _ _

theorem correctF_keeps (s : State) (e : Int) : SolveKeeps s (s.correctF e) := by
  unfold State.correctF
  dsimp only
  split <;> exact solveKeeps_of_written s _ _ _ _

theorem requestStep_solveKeeps (s : State) (x : Int) : SolveKeeps s (s.requestStep x) := by
  unfold State.requestStep
  split
  · exact .refl s
  · exact ⟨rfl, rfl, rfl, rfl, rfl, rfl, rfl, rfl, rfl⟩

theorem steer_keeps (s : State) (v : SolveView) (p : PhaseError) : SolveKeeps s (s.steer v p).2 := by
  unfold State.steer
  split
  next =>
    dsimp only
    split <;> exact solveKeeps_of_written s _ _ _ _
  next e _ =>
    dsimp only
    have recorded : SolveKeeps s { s with solver.lastE := some e } := solveKeeps_of_written s _ _ _ _
    split
    · exact (solveKeeps_of_written s _ _ _ _).trans (requestStep_solveKeeps _ _)
    · dsimp only
      split
      · exact (recorded.trans (correctF_keeps _ e)).trans (judgeLock_keeps _ v e)
      · exact recorded.trans (correctF_keeps _ e)

theorem setBound_keeps (s : State) (v : SolveView) (p : PhaseError) : SolveKeeps s (s.setBound v p) := by
  unfold State.setBound
  split <;> exact solveKeeps_of_written s _ _ _ _

theorem judgeBudget_solveKeeps (s : State) : SolveKeeps s s.judgeBudget := by
  unfold State.judgeBudget
  split <;> exact solveKeeps_of_written s _ _ _ _

theorem refreshTimeValid_solveKeeps (s : State) : SolveKeeps s s.refreshTimeValid := by
  obtain ⟨pins, ts, ref, mark, frame, mem, -, temp, -⟩ := refreshTimeValid_keeps s
  exact ⟨pins, mem, mark, frame, by rw [ref], by rw [ref], by rw [temp], by rw [ts], by rw [ts]⟩

theorem updateBound_keeps (s : State) (v : SolveView) (p : PhaseError) : SolveKeeps s (s.updateBound v p) := by
  unfold State.updateBound
  split
  · exact ((solveKeeps_of_written s _ _ _ _).trans (judgeBudget_solveKeeps _)).trans (refreshTimeValid_solveKeeps _)
  · exact setBound_keeps s v p

/-! ## The hand-over (R146, R152) -/

/-- The state as it is handed over, the state-held count raised (R120, R146). -/
def State.handed (c : Int) (s : State) : State :=
  { s with
    solver.stateHeld := min 65535 (s.solver.stateHeld + 1)
    ts.pendF := some (clampPpt s.solver.steerF)
    ts.pendC := some (clampInt (-32000) 32000 c) }

section HandResults

variable (s : State) (c : Int) (verdicts : NodeId → Verdict)

theorem handResults_eq : s.handResults c verdicts =
    State.tempHandOver ((s.handed c).rosterComplete verdicts).solver.steerF c
      (((s.handed c).rosterComplete verdicts).cfg.slewLimit ((s.handed c).rosterComplete verdicts).solver.timing)
      ((s.handed c).rosterComplete verdicts) := rfl

/-- The completion of the exchange moves no item of the solver that the hand-over reads, and nothing of the temperature
unit (R105). -/
theorem rosterComplete_reads (u : State) :
    (u.rosterComplete verdicts).solver.steerF = u.solver.steerF ∧
    (u.rosterComplete verdicts).solver.timing = u.solver.timing ∧
    (u.rosterComplete verdicts).solver.stateHeld = u.solver.stateHeld ∧
    (u.rosterComplete verdicts).solver.bound = u.solver.bound ∧
    (u.rosterComplete verdicts).temp = u.temp ∧ (u.rosterComplete verdicts).mem = u.mem ∧
    (u.rosterComplete verdicts).cfg = u.cfg ∧ (u.rosterComplete verdicts).ts.stepBegan = u.ts.stepBegan ∧
    (u.rosterComplete verdicts).ts.pendF = u.ts.pendF ∧ (u.rosterComplete verdicts).ts.pendC = u.ts.pendC := by
  obtain ⟨r, lastC, lastA, ps, adopt, h⟩ := rosterComplete_shape u verdicts
  rw [h]
  exact ⟨rfl, rfl, rfl, rfl, rfl, rfl, rfl, rfl, rfl, rfl⟩

/-- The hand-over is the completion of the exchange and the temperature unit's work (R146). -/
theorem handResults_shape : s.handResults c verdicts =
    { (s.handed c).rosterComplete verdicts with temp := (s.handResults c verdicts).temp } := by
  obtain ⟨table, h⟩ := tempHandOver_shape ((s.handed c).rosterComplete verdicts)
    ((s.handed c).rosterComplete verdicts).solver.steerF c
    (((s.handed c).rosterComplete verdicts).cfg.slewLimit ((s.handed c).rosterComplete verdicts).solver.timing)
  rw [handResults_eq, h]

theorem handResults_temp_fields :
    (s.handResults c verdicts).temp.lastF = s.solver.steerF ∧
    (s.handResults c verdicts).temp.samples = s.temp.samples := by
  obtain ⟨steerF, -, -, -, temp, -⟩ := rosterComplete_reads verdicts (s.handed c)
  obtain ⟨table, h⟩ := tempHandOver_shape ((s.handed c).rosterComplete verdicts)
    ((s.handed c).rosterComplete verdicts).solver.steerF c
    (((s.handed c).rosterComplete verdicts).cfg.slewLimit ((s.handed c).rosterComplete verdicts).solver.timing)
  have samples := congrArg TempUnit.samples temp
  rw [handResults_eq, h]
  exact ⟨steerF, samples⟩

theorem handResults_keeps : SolveKeeps s (s.handResults c verdicts) := by
  obtain ⟨r, lastC, lastA, ps, adopt, h⟩ := rosterComplete_shape (s.handed c) verdicts
  have samples := (handResults_temp_fields s c verdicts).2
  rw [handResults_shape, h]
  exact ⟨rfl, rfl, rfl, rfl, rfl, rfl, samples, rfl, rfl⟩

end HandResults

/-! ## Learning (R149, R152) -/

/-- The conditions on the solve under which F is learned (R152). -/
@[reducible] def State.settledFor (c limit : Int) (s : State) : Prop :=
  (s.solver.timing = .anchored ∨ s.solver.timing = .borrowing) ∧ 16 ≤ s.solver.stateHeld ∧
    (c.natAbs : Int) < limit ∧ s.ts.stepBegan = false ∧ s.mem.supplyIsLow = false

/-- The bin of a temperature in the table's range (R149). -/
theorem binOf_inRange {x : Int} (h : -800 ≤ x ∧ x ≤ 1759) : binOf x = ((x + 800) / 32).toNat := by
  unfold binOf clampInt
  rw [Int.fdiv_eq_ediv_of_nonneg _ (by decide)]
  omega

section TempHandOver

variable (s : State) (f c limit : Int)

theorem tempHandOver_absent (h : s.temp.mean = none) :
    (s.tempHandOver f c limit).temp = { s.temp with lastF := f } := by
  have absent : ({ s.temp with lastF := f } : TempUnit).mean = none := h
  simp only [State.tempHandOver, absent]

theorem tempHandOver_present {x : Int} (h : s.temp.mean = some x) :
    (s.settledFor c limit → -800 ≤ x ∧ x ≤ 1759 → (s.tempHandOver f c limit).temp = { s.temp with
      lastF := f
      table := s.temp.table.setIfInBounds ((x + 800) / 32).toNat ((s.temp.bin ((x + 800) / 32).toNat).learn f) }) ∧
    (¬ (s.settledFor c limit ∧ -800 ≤ x ∧ x ≤ 1759) →
      (s.tempHandOver f c limit).temp = { s.temp with lastF := f }) := by
  have present : ({ s.temp with lastF := f } : TempUnit).mean = some x := h
  have handed : s.tempHandOver f c limit =
      if s.settledFor c limit ∧ tempInRange x = true then { s with temp := { s.temp with
        lastF := f
        table := s.temp.table.setIfInBounds (binOf x) ((s.temp.bin (binOf x)).learn f) } }
      else { s with temp := { s.temp with lastF := f } } := by
    simp only [State.tempHandOver, present]
    rfl
  have range : tempInRange x = true ↔ -800 ≤ x ∧ x ≤ 1759 := decide_eq_true_iff
  rw [handed]
  refine ⟨fun hs hx => ?_, fun hn => ?_⟩
  · rw [if_pos ⟨hs, range.2 hx⟩, binOf_inRange hx]
  · rw [if_neg fun ⟨hs, hx⟩ => hn ⟨hs, range.1 hx⟩]

end TempHandOver

/-- The slew limit of the two states that learn (R131, R152). -/
theorem settledFor_slewLimit (s : State) (c : Int) :
    s.settledFor c (s.cfg.slewLimit s.solver.timing) ↔
      ((s.solver.timing = .anchored ∧ (c.natAbs : Int) < 16 * (s.cfg.slewAnchor : Int)) ∨
        (s.solver.timing = .borrowing ∧ (c.natAbs : Int) < 16 * (s.cfg.slewBorrow : Int))) ∧
      16 ≤ s.solver.stateHeld ∧ s.ts.stepBegan = false ∧ s.mem.supplyIsLow = false := by
  unfold State.settledFor
  cases s.solver.timing <;> simp [Settings.slewLimit, ns, and_left_comm]

/-! ## The bound set afresh (R136, R138) -/

theorem leastOf_eq_some {xs : List Nat} (h : xs ≠ []) : ∃ m ∈ xs, (∀ x ∈ xs, m ≤ x) ∧ leastOf xs = some m := by
  induction xs with
  | nil => exact absurd rfl h
  | cons x xs ih =>
    by_cases hx : xs = []
    · exact ⟨x, by simp, by simp [hx], by simp [leastOf, hx]⟩
    · obtain ⟨m, hm, least, eq⟩ := ih hx
      refine ⟨min x m, ?_, ?_, by simp [leastOf, eq]⟩
      · obtain h | h := min_choice x m <;> simp [h, hm]
      · intro y hy
        obtain rfl | hy := List.mem_cons.1 hy
        · exact min_le_left _ _
        · exact (min_le_right _ _).trans (least y hy)

theorem leastOf_map_mul (k : Nat) (xs : List Nat) : leastOf (xs.map (· * k)) = (leastOf xs).map (· * k) := by
  induction xs with
  | nil => rfl
  | cons x xs ih =>
    simp only [List.map_cons, leastOf, ih]
    cases leastOf xs with
    | none => rfl
    | some m => simp [Nat.mul_min_mul_right]

/-- The bounds that the anchored peers kept have declared (R136). -/
def SolveView.declaredBounds (v : SolveView) (kept : List NodeId) : List Nat :=
  (v.peers.filter (fun q => q.anchored && kept.contains q.id)).filterMap
    (fun q => q.declared.map (fun d : Declared => d.bound))

theorem bestBound_eq (v : SolveView) (kept : List NodeId) :
    bestBound v kept = ((leastOf (v.declaredBounds kept)).map (· * 4000000)).getD boundCeiling := by
  have filtered : v.anchors.filter (fun q => kept.contains q.id) =
      v.peers.filter (fun q => q.anchored && kept.contains q.id) := by
    rw [SolveView.anchors, List.filter_filter]
    exact List.filter_congr fun q _ => Bool.and_comm _ _
  have bounds : (v.anchors.filter (fun q => kept.contains q.id)).filterMap (fun q => q.declared.map Declared.boundFs) =
      (v.declaredBounds kept).map (· * 4000000) := by
    rw [filtered, SolveView.declaredBounds, List.map_filterMap]
    refine List.filterMap_congr fun q _ => ?_
    rw [Option.map_map]
    rfl
  rw [bestBound, bounds, leastOf_map_mul]

section UpdateBound

variable {s : State} (v : SolveView) (p : PhaseError)

theorem updateBound_not_holdover (h : s.solver.timing.holdover = false) : s.updateBound v p = s.setBound v p :=
  if_neg (by simp [h])

theorem updateBound_untimed (h : s.solver.timing = .free ∨ s.solver.timing = .acquiring) : s.updateBound v p = s := by
  rw [updateBound_not_holdover v p (by obtain h | h := h <;> rw [h] <;> rfl), State.setBound]
  obtain h | h := h <;> rw [h]

theorem updateBound_unformed (h : s.solver.timing = .anchored ∨ s.solver.timing = .borrowing) (he : p.e = none) :
    s.updateBound v p = s := by
  rw [updateBound_not_holdover v p (by obtain h | h := h <;> rw [h] <;> rfl), State.setBound, he]
  obtain h | h := h <;> rw [h]

theorem updateBound_anchored {e : Int} (h : s.solver.timing = .anchored) (he : p.e = some e) :
    s.updateBound v p = { s with
      solver.bound := min 1000000000000000 (s.cfg.refUncertainty * 1000000 + e.natAbs * 62500) } := by
  rw [updateBound_not_holdover v p (by rw [h]; rfl), State.setBound, h, he]
  rfl

theorem updateBound_borrowing {e : Int} (h : s.solver.timing = .borrowing) (he : p.e = some e) :
    s.updateBound v p = { s with
      solver.bound := min 1000000000000000 (bestBound v p.kept + 16000000 + e.natAbs * 62500) } := by
  rw [updateBound_not_holdover v p (by rw [h]; rfl), State.setBound, h, he]
  rfl

end UpdateBound

/-! ## The procedure (R24, R122) -/

theorem closeByState_interval (s : State) : s.closeByState.ref.interval = s.ref.interval := by
  cases h : s.ref.state
  case absent => rw [closeByState_absent h]
  case probation => rw [closeByState_probation h]; split <;> rfl
  case qualified => rw [closeByState_tracked (.inl h)]; split <;> simp [State.trackedClosed]
  case disputed => rw [closeByState_tracked (.inr h)]; split <;> simp [State.trackedClosed]

theorem sitePhase_congr {t u : Timescale} (base : t.base = u.base) (tau : t.tau = u.tau) (len : t.len = u.len)
    (f : t.f = u.f) (replay : t.replay = u.replay) : t.sitePhase = u.sitePhase := by
  simp only [Timescale.sitePhase, Timescale.phaseAfter, Timescale.rateNum, Timescale.rateDen, base, tau, len, f, replay]

/-- The solve point is the hand-over of a state that steps 1 to 8 have left as it was, but for the solver, the roster,
the reference state and what they post (R122). -/
theorem solvePoint_shape (s : State) : ∃ (u : State) (c : Int) (verdicts : NodeId → Verdict),
    SolveKeeps s.closeInterval.2 u ∧ s.solvePoint = u.handResults c verdicts := by
  let a := s.closeInterval.2.rosterMarks
  let v := a.solveView s.closeInterval.1
  let b := (a.solveOpens v).settleSource v
  let p := b.phaseError v
  let q := (b.judgeSelf p).steer v p
  refine ⟨q.2.updateBound v p, q.1, (b.judgeSelf p).verdictOn p, ?_, rfl⟩
  have marked : SolveKeeps s.closeInterval.2 a := solveKeeps_of_written s.closeInterval.2 _ _ _ _
  have settled : SolveKeeps s.closeInterval.2 b :=
    (marked.trans (solveOpens_keeps a v)).trans (settleSource_keeps _ v)
  have judged : SolveKeeps s.closeInterval.2 (b.judgeSelf p) := settled.trans (judgeSelf_keeps b p)
  exact (judged.trans (steer_keeps _ v p)).trans (updateBound_keeps _ v p)

/-- The flags and columns of the epoch are clear after the exchange (R105). -/
theorem clearEpoch_clear (r : Roster) :
    r.clearEpoch.openingMask = none ∧
    (∀ e ∈ r.clearEpoch.entries, e.received = .none ∧ e.marked = false ∧ e.sampled = false) ∧
    (∀ d ∈ r.clearEpoch.diffs, d.now = none) := by
  refine ⟨rfl, fun e he => ?_, fun d hd => ?_⟩
  · obtain ⟨x, -, rfl⟩ := List.mem_map.1 he
    exact ⟨rfl, rfl, rfl⟩
  · obtain ⟨x, -, rfl⟩ := List.mem_map.1 (List.mem_filter.1 hd).1
    rfl

/-- What the hand-over writes in the solver and the timescale unit (R3, R120, R146). -/
theorem handResults_writes (s : State) (c : Int) (verdicts : NodeId → Verdict) :
    let t := s.handResults c verdicts
    t.solver.stateHeld = min 65535 (s.solver.stateHeld + 1) ∧ t.solver.bound = s.solver.bound ∧
    t.solver.timing = s.solver.timing ∧ t.solver.steerF = s.solver.steerF ∧
    t.ts.pendF = some (clampPpt s.solver.steerF) ∧ t.ts.pendC = some (clampInt (-32000) 32000 c) := by
  obtain ⟨steerF, timing, stateHeld, bound, -, -, -, -, pendF, pendC⟩ := rosterComplete_reads verdicts (s.handed c)
  intro t
  have shape : t = { (s.handed c).rosterComplete verdicts with temp := t.temp } := handResults_shape s c verdicts
  rw [shape]
  exact ⟨stateHeld, bound, timing, steerF, pendF, pendC⟩

theorem handResults_roster (s : State) (c : Int) (verdicts : NodeId → Verdict) :
    (s.handResults c verdicts).roster = (((s.handed c).rosterAge verdicts).rosterNumbers).roster.clearEpoch := by
  rw [handResults_shape]
  rfl

/-- What the hand-over learns (R152). -/
theorem handResults_temp (s : State) (c : Int) (verdicts : NodeId → Verdict) :
    let settled := (s.handed c).settledFor c (s.cfg.slewLimit s.solver.timing)
    let t := s.handResults c verdicts
    (s.temp.mean = none → t.temp = { s.temp with lastF := s.solver.steerF }) ∧
    (∀ x, s.temp.mean = some x →
      (settled → -800 ≤ x ∧ x ≤ 1759 → t.temp = { s.temp with
        lastF := s.solver.steerF
        table := s.temp.table.setIfInBounds ((x + 800) / 32).toNat
          ((s.temp.bin ((x + 800) / 32).toNat).learn s.solver.steerF) }) ∧
      (¬ (settled ∧ -800 ≤ x ∧ x ≤ 1759) → t.temp = { s.temp with lastF := s.solver.steerF })) := by
  obtain ⟨steerF, timing, stateHeld, -, temp, mem, cfg, stepBegan, -⟩ := rosterComplete_reads verdicts (s.handed c)
  intro settled t
  have handed : t = _ := handResults_eq s c verdicts
  rw [steerF, timing, cfg] at handed
  have same : ((s.handed c).rosterComplete verdicts).settledFor c (s.cfg.slewLimit s.solver.timing) ↔ settled := by
    simp only [State.settledFor, timing, stateHeld, mem, stepBegan, settled]
  rw [handed]
  refine ⟨fun hx => ?_, fun x hx => ?_⟩
  · exact (tempHandOver_absent _ _ _ _ (temp ▸ hx)).trans (by rw [temp]; rfl)
  · obtain ⟨learns, otherwise⟩ := tempHandOver_present ((s.handed c).rosterComplete verdicts) s.solver.steerF c
      (s.cfg.slewLimit s.solver.timing) (x := x) (temp ▸ hx)
    rw [temp] at learns otherwise
    exact ⟨fun hs => learns (same.2 hs), fun hn => otherwise (mt (And.imp_left same.1) hn)⟩

/-! ## The statement -/

/-- SOLVE_POINT where it is due, before BEGIN and from BEGIN on (R122). -/
theorem exec_solvePoint_due {s : State} (h : s.pointDue .solve = true) :
    exec .solvePoint s = .next (State.settle (if s.begun then (s.raise .solve).solvePoint else s.raise .solve)) := by
  show execSolvePoint s = _
  rw [execSolvePoint, atPoint_due _ _ _ h]
  rfl

/-- What the solve point leaves, whatever the solve comes to (R24, R105, R120, R146, R152). -/
theorem solvePoint_leaves (s : State) :
    let t := s.solvePoint
    t.ref.interval = s.ref.interval + 1 ∧ t.ref.record = ⟨false, false, none⟩ ∧ t.roster.openingMask = none ∧
    (∀ e ∈ t.roster.entries, e.received = .none ∧ e.marked = false ∧ e.sampled = false) ∧
    (∀ d ∈ t.roster.diffs, d.now = none) ∧
    t.ts.pendF = some (clampPpt t.solver.steerF) ∧ t.ts.pendC.isSome = true ∧
    t.temp.lastF = t.solver.steerF ∧ t.temp.samples = s.temp.samples ∧
    1 ≤ t.solver.stateHeld ∧ t.solver.stateHeld ≤ 65535 ∧
    t.mem = s.mem ∧ t.mark = s.mark ∧ t.frame = s.frame ∧ t.pins = s.pins ∧
    t.ts.epoch = s.ts.epoch ∧ t.ts.sitePhase = s.ts.sitePhase := by
  intro t
  obtain ⟨u, c, verdicts, before, shape⟩ : ∃ u c verdicts,
      SolveKeeps s.closeInterval.2 u ∧ t = u.handResults c verdicts := solvePoint_shape s
  clear_value t
  have kept : SolveKeeps s.closeInterval.2 t := by
    rw [shape]
    exact before.trans (handResults_keeps u c verdicts)
  obtain ⟨pins, mark, frame, mem, -, -, samples, -, -, -, -, -, -, -, -, -, -, -, -, -, -, -, -, -, base, tau, len, epoch,
    f, -, -, -, -, replay, -⟩ := closeInterval_keeps s
  obtain ⟨held, -, -, steerF, pendF, pendC⟩ := handResults_writes u c verdicts
  have lastF := (handResults_temp_fields u c verdicts).1
  have interval : s.closeInterval.2.ref.interval = s.ref.interval + 1 := by
    rw [← closeByState_interval s]; rfl
  obtain ⟨mask, entries, diffs⟩ := clearEpoch_clear (((u.handed c).rosterAge verdicts).rosterNumbers).roster
  rw [← handResults_roster] at mask entries diffs
  rw [← shape] at held steerF pendF pendC lastF mask entries diffs
  refine ⟨kept.interval.trans interval, kept.record, mask, entries, diffs, ?_, ?_, ?_, kept.samples.trans samples, ?_, ?_,
    kept.mem.trans mem, kept.mark.trans mark, kept.frame.trans frame, kept.pins.trans pins, kept.epoch.trans epoch,
    kept.phase.trans (sitePhase_congr base tau len f replay)⟩
  · rw [steerF]; exact pendF
  · rw [pendC]; rfl
  · rw [steerF]; exact lastF
  · rw [held]; omega
  · rw [held]; omega

/-- Settles O35: what the solve point leaves by `solvePoint_leaves`, each of its steps by the equation that gives it, and
the hand-over by what it writes and what it learns. -/
theorem solvePointHandsItsResultsOver : Obligations.SolvePointHandsItsResultsOver := by
  refine ⟨fun s due => ?_, fun s => rfl, fun s r => ?_, fun s v => ?_, fun s v p => ?_, fun s c verdicts => ?_⟩
  · intro u
    have executed := exec_solvePoint_due due
    refine ⟨fun hb ho => ?_, fun hb => ?_, fun hb => ?_⟩
    · rw [executed, hb, settle_nil]
      · rfl
      · exact ho
    · rw [hb, if_pos rfl] at executed
      have left := solvePoint_leaves u
      generalize u.solvePoint = t at executed left
      refine ⟨_, executed, ?_⟩
      rw [settle_ref, settle_roster, settle_ts, settle_solver, settle_temp, settle_mem, settle_mark, settle_frame,
        settle_pins]
      exact left
    · intro r a v b p q
      rw [executed, hb, if_pos rfl]
      rfl
  · intro v
    refine ⟨rfl, decide_eq_true_iff, ?_, ?_⟩
    · simp [v, State.solveView]
    · simp [v, State.solveView, and_assoc]
  · intro own
    refine ⟨rfl, solveOpens_eq s v, rfl, rfl⟩
  · intro bounded declared
    refine ⟨updateBound_untimed v p, updateBound_unformed v p, fun e => updateBound_anchored v p,
      fun e h he hd => ?_⟩
    obtain ⟨d, hmem, least, found⟩ := leastOf_eq_some hd
    have best : bestBound v p.kept = d * 4000000 := by
      rw [bestBound_eq, show leastOf (v.declaredBounds p.kept) = some d from found]
      rfl
    exact ⟨d, hmem, least, (updateBound_borrowing v p h he).trans (by rw [best])⟩
  · intro held f settled t w
    obtain ⟨stateHeld, bound, timing, -, pendF, pendC⟩ := handResults_writes s c verdicts
    obtain ⟨absent, present⟩ := handResults_temp s c verdicts
    have settledIff : (s.handed c).settledFor c (s.cfg.slewLimit s.solver.timing) ↔ settled :=
      settledFor_slewLimit (s.handed c) c
    refine ⟨handResults_shape s c verdicts, stateHeld, bound, timing, pendF, pendC, fun x hx hs hl hu => ?_,
      fun x hx hn => ?_, absent⟩
    · exact (present x hx).1 (settledIff.2 hs) ⟨hl, hu⟩
    · refine (present x hx).2 fun ⟨hs, hl, hu⟩ => ?_
      obtain hn | hn | hn := hn
      · exact hn (settledIff.1 hs)
      · exact absurd hl (Int.not_le.2 hn)
      · exact absurd hu (Int.not_le.2 hn)

end Sys2Proof.Machine

/-! # Own mark, withdraw reasons and inhibited outputs (R40, R94, R173) -/

namespace Sys2Proof.Machine

open Sys2Proof

/-! ## What the three invariants read -/

/-- The own mark is driven in JOINING and MEMBER alone, and WITHDRAWN has a reason (R40, R94). -/
def Membership.Accords (x : Membership) (m : MarkUnit) : Prop :=
  (m.drive.isSome = true → x.state = .joining ∨ x.state = .member) ∧
  (x.state = .withdrawn → x.reasonCommand = true ∨ x.reasonSupply = true)

/-- No pulse is shown while inhibit is in force (R173). -/
def GenUnit.Hides (u : GenUnit) : Prop := u.inForce = true → ∀ i : Fin 4, (u.gens.get i).shows = false

/-- The three invariants together, said of the units that they read. -/
def Lawful (s : State) : Prop := s.mem.Accords s.mark ∧ s.gen.Hides

theorem lawful_iff (s : State) : Lawful s ↔ MarkDriveForm s ∧ WithdrawnForAReason s ∧ InhibitHidesPulses s :=
  and_assoc

/-- Every command that leaves the membership, the mark unit and the generators alone leaves the invariants standing. -/
theorem Lawful.of_same {s t : State} (h : Lawful s) (mark : t.mark = s.mark) (mem : t.mem = s.mem)
    (gen : t.gen = s.gen) : Lawful t := by
  unfold Lawful
  rw [mark, mem, gen]
  exact h

/-- Work on the membership and the mark unit has their own rule to meet. -/
theorem Lawful.of_accords {s t : State} (h : Lawful s) (accords : t.mem.Accords t.mark) (gen : t.gen = s.gen) :
    Lawful t :=
  ⟨accords, by rw [gen]; exact h.2⟩

/-- So has work on the generators. -/
theorem Lawful.of_hides {s t : State} (h : Lawful s) (mark : t.mark = s.mark) (mem : t.mem = s.mem)
    (hides : t.gen.Hides) : Lawful t :=
  ⟨by rw [mark, mem]; exact h.1, hides⟩

/-- The membership unit's rule reads its state, its reasons and the drive of the own mark alone. -/
theorem Membership.Accords.of_same {x y : Membership} {m n : MarkUnit} (h : x.Accords m) (drive : n.drive = m.drive)
    (state : y.state = x.state) (command : y.reasonCommand = x.reasonCommand)
    (supply : y.reasonSupply = x.reasonSupply) : y.Accords n := by
  unfold Membership.Accords
  rw [drive, state, command, supply]
  exact h

/-- A generator unit at the same inhibit state that shows no pulse it did not show. -/
theorem GenUnit.Hides.of_shows {u v : GenUnit} (h : u.Hides) (force : v.inForce = u.inForce)
    (shows : ∀ i, (v.gens.get i).shows = true → (u.gens.get i).shows = true) : v.Hides := by
  intro hv i
  have hu := h (by rw [← force]; exact hv) i
  cases hs : (v.gens.get i).shows with
  | false => rfl
  | true => exact absurd (shows i hs) (by simp [hu])

/-! ## Time -/

theorem markAge_drive (d : Nat) (m : MarkUnit) : (m.age d).drive.isSome = m.drive.isSome := by
  simp [MarkUnit.age, ageDown]

theorem genAge_shows (d : Nat) (u : GenUnit) (i : Fin 4) : ((u.age d).gens.get i).shows = (u.gens.get i).shows := by
  have one (g : Generator) : (g.age d).shows = g.shows := by
    cases hp : g.pulse <;> simp [Generator.age, Generator.shows, hp]
  match i with
  | 0 | 1 | 2 | 3 => exact one _

section Time

variable {s : State} (h : Lawful s)
include h

theorem age_lawful (d : Nat) : Lawful (s.age d) :=
  ⟨⟨fun hd => h.1.1 ((markAge_drive d s.mark).symm.trans hd), h.1.2⟩,
    h.2.of_shows rfl fun i hi => (genAge_shows d s.gen i).symm.trans hi⟩

theorem setTau_lawful (n : Nat) : Lawful (s.setTau n) := age_lawful h _

theorem runTo_lawful (p : Nat) : Lawful (s.runTo p) := setTau_lawful h _

theorem raise_lawful (p : PhasePoint) : Lawful (s.raise p) := runTo_lawful h _

theorem runToEnd_lawful : Lawful s.runToEnd := age_lawful h _

theorem advance_lawful (d : Nat) : Lawful (s.advance d) := by
  unfold State.advance
  split
  · exact setTau_lawful h _
  · exact h

end Time

/-! ## The generators (R162 to R173) -/

theorem quad_get_zip3Map {α β γ : Type} (f : α → β → γ → γ) (p : Quad α) (q : Quad β) (r : Quad γ) (i : Fin 4) :
    (p.zip3Map f q r).get i = f (p.get i) (q.get i) (r.get i) := by
  match i with
  | 0 | 1 | 2 | 3 => rfl

theorem quad_get_set {α : Type} (q : Quad α) (i j : Fin 4) (x : α) :
    (q.set i x).get j = if j = i then x else q.get j := by
  match i, j with
  | 0, 0 | 0, 1 | 0, 2 | 0, 3 | 1, 0 | 1, 1 | 1, 2 | 1, 3 | 2, 0 | 2, 1 | 2, 2 | 2, 3 | 3, 0 | 3, 1 | 3, 2 | 3, 3 => rfl

/-- A pulse that starts is shown where inhibit is not in force (R163, R173). -/
@[simp] theorem generatorStart_shows (set : GenSettings) (inForce : Bool) (x : Int) (g : Generator) :
    (g.start set inForce x).shows = !inForce := rfl

theorem generatorRise_shows (t : Timescale) (taken : Bool) (set : GenSettings) (g : Generator) :
    (g.rise t taken set).shows = g.shows := by
  unfold Generator.rise
  split
  · split <;> rfl
  all_goals rfl

theorem generatorFall_shows (set : GenSettings) (g : Generator) (h : (g.fall set).shows = true) : g.shows = true := by
  revert h
  unfold Generator.fall
  split
  · exact id
  · split
    · exact id
    all_goals simp [Generator.shows]
  all_goals exact id

theorem generatorBegin_pulse (t : Timescale) (taken : Bool) (set : GenSettings) (g : Generator) :
    (g.begin t taken set).pulse = none := by
  unfold Generator.begin
  dsimp only
  split
  · rfl
  · split <;> rfl

/-- While inhibit is in force a move of the next start starts no pulse that shows (R168, R173). -/
theorem generatorMove_shows (set : GenSettings) (delta : Int) (g : Generator) (h : g.shows = false) :
    (g.move set true delta).shows = false := by
  unfold Generator.move
  split
  · exact h
  · split
    · rfl
    · exact h

/-- While inhibit is in force a boundary starts no pulse that shows (R168, R173). -/
theorem generatorBoundary_shows (t : Timescale) (forward : Bool) (a b : Int) (set : GenSettings) (g : Generator)
    (h : g.shows = false) : (g.boundary t forward true a b set).shows = false := by
  unfold Generator.boundary
  split
  · split
    · exact h
    · exact generatorMove_shows _ _ _ h
  · split <;> exact h
  all_goals exact h

theorem hidePulses_shows (u : GenUnit) (i : Fin 4) : (u.hidePulses.gens.get i).shows = false := by
  have one (g : Generator) :
      Generator.shows { g with pulse := g.pulse.map (fun p => { p with shown := false }) } = false := by
    cases g.pulse <;> simp [Generator.shows]
  match i with
  | 0 | 1 | 2 | 3 => exact one _

section Generators

variable {s : State} (h : Lawful s)
include h

theorem genTimeValid_lawful (level : Bool) : Lawful (s.genTimeValid level) := by
  unfold State.genTimeValid
  split
  · exact h
  · split
    · exact h.of_hides rfl rfl <| h.2.of_shows rfl fun i => by
        rw [quad_get_zip3Map, generatorRise_shows]; exact id
    · exact h.of_hides rfl rfl <| h.2.of_shows rfl fun i => by
        rw [quad_get_zipMap]; exact generatorFall_shows _ _

theorem genBoundary_lawful (forward : Bool) (a b : Int) : Lawful (s.genBoundary forward a b) := by
  unfold State.genBoundary
  split
  · refine h.of_hides rfl rfl fun hf i => ?_
    have hf' : s.gen.inForce = true := hf
    rw [quad_get_zipMap, hf']
    exact generatorBoundary_shows _ _ _ _ _ _ (h.2 hf' i)
  · exact h

theorem startPulse_lawful (i : Fin 4) : Lawful (s.startPulse i) := by
  unfold State.startPulse
  split
  · exact h
  · refine h.of_hides rfl rfl fun hf j => ?_
    have hf' : s.gen.inForce = true := hf
    rw [quad_get_set]
    split
    · simp [hf']
    · exact h.2 hf' j

theorem endPulse_lawful (i : Fin 4) :
    Lawful { s with gen.gens := s.gen.gens.set i { s.gen.gens.get i with pulse := none } } := by
  refine h.of_hides rfl rfl fun hf j => ?_
  rw [quad_get_set]
  split
  · rfl
  · exact h.2 hf j

theorem inhibitBegins_lawful : Lawful s.inhibitBegins :=
  h.of_hides rfl rfl fun _ i => hidePulses_shows s.gen i

theorem inhibitEnds_lawful : Lawful s.inhibitEnds := h.of_hides rfl rfl nofun

theorem filteredBecomes_lawful (level : Bool) : Lawful (s.filteredBecomes level) := by
  unfold State.filteredBecomes
  dsimp only
  split
  · split
    · exact h
    · exact inhibitBegins_lawful (by exact h)
  · split
    · exact inhibitEnds_lawful (by exact h)
    · exact h

theorem inhibitTaken_lawful (a : Bool) : Lawful (s.inhibitTaken a) := by
  unfold State.inhibitTaken
  dsimp only
  repeat' split
  all_goals exact h

theorem genBegin_lawful : Lawful s.genBegin := by
  have begun : Lawful { s with
      gen := { s.gen with
        gens := (takenBits s.freeNat.1).zip3Map (Generator.begin s.ts) s.cfg.gens s.gen.gens
        timeValid := s.solver.timeValid, filtered := s.pins.inhibit, filterTimer := none }
      freeCount := s.freeCount + 1 } :=
    h.of_hides rfl rfl fun _ i => by
      rw [quad_get_zip3Map]; simp [Generator.shows, generatorBegin_pulse]
  unfold State.genBegin
  dsimp only
  split
  · exact inhibitBegins_lawful begun
  · exact begun

theorem clearInhibit_lawful : Lawful s.clearInhibit := by
  have ended := inhibitEnds_lawful h
  unfold State.clearInhibit
  split
  · exact ended
  · exact h

end Generators

/-! ## The reference qualifier and the solver (R19 to R36, R122 to R146) -/

section Solver

variable {s : State} (h : Lawful s)
include h

theorem refreshTimeValid_lawful : Lawful s.refreshTimeValid := by
  unfold State.refreshTimeValid
  dsimp only
  split
  · exact h
  · exact genTimeValid_lawful (by exact h) _

theorem enterHoldover_lawful (old : TimingState) (g : Growth) (b : Option Nat) : Lawful (s.enterHoldover old g b) := by
  obtain ⟨-, -, -, mark, -, mem, -, gen, -⟩ := enterHoldover_keeps s old g b
  exact h.of_same mark mem gen

theorem enter_lawful (a : Option Lane) (t : TimingState) (target : Option Target) (g : Growth) (b : Option Nat) :
    Lawful (s.enter a t target g b) := by
  unfold State.enter
  cases t with
  | free | acquiring | anchored | borrowing => exact refreshTimeValid_lawful (by exact h)
  | coasting | alone => exact refreshTimeValid_lawful (enterHoldover_lawful (by exact h) _ _ _)

theorem transition_lawful (a : Option Lane) (source : Option Target) (g : Growth) :
    Lawful (s.transition a source g) := by
  obtain ⟨e, -⟩ | ⟨t, target, -, e⟩ := transition_cases s a source g
  · rw [e]; exact h
  · rw [e]; exact enter_lawful h _ _ _ _ _

theorem reevaluate_lawful : Lawful s.reevaluate := by
  unfold State.reevaluate
  dsimp only
  split
  · exact transition_lawful h _ _ _
  · exact h

theorem freeRequest_lawful : Lawful s.freeRequest := by
  unfold State.freeRequest
  dsimp only
  split
  · exact h
  · exact enter_lawful (by exact h) _ _ _ _ _

theorem setRefState_lawful (x : RefState) : Lawful (s.setRefState x) := by
  unfold State.setRefState
  dsimp only
  split
  · exact reevaluate_lawful (by exact h)
  · exact h

theorem loseRef_lawful (c : LossCause) : Lawful (s.loseRef c) := setRefState_lawful (by exact h) _

theorem takeOutlier_lawful (e : RefEntry) : Lawful (s.takeOutlier e) := by
  unfold State.takeOutlier
  dsimp only
  split
  · exact setRefState_lawful (by exact h) _
  · split
    · exact loseRef_lawful (by exact h) _
    · exact h

theorem probationEdge_lawful (e : RefEntry) : Lawful (s.probationEdge e) := by
  unfold State.probationEdge
  dsimp only
  split
  · split
    · exact setRefState_lawful (by exact h) _
    · exact h
  · split
    · exact setRefState_lawful (by exact h) _
    · exact h

theorem trackEdge_lawful (e : RefEntry) : Lawful (s.trackEdge e) := by
  obtain ⟨n, hn⟩ := predict_shape s
  unfold State.trackEdge
  dsimp only
  rw [hn]
  split
  · exact h
  · exact takeOutlier_lawful (by exact h) e

theorem takeEdge_lawful (e : RefEntry) : Lawful (s.takeEdge e) := by
  unfold State.takeEdge
  split
  case h_1 => exact setRefState_lawful (by exact h) _
  case h_2 => exact probationEdge_lawful h e
  case h_3 | h_4 => exact trackEdge_lawful h e

theorem acceptEdge_lawful (c : RefCandidate) : Lawful (s.acceptEdge c) := by
  unfold State.acceptEdge
  dsimp only
  split
  · exact h
  · exact takeEdge_lawful (by exact h) _

theorem candidateAccepted_lawful : Lawful s.candidateAccepted := by
  unfold State.candidateAccepted
  split
  · exact acceptEdge_lawful h _
  · exact h

theorem selectedTransition_lawful : Lawful s.selectedTransition := by
  unfold State.selectedTransition
  dsimp only
  split
  · exact h
  · split
    · exact acceptEdge_lawful h _
    · exact h

theorem refinTaken_lawful (l : Level) : Lawful (s.refinTaken l) := by
  unfold State.refinTaken
  dsimp only
  repeat' split
  case _ => exact h
  case _ => exact h
  case _ => exact selectedTransition_lawful (by exact h)
  case _ => exact h

theorem refvalidLost_lawful : Lawful s.refvalidLost := by
  unfold State.refvalidLost
  split
  · exact h
  · exact loseRef_lawful (by exact h) _

theorem refvalidTaken_lawful (a : Bool) : Lawful (s.refvalidTaken a) := by
  unfold State.refvalidTaken
  dsimp only
  split
  · exact h
  · split
    · exact refvalidLost_lawful (by exact h)
    · exact h

theorem refvalidPinBecomes_lawful (d : Nat) (a : Bool) : Lawful (s.refvalidPinBecomes d a) := by
  have advanced := advance_lawful h d
  rw [refvalidPinBecomes_eq]
  split
  · exact refvalidTaken_lawful (by exact advanced) _
  · exact advanced

/-- Either of the two levels may be taken first (R19, R36). -/
theorem referenceTaken_lawful : Lawful s.referenceTaken := by
  have chosen : Lawful (s.choose false [true]).2 := by exact h
  unfold State.referenceTaken
  dsimp only
  split
  · split
    · exact refinTaken_lawful (refvalidTaken_lawful chosen _) _
    · exact refvalidTaken_lawful (refinTaken_lawful chosen _) _
  · exact refvalidTaken_lawful (refinTaken_lawful h _) _

theorem closeTracked_lawful : Lawful s.closeTracked := by
  have judged (t : State) (ht : Lawful t) :
      Lawful (if t.cfg.missLimit ≤ t.ref.missCount then t.loseRef .misses else t) := by
    split
    · exact loseRef_lawful ht _
    · exact ht
  exact judged _ (h.of_same rfl rfl rfl)

theorem closeByState_lawful : Lawful s.closeByState := by
  unfold State.closeByState
  split
  case h_1 => exact h
  case h_2 =>
    split
    · exact h
    · exact setRefState_lawful (by exact h) _
  case h_3 | h_4 => exact closeTracked_lawful h

theorem applySource_lawful (v : SolveView) : Lawful (s.applySource v) := transition_lawful h _ _ _

theorem judgeUndispute_lawful (v : SolveView) : Lawful (s.judgeUndispute v) := by
  obtain ⟨-, mem, mark, -⟩ := judgeUndispute_keeps s v
  refine h.of_same mark mem ?_
  unfold State.judgeUndispute State.countUndispute State.endDispute State.requestUndisputed
  dsimp only
  repeat' split
  all_goals rfl

theorem judgeSplit_lawful (v : SolveView) : Lawful (s.judgeSplit v) := by
  unfold State.judgeSplit
  repeat' split
  all_goals exact h

theorem dispute_lawful (v : SolveView) : Lawful (s.dispute v) := by
  by_cases hq : s.ref.state = .qualified
  · rw [dispute_qualified hq]
    exact applySource_lawful (by exact h) v
  · rw [dispute_refused hq]
    exact applySource_lawful (by exact h) v

theorem judgeDispute_lawful (v : SolveView) : Lawful (s.judgeDispute v) := by
  unfold State.judgeDispute
  repeat' split
  case _ => exact h
  case _ => exact h
  case _ => exact dispute_lawful h v
  case _ => exact h
  case _ => exact h

theorem settleSource_lawful (v : SolveView) : Lawful (s.settleSource v) := by
  have sourced := applySource_lawful (judgeUndispute_lawful h v) v
  unfold State.settleSource State.judgeAnchors
  split
  · exact judgeDispute_lawful (judgeSplit_lawful sourced v) v
  · exact sourced

theorem judgeSelf_lawful (p : PhaseError) : Lawful (s.judgeSelf p) := by
  unfold State.judgeSelf
  repeat' split
  all_goals exact h

theorem lock_lawful (v : SolveView) : Lawful (s.lock v) := by
  unfold State.lock
  split
  · exact enter_lawful h _ _ _ _ _
  · exact h

theorem judgeLock_lawful (v : SolveView) (e : Int) : Lawful (s.judgeLock v e) := by
  unfold State.judgeLock
  dsimp only
  split
  · split
    · exact lock_lawful (by exact h) v
    · exact h
  · exact h

theorem requestStep_lawful (x : Int) : Lawful (s.requestStep x) := by
  unfold State.requestStep
  split <;> exact h

theorem correctF_lawful (e : Int) : Lawful (s.correctF e) := by
  unfold State.correctF
  dsimp only
  split <;> exact h

theorem steer_lawful (v : SolveView) (p : PhaseError) : Lawful (s.steer v p).2 := by
  unfold State.steer
  dsimp only
  split
  · split <;> exact h
  · split
    · exact requestStep_lawful (by exact h) _
    · dsimp only
      split
      · exact judgeLock_lawful (correctF_lawful (by exact h) _) v _
      · exact correctF_lawful (by exact h) _

theorem judgeBudget_lawful : Lawful s.judgeBudget := by
  unfold State.judgeBudget
  split <;> exact h

theorem setBound_lawful (v : SolveView) (p : PhaseError) : Lawful (s.setBound v p) := by
  unfold State.setBound
  split <;> exact h.of_same rfl rfl rfl

theorem updateBound_lawful (v : SolveView) (p : PhaseError) : Lawful (s.updateBound v p) := by
  unfold State.updateBound
  split
  · exact refreshTimeValid_lawful (judgeBudget_lawful (by exact h))
  · exact setBound_lawful h v p

theorem handResults_lawful (c : Int) (verdicts : NodeId → Verdict) : Lawful (s.handResults c verdicts) := by
  obtain ⟨r, lastC, lastA, ps, adopt, completed⟩ := rosterComplete_shape (s.handed c) verdicts
  rw [handResults_shape, completed]
  exact h.of_same rfl rfl rfl

theorem solvePoint_lawful : Lawful s.solvePoint := by
  unfold State.solvePoint State.solve State.solveOpens
  dsimp only
  refine handResults_lawful (updateBound_lawful (steer_lawful (judgeSelf_lawful (settleSource_lawful ?_ _) _) _ _) _ _) _ _
  have closed := closeByState_lawful h
  split <;> exact closed

end Solver

/-! ## The membership unit (R82 to R96) -/

theorem active_iff (x : MembershipState) : x.active = true ↔ x = .joining ∨ x = .member := by
  cases x <;> simp [MembershipState.active]

/-- A change out of JOINING and MEMBER releases the own mark, and no other change moves it (R40). -/
theorem stateChange_drive (m : MarkUnit) (old new : MembershipState) :
    (m.stateChange old new).drive = if old.active && !new.active then none else m.drive := by
  have left (u : MarkUnit) : (if old.mode = .windowed ∧ new.mode ≠ .windowed then u.leaveWindowed else u).drive =
      u.drive := by
    split <;> rfl
  unfold MarkUnit.stateChange
  dsimp only
  rw [left]
  cases hd : m.drive <;> cases old.active && !new.active <;> simp [hd, MarkUnit.release]

/-- An own mark that is driven after a change is driven in JOINING or MEMBER (R40). -/
theorem stateChange_drives {old : MembershipState} {m : MarkUnit}
    (h : m.drive.isSome = true → old = .joining ∨ old = .member) (new : MembershipState)
    (hd : (m.stateChange old new).drive.isSome = true) : new = .joining ∨ new = .member := by
  rw [stateChange_drive] at hd
  cases hn : new.active with
  | true => exact (active_iff new).1 hn
  | false =>
    cases ho : old.active with
    | true => simp [ho, hn] at hd
    | false =>
      have driven : m.drive.isSome = true := by simpa [ho] using hd
      exact absurd ((active_iff old).2 (h driven)) (by simp [ho])

/-- A change of state to any but WITHDRAWN restores the invariant of the reasons, and one to WITHDRAWN needs a reason
(R40, R94). -/
theorem changeState_lawful_of_drive {s : State} (hd : MarkDriveForm s) (hg : s.gen.Hides) (new : MembershipState)
    (hr : new = .withdrawn → s.mem.reasonCommand = true ∨ s.mem.reasonSupply = true) :
    Lawful (s.changeState new) := by
  have mark : (s.changeState new).mark = s.mark.stateChange s.mem.state new := by
    unfold State.changeState; dsimp only; split <;> rfl
  obtain ⟨-, -, -, -, gen, -⟩ := changeState_keeps s new
  refine ⟨?_, by rw [gen]; exact hg⟩
  rw [changeState_mem, mark]
  exact ⟨stateChange_drives hd new, hr⟩

/-- After a reason is removed: WITHDRAWN with none left leads to LISTEN (R94). -/
theorem reasonsChecked_lawful {s : State} (hd : MarkDriveForm s) (hg : s.gen.Hides) : Lawful s.reasonsChecked := by
  unfold State.reasonsChecked
  split
  next => exact changeState_lawful_of_drive (by exact hd) (by exact hg) _ nofun
  next hn =>
    refine ⟨⟨hd, fun hw => ?_⟩, hg⟩
    cases hc : s.mem.reasonCommand with
    | true => exact .inl rfl
    | false => exact .inr (by simpa [hw, hc] using hn)

section Members

variable {s : State} (h : Lawful s)
include h

theorem changeState_lawful (new : MembershipState)
    (hr : new = .withdrawn → s.mem.reasonCommand = true ∨ s.mem.reasonSupply = true) :
    Lawful (s.changeState new) := changeState_lawful_of_drive h.1.1 h.2 new hr

theorem enterListen_lawful : Lawful s.enterListen := changeState_lawful (by exact h) _ nofun

theorem enterAligning_lawful : Lawful s.enterAligning := changeState_lawful (by exact h) _ nofun

theorem enterJoining_lawful : Lawful s.enterJoining := changeState_lawful (by exact h) _ nofun

theorem requestLeave_lawful (r : LeaveReason) : Lawful (s.requestLeave r) := by
  obtain ⟨-, -, mark, mem, -, -, -, gen, -⟩ := requestLeave_keeps s r
  exact h.of_same mark mem gen

theorem enterConflict_lawful (c : Cause) : Lawful (s.enterConflict c) := by
  have changed : Lawful ((s.postInt .membership .conflict none c.code).changeState .conflict) :=
    changeState_lawful (by exact h) _ nofun
  exact requestLeave_lawful changed _

theorem enterWithdrawn_lawful (r : LeaveReason) (hr : s.mem.reasonCommand = true ∨ s.mem.reasonSupply = true) :
    Lawful (s.enterWithdrawn r) := by
  have changed := changeState_lawful h .withdrawn fun _ => hr
  unfold State.enterWithdrawn
  dsimp only
  split
  · exact requestLeave_lawful changed r
  · exact changed

theorem report_lawful (c : Cause) : Lawful (s.report c) := by
  by_cases hc : s.mem.state.active = true ∧ s.mem.evidenceLast = true
  · rw [report_repeats s c hc.1 hc.2]
    exact enterConflict_lawful h c
  · obtain ⟨e, he⟩ := report_notes s c hc
    rw [he]
    exact h

theorem reportOwnId_lawful : Lawful s.reportOwnId := by
  unfold State.reportOwnId
  dsimp only
  split
  · exact report_lawful (by exact h) _
  · exact report_lawful h _

theorem adoptEnsemble_lawful : Lawful s.adoptEnsemble := by
  unfold State.adoptEnsemble
  dsimp only
  repeat' split
  all_goals exact h

theorem decideAlignment_lawful (delta : Int) : Lawful (s.decideAlignment delta) := by
  unfold State.decideAlignment
  split
  · exact enterAligning_lawful (adoptEnsemble_lawful h)
  · split
    · split
      · exact changeState_lawful (by exact h) _ nofun
      · exact h
    · exact enterAligning_lawful (adoptEnsemble_lawful (requestStep_lawful (freeRequest_lawful h) _))

theorem listenDelivery_lawful (f : Frame) : Lawful (s.listenDelivery f) := by
  unfold State.listenDelivery
  dsimp only
  split
  · exact decideAlignment_lawful (by exact h) _
  · exact h

theorem memberDelivery_lawful (f : Frame) : Lawful (s.memberDelivery f) := by
  unfold State.memberDelivery
  split
  case h_1 | h_2 => exact listenDelivery_lawful h f
  case h_3 => cases f <;> exact h
  all_goals exact h

theorem memberLeave_lawful : Lawful s.memberLeave := by
  unfold State.memberLeave
  split <;> exact h

theorem supplyFell_lawful : Lawful s.supplyFell := by
  have low : Lawful ({ s with mem := { s.mem with supplyIsLow := true, supplyTimer := 0, reasonSupply := true } }.post
      .membership .supplyLow none none) :=
    h.of_accords ⟨h.1.1, fun _ => .inr rfl⟩ rfl
  unfold State.supplyFell
  dsimp only
  split
  case h_6 | h_7 | h_8 => exact low
  all_goals exact enterWithdrawn_lawful low _ (.inr rfl)

theorem supplyRose_lawful : Lawful s.supplyRose := by
  unfold State.supplyRose
  dsimp only
  exact reasonsChecked_lawful h.1.1 h.2

theorem withdraw_lawful : Lawful s.withdraw := by
  have commanded : Lawful { s with mem.reasonCommand := true } := h.of_accords ⟨h.1.1, fun _ => .inl rfl⟩ rfl
  have withdrawn := enterWithdrawn_lawful commanded .command (.inl rfl)
  unfold State.withdraw
  split
  case h_6 | h_7 | h_8 => exact h
  all_goals exact withdrawn

theorem resume_lawful : Lawful s.resume := by
  have resumed : Lawful { s with mem.reasonCommand := false }.reasonsChecked := reasonsChecked_lawful h.1.1 h.2
  unfold State.resume
  split
  · exact resumed
  · exact h

theorem begin_lawful : Lawful s.begin := by
  have lines : Lawful s.enterListen.beginLines := by
    refine (enterListen_lawful h).of_accords ?_ rfl
    refine (enterListen_lawful h).1.of_same ?_ rfl rfl rfl
    unfold State.beginLines MarkUnit.begin
    dsimp only
    split <;> rfl
  have generators := genBegin_lawful lines
  unfold State.begin State.tempBegin
  split <;> exact generators

theorem takeBegin_lawful : Lawful s.takeBegin := by
  have begun := begin_lawful h
  unfold State.takeBegin
  split
  · exact h
  · exact begun

end Members

/-! ## The roster and the frames that arrive (R65 to R67, R100 to R115) -/

section Arrivals

variable {s : State} (h : Lawful s)
include h

theorem offerEntry_lawful (f : Frame) : Lawful (s.offerEntry f) := by
  unfold State.offerEntry
  dsimp only
  repeat' split
  all_goals exact h

theorem noteDifference_lawful (k : NodeId) (e : Epoch) (t : TimingState) : Lawful (s.noteDifference k e t) := by
  unfold State.noteDifference
  split <;> exact h

theorem rosterTakes_lawful (f : Frame) : Lawful (s.rosterTakes f) := by
  have noted (u : State) (hu : Lawful u) : Lawful (u.noteFrame f) := by
    cases f with
    | census => exact noteDifference_lawful hu _ _ _
    | join | leave => exact hu
  unfold State.rosterTakes
  dsimp only
  split
  · exact noted _ (by exact h)
  · exact noted _ (offerEntry_lawful h f)

theorem rosterLeave_lawful (k : NodeId) (r : LeaveReason) : Lawful (s.rosterLeave k r) := by
  unfold State.rosterLeave
  split <;> exact h

theorem rosterNotice_lawful (k : NodeId) (e : Epoch) (t : TimingState) : Lawful (s.rosterNotice k e t) := by
  unfold State.rosterNotice
  dsimp only
  split
  · exact noteDifference_lawful (by exact h) _ _ _
  · exact noteDifference_lawful h _ _ _

theorem frameFault_lawful (k : ErrorKind) (j : Option NodeId) : Lawful (s.frameFault k j) := by
  obtain ⟨-, -, -, mark, mem, -, -, -, gen, -⟩ := frameFault_keeps s k j
  exact h.of_same mark mem gen

theorem deliver_lawful (f : Frame) : Lawful (s.deliver f) := memberDelivery_lawful (rosterTakes_lawful h f) f

theorem censusArrives_lawful (f : Frame) : Lawful (s.censusArrives f) := by
  unfold State.censusArrives
  split
  · exact reportOwnId_lawful h
  · split
    · split
      · exact rosterNotice_lawful (frameFault_lawful h _ _) _ _ _
      · exact deliver_lawful h _
    · exact h
    · exact h

theorem joinArrives_lawful (f : Frame) : Lawful (s.joinArrives f) := by
  unfold State.joinArrives
  split
  · exact reportOwnId_lawful h
  · exact deliver_lawful h f

theorem leaveArrives_lawful (f : Frame) : Lawful (s.leaveArrives f) := by
  unfold State.leaveArrives
  split
  · exact reportOwnId_lawful h
  · split
    · exact memberLeave_lawful (rosterLeave_lawful h _ _)
    · exact h
    · exact h

end Arrivals

/-! ## The WORD line (R58 to R78) -/

section Word

variable {s : State} (h : Lawful s)
include h

theorem wordFalls_lawful : Lawful s.wordFalls := by
  obtain ⟨-, -, mark, mem, -, -, -, gen, -⟩ := wordFalls_keeps s
  exact h.of_same mark mem gen

theorem pullWord_lawful : Lawful s.pullWord := by
  obtain ⟨-, -, mark, mem, -, -, -, gen, -⟩ := pullWord_keeps s
  exact h.of_same mark mem gen

theorem startFrame_lawful (w : InFlight) (f : Frame) : Lawful (s.startFrame w f) := by
  obtain ⟨-, -, mark, mem, -, -, -, gen, -⟩ := startFrame_keeps s w f
  exact h.of_same mark mem gen

theorem tryStart_lawful : Lawful s.tryStart := by
  obtain ⟨-, -, mark, mem, -, -, -, gen, -⟩ := tryStart_keeps s
  exact h.of_same mark mem gen

theorem wordFallSeen_lawful : Lawful s.wordFallSeen := by
  unfold State.wordFallSeen
  dsimp only
  split
  · split
    · exact startFrame_lawful (wordFalls_lawful h) _ _
    · exact wordFalls_lawful h
  · exact wordFalls_lawful h

theorem wordRises_lawful : Lawful s.wordRises := by
  unfold State.wordRises
  dsimp only
  split
  · exact report_lawful (by exact h) _
  · exact h

theorem bitEnds_lawful : Lawful s.bitEnds := by
  have driven : Lawful s.driveBit := by
    unfold State.driveBit
    dsimp only
    split
    · exact h
    · exact pullWord_lawful (by exact h)
  unfold State.bitEnds
  split
  · exact h
  all_goals split
  case h_2.isFalse | h_3.isFalse => exact driven
  all_goals exact h

theorem lineIdle_lawful : Lawful s.lineIdle := by
  unfold State.lineIdle
  split
  · exact h
  · split
    · exact h
    all_goals exact tryStart_lawful (by exact h)

theorem dropInFlight_lawful : Lawful s.dropInFlight := by
  unfold State.dropInFlight
  split <;> exact h

theorem openTalk_lawful : Lawful s.openTalk := by
  unfold State.openTalk
  dsimp only
  split <;> exact tryStart_lawful (by exact h)

theorem closeTalk_lawful : Lawful s.closeTalk := by
  unfold State.closeTalk
  dsimp only
  split
  · split <;> exact h
  · exact h

theorem returnTalk_lawful : Lawful s.returnTalk := by
  unfold State.returnTalk
  dsimp only
  repeat' split
  all_goals exact h

theorem wordStuck_lawful : Lawful s.wordStuck := by
  unfold State.wordStuck
  dsimp only
  split
  · exact h
  · exact returnTalk_lawful (by exact h)

theorem wordRecovered_lawful : Lawful s.wordRecovered := by
  unfold State.wordRecovered
  exact tryStart_lawful (by exact h)

end Word

/-! ## The MARK line (R40 to R53) -/

theorem fillEcho_drive (line : Level) (x : Stamp) (m : MarkUnit) : (m.fillEcho line x).drive = m.drive := by
  unfold MarkUnit.fillEcho
  repeat' split
  all_goals rfl

theorem find_drive (c : Cause) (m : MarkUnit) : (m.find c).drive = m.drive := by
  unfold MarkUnit.find
  split <;> rfl

theorem heldLowTest_drive (line : Level) (m : MarkUnit) : (m.heldLowTest line).drive = m.drive := by
  unfold MarkUnit.heldLowTest
  dsimp only
  split
  · exact find_drive _ _
  · rfl

theorem countContest_drive (x : SlotReading) (m : MarkUnit) : (m.countContest x).drive = m.drive := by
  unfold MarkUnit.countContest
  split <;> rfl

theorem takeEarly_drive (own : NodeId) (p : Nat) (m : MarkUnit) : (m.takeEarly own p).drive = m.drive := by
  unfold MarkUnit.takeEarly
  split
  · rfl
  · exact countContest_drive _ m

theorem takeSlot_drive (own k : NodeId) (x : Int) (m : MarkUnit) : (m.takeSlot own k x).drive = m.drive := by
  unfold MarkUnit.takeSlot
  split
  · exact find_drive _ m
  · split
    · rfl
    · exact countContest_drive _ m

theorem markBoundary_drive (mode : MarkMode) (e : Epoch) (forward : Bool) (m : MarkUnit) :
    (m.boundary mode e forward).drive = m.drive := by
  unfold MarkUnit.boundary
  cases mode <;> rfl

/-! An accepted edge, mode by mode (R41, R42, R44, R52) -/

/-- An edge that is handled: no candidate is left, and the high-time measure has stopped at its fall (R42). -/
def State.edgeTaken (s : State) : State :=
  { s with mark := { s.mark with candidate := none, highTime := none } }

section Accept

variable {s : State} (c : MarkCandidate)

/-- How old a candidate is has no part in what an accepted edge does. -/
theorem acceptMark_age (n : Nat) : s.acceptMark { c with age := n } = s.acceptMark c := rfl

theorem acceptMark_fault (hf : s.mark.fault = true) : s.acceptMark c = { s with mark.candidate := none } :=
  if_pos hf

theorem acceptMark_idle (hf : s.mark.fault = false) (hm : s.mem.state.mode = .idle) :
    s.acceptMark c = s.edgeTaken := by
  simp [State.acceptMark, hf, hm, State.edgeTaken]

theorem acceptMark_opened (hf : s.mark.fault = false) (hm : s.mem.state.mode = .opened) :
    s.acceptMark c = { s.edgeTaken with mem := s.mem.takeEdge c.stamp c.highBefore } := by
  simp [State.acceptMark, hf, hm, State.edgeTaken]

theorem acceptMark_echo (hf : s.mark.fault = false) (hm : s.mem.state.mode = .windowed)
    (he : s.mark.echo.stamp = some c.stamp) : s.acceptMark c = s.edgeTaken := by
  simp [State.acceptMark, hf, hm, State.edgeTaken, MarkUnit.isEcho, he]

/-- An edge in WINDOWED that is not the own echo is judged by its stamp (R44): one of the early range goes to slot 0, or
to the early holding; another to the slot in whose window it lies, or it is a stray. -/
theorem acceptMark_windowed (hf : s.mark.fault = false) (hm : s.mem.state.mode = .windowed)
    (he : s.mark.echo.stamp ≠ some c.stamp) :
    s.acceptMark c =
      if earlyStart ≤ c.stamp.phase then
        if c.crossed then
          if s.mark.capture.isSome then
            { s.edgeTaken with
              mark := s.edgeTaken.mark.takeSlot s.mem.nodeId 0 ((c.stamp.phase : Int) - 16000000000) }
          else s.edgeTaken
        else { s.edgeTaken with mark := s.edgeTaken.mark.takeEarly s.mem.nodeId c.stamp.phase }
      else if s.mark.capture.isNone then s.edgeTaken
      else if c.crossed then s.edgeTaken.strayEdge c.stamp.phase
      else match slotAt c.stamp.phase with
        | some k => { s.edgeTaken with
            mark := s.edgeTaken.mark.takeSlot s.mem.nodeId k (captureOf c.stamp.phase k) }
        | none => s.edgeTaken.strayEdge c.stamp.phase := by
  refine (if_neg (by simp [hf])).trans ?_
  dsimp only
  rw [hm]
  exact if_neg (by simpa [MarkUnit.isEcho] using he)

/-- Whatever holds after each thing that an accepted edge can do holds after the edge. -/
theorem acceptMark_of {P : State → Prop} (passed : P { s with mark.candidate := none }) (taken : P s.edgeTaken)
    (heard : P { s.edgeTaken with mem := s.mem.takeEdge c.stamp c.highBefore })
    (slot : ∀ k x, P { s.edgeTaken with mark := s.edgeTaken.mark.takeSlot s.mem.nodeId k x })
    (early : ∀ p, P { s.edgeTaken with mark := s.edgeTaken.mark.takeEarly s.mem.nodeId p })
    (stray : ∀ p, P (s.edgeTaken.strayEdge p)) : P (s.acceptMark c) := by
  cases hf : s.mark.fault with
  | true => rwa [acceptMark_fault c hf]
  | false =>
    cases hm : s.mem.state.mode with
    | idle => rwa [acceptMark_idle c hf hm]
    | opened => rwa [acceptMark_opened c hf hm]
    | windowed =>
      by_cases he : s.mark.echo.stamp = some c.stamp
      · rwa [acceptMark_echo c hf hm he]
      · rw [acceptMark_windowed c hf hm he]
        split
        · split
          · split
            · exact slot _ _
            · exact taken
          · exact early _
        · split
          · exact taken
          · split
            · exact stray _
            · split
              · exact slot _ _
              · exact stray _

end Accept

section Mark

variable {s : State} (h : Lawful s)
include h

/-- Work on the mark unit that moves no own mark. -/
theorem mark_lawful {m : MarkUnit} (drive : m.drive = s.mark.drive) : Lawful { s with mark := m } :=
  h.of_accords (h.1.of_same drive rfl rfl rfl) rfl

theorem release_lawful : Lawful { s with mark := s.mark.release } := h.of_accords ⟨nofun, h.1.2⟩ rfl

theorem markFalls_lawful : Lawful s.markFalls := by
  unfold State.markFalls
  dsimp only
  split <;> exact h

/-- The own mark is asserted in JOINING and MEMBER (R40). -/
theorem assertMark_lawful (ha : s.mem.state.active = true) : Lawful s.assertMark := by
  have driving : Lawful { s with
      mark := { s.mark.fillEcho s.pins.mark s.stampNow with drive := some (ns 8000) } } :=
    h.of_accords ⟨fun _ => (active_iff _).1 ha, h.1.2⟩ rfl
  unfold State.assertMark
  dsimp only
  split
  · exact markFalls_lawful driving
  · exact mark_lawful driving (find_drive _ _)

theorem slotTime_lawful (k : NodeId) : Lawful (s.slotTime k) := by
  unfold State.slotTime
  split
  next ha => exact assertMark_lawful h ha.2
  next => exact h

theorem strayEdge_lawful (p : Nat) : Lawful (s.strayEdge p) := by
  unfold State.strayEdge
  dsimp only
  split <;> exact h

theorem takeTrainEdge_lawful (x : Stamp) (high : Nat) : Lawful { s with mem := s.mem.takeEdge x high } := by
  refine h.of_accords (h.1.of_same rfl ?_ ?_ ?_) rfl
  all_goals
    unfold Membership.takeEdge Membership.takeTrainStart
    dsimp only
    repeat' split
    all_goals rfl

theorem acceptMark_lawful (c : MarkCandidate) : Lawful (s.acceptMark c) := by
  have taken : Lawful s.edgeTaken := h
  exact acceptMark_of c h taken (takeTrainEdge_lawful taken _ _)
    (fun _ _ => mark_lawful taken (takeSlot_drive _ _ _ _)) (fun _ => mark_lawful taken (takeEarly_drive _ _ _))
    (fun _ => strayEdge_lawful taken _)

theorem acceptHeld_lawful : Lawful s.acceptHeld := by
  unfold State.acceptHeld
  split
  · exact acceptMark_lawful h _
  · exact h

theorem candidateAtRise_lawful : Lawful s.candidateAtRise := by
  unfold State.candidateAtRise
  split
  · split
    · exact acceptMark_lawful h _
    · exact h
  · exact h

theorem confirmEvidence_lawful : Lawful s.confirmEvidence := by
  unfold State.confirmEvidence
  split
  case h_1 => exact h
  case h_2 c cs _ =>
    split
    · exact h
    · obtain ⟨n, chosen⟩ := choose_shape c cs s
      generalize s.choose c cs = x at chosen
      obtain ⟨cause, t⟩ := x
      subst chosen
      exact report_lawful (by exact h) cause

theorem markRises_lawful : Lawful s.markRises := by
  have risen := candidateAtRise_lawful h
  unfold State.markRises
  dsimp only
  split
  · exact confirmEvidence_lawful (by exact risen)
  · exact risen

theorem markStuck_lawful : Lawful s.markStuck := by
  unfold State.markStuck
  dsimp only
  repeat' split
  all_goals exact h

/-! ## The boundary (R4, R5) -/

theorem memberBoundary_lawful (ev : BoundaryEvent) : Lawful (s.memberBoundary ev) := by
  obtain ⟨out, ps, moved⟩ := evidenceMoved_shape ev s
  have evidence : Lawful (s.evidenceMoved ev) := by rw [moved]; exact h
  rw [memberBoundary_eq]
  generalize s.evidenceMoved ev = u at evidence
  obtain e | e | e | e | ⟨quiet, e⟩ | e | e := memberJudged_cases u
  all_goals rw [e]
  · exact evidence
  · exact evidence
  · exact changeState_lawful (by exact evidence) _ nofun
  · exact enterJoining_lawful evidence
  · exact evidence.of_accords ⟨fun _ => .inr rfl, nofun⟩ rfl
  · exact evidence
  · exact enterListen_lawful (by exact evidence)

theorem judgeAligning_lawful : Lawful s.judgeAligning := by
  obtain ⟨a, e, h' | h'⟩ := judgeAligning_cases s
  · rw [h']; exact h
  · rw [h']; exact enterListen_lawful (by exact h)

theorem endOfMark_lawful : Lawful s.endOfMark := by
  unfold State.endOfMark
  dsimp only
  split
  · exact tryStart_lawful (judgeAligning_lawful h)
  · exact tryStart_lawful h

theorem afterJump_lawful (forward : Option Nat) : Lawful (s.afterJump forward) := by
  unfold State.afterJump
  split
  · exact h
  · split
    · exact endOfMark_lawful h
    · exact tryStart_lawful h

theorem markBoundary_lawful (forward : Bool) : Lawful (s.markBoundary forward) := by
  have opened := mark_lawful h (markBoundary_drive s.mem.state.mode s.ts.epoch forward s.mark)
  unfold State.markBoundary State.reportEarly
  split
  · exact report_lawful (by exact opened) _
  · exact opened

theorem rosterBoundary_lawful (ev : BoundaryEvent) : Lawful (s.rosterBoundary ev) := by
  obtain ⟨-, -, -, mark, -, mem, -, -, gen, -⟩ := rosterBoundary_keeps s ev
  exact h.of_same mark mem gen

theorem snapshot_lawful : Lawful s.snapshot := by
  obtain ⟨-, -, -, mark, -, mem, -, -, -, gen, -⟩ := snapshot_keeps s
  exact h.of_same mark mem gen

theorem boundaryProper_lawful (step : Option Int) (forward : Option Nat) (discarded : Bool) :
    Lawful (s.boundaryProper step forward discarded) := by
  rw [boundaryProper_eq]
  exact afterJump_lawful (snapshot_lawful (genBoundary_lawful (markBoundary_lawful (rosterBoundary_lawful
    (memberBoundary_lawful (by exact h) _) _) _) _ _ _)) _

theorem decideStep_lawful : Lawful s.decideStep := by
  unfold State.decideStep
  split
  · exact boundaryProper_lawful h _ _ _
  · split
    · exact boundaryProper_lawful (by exact h) _ _ _
    · split
      · exact boundaryProper_lawful (by exact h) _ _ _
      · exact h

end Mark

/-! ## The commands -/

section Commands

variable {s : State} (h : Lawful s)
include h

theorem settle_lawful : Lawful s.settle := h.of_same (settle_mark s) (settle_mem s) (settle_gen s)

theorem atExpiry_lawful {f : State → State} (r : Option Nat) (hf : ∀ {u : State}, Lawful u → Lawful (f u)) :
    Lawful (s.atExpiry r f) :=
  atExpiry_of r h fun p => hf (runTo_lawful h p)

theorem atPoint_lawful {f : State → State} (p : PhasePoint) (hf : ∀ {u : State}, Lawful u → Lawful (f u)) :
    Lawful (s.atPoint p f) :=
  atPoint_of p h (hf (raise_lawful h p))

theorem atRise_lawful {f : State → State} (d : Nat) (hf : ∀ {u : State}, Lawful u → Lawful (f u)) :
    Lawful (s.atRise d f) :=
  atRise_of d (advance_lawful h d) (hf (advance_lawful h d))

theorem execEndOfEpoch_lawful : NextHolds Lawful (execEndOfEpoch s) := by
  unfold execEndOfEpoch
  split
  · exact nextHolds_next (settle_lawful (decideStep_lawful (runToEnd_lawful h)))
  · exact nextHolds_next h

theorem execReplayEnd_lawful : NextHolds Lawful (execReplayEnd s) := by
  unfold execReplayEnd
  split
  · exact nextHolds_next (settle_lawful (boundaryProper_lawful (runToEnd_lawful h) _ _ _))
  · exact nextHolds_next h

theorem execResetRelease_lawful (straps : NodeId) : NextHolds Lawful (execResetRelease straps s) := by
  unfold execResetRelease
  split <;> exact nextHolds_next h

theorem execRefinTransition_lawful (dt : Nat) (rising : Bool) : NextHolds Lawful (execRefinTransition dt rising s) := by
  have advanced := advance_lawful h dt
  rw [execRefinTransition_eq]
  refine nextHolds_next (settle_lawful ?_)
  split
  · exact refinTaken_lawful (by exact advanced) _
  · exact advanced

theorem execMarkFall_lawful (dt : Nat) : NextHolds Lawful (execMarkFall dt s) := by
  have advanced := advance_lawful h dt
  unfold execMarkFall
  dsimp only
  split
  · exact nextHolds_next (markFalls_lawful advanced)
  · exact nextHolds_next advanced

theorem execMarkRise_lawful (dt : Nat) : NextHolds Lawful (execMarkRise dt s) := by
  have advanced := advance_lawful h dt
  unfold execMarkRise
  dsimp only
  split
  · split
    · exact nextHolds_next (settle_lawful (markRises_lawful advanced))
    · exact nextHolds_next advanced
  · exact nextHolds_next advanced

theorem execWordFall_lawful (dt : Nat) : NextHolds Lawful (execWordFall dt s) := by
  have advanced := advance_lawful h dt
  unfold execWordFall
  dsimp only
  split
  · exact nextHolds_next (wordFallSeen_lawful advanced)
  · exact nextHolds_next advanced

theorem execWordRise_lawful (dt : Nat) : NextHolds Lawful (execWordRise dt s) := by
  have advanced := advance_lawful h dt
  unfold execWordRise
  dsimp only
  split
  · split
    · exact nextHolds_next (settle_lawful (wordRises_lawful advanced))
    · exact nextHolds_next advanced
  · exact nextHolds_next advanced

theorem execArbitrationLoss_lawful : NextHolds Lawful (execArbitrationLoss s) := by
  unfold execArbitrationLoss
  split <;> exact nextHolds_next h

theorem execPayloadCollision_lawful : NextHolds Lawful (execPayloadCollision s) := by
  have dropped := dropInFlight_lawful h
  unfold execPayloadCollision
  split
  · exact nextHolds_next dropped
  · exact nextHolds_next h

theorem execFrameSent_lawful : NextHolds Lawful (execFrameSent s) := by
  unfold execFrameSent
  split <;> exact nextHolds_next h

theorem execFrameError_lawful : NextHolds Lawful (execFrameError s) := by
  unfold execFrameError
  split
  case h_1 | h_2 => exact nextHolds_next (settle_lawful (frameFault_lawful (by exact h) _ _))
  case h_3 | h_4 => exact nextHolds_next h

theorem execCensusReceived_lawful : NextHolds Lawful (execCensusReceived s) := by
  unfold execCensusReceived
  split
  · exact nextHolds_next (settle_lawful (censusArrives_lawful (by exact h) _))
  · exact nextHolds_next h

theorem execJoinReceived_lawful : NextHolds Lawful (execJoinReceived s) := by
  unfold execJoinReceived
  split
  · exact nextHolds_next (settle_lawful (joinArrives_lawful (by exact h) _))
  · exact nextHolds_next h

theorem execLeaveReceived_lawful : NextHolds Lawful (execLeaveReceived s) := by
  unfold execLeaveReceived
  split
  · exact nextHolds_next (settle_lawful (leaveArrives_lawful (by exact h) _))
  · exact nextHolds_next h

theorem execSupplySenseCrossing_lawful (dt mV : Nat) : NextHolds Lawful (execSupplySenseCrossing dt mV s) := by
  have advanced := advance_lawful h dt
  unfold execSupplySenseCrossing
  dsimp only
  split <;> exact nextHolds_next advanced

theorem execInhibitPinChange_lawful (dt : Nat) (a : Bool) : NextHolds Lawful (execInhibitPinChange dt a s) := by
  have advanced := advance_lawful h dt
  rw [execInhibitPinChange_eq]
  refine nextHolds_next ?_
  split
  · exact inhibitTaken_lawful (by exact advanced) _
  · exact advanced

theorem execOscinReturn_lawful : NextHolds Lawful (execOscinReturn s) :=
  nextHolds_next (settle_lawful (referenceTaken_lawful (inhibitTaken_lawful (by exact h) _)))

/-! The local port -/

theorem execTransactionStart_lawful (dt : Nat) : NextHolds Lawful (execTransactionStart dt s) := by
  have advanced := advance_lawful h dt
  unfold execTransactionStart
  dsimp only
  split <;> exact nextHolds_next advanced

theorem execReadResponse_lawful (dt count : Nat) : NextHolds Lawful (execReadResponse dt count s) := by
  unfold execReadResponse
  split <;> exact nextHolds_next (atRise_lawful h dt fun hu => by exact hu)

theorem execUnknownCommand_lawful (dt : Nat) (code : Byte) : NextHolds Lawful (execUnknownCommand dt code s) := by
  unfold execUnknownCommand
  split
  · exact nextHolds_next h
  · exact nextHolds_next (atRise_lawful h dt fun hu => by exact hu)

theorem execResponseCompletion_lawful (dt : Nat) : NextHolds Lawful (execResponseCompletion dt s) := by
  have advanced := advance_lawful h dt
  unfold execResponseCompletion
  dsimp only
  split <;> exact nextHolds_next advanced

theorem setup_lawful (p : List Byte) : Lawful (s.setup p) := by
  unfold State.setup
  repeat' split
  all_goals exact h

theorem loadPage_lawful (p : List Byte) : Lawful (s.loadPage p) := by
  unfold State.loadPage
  repeat' split
  all_goals exact h

theorem readPage_lawful (p : List Byte) : Lawful (s.readPage p) := by
  unfold State.readPage
  split <;> exact h

theorem takeEvents_lawful (p : List Byte) : Lawful (s.takeEvents p) := by
  unfold State.takeEvents
  split <;> exact h

theorem trim_lawful (p : List Byte) : Lawful (s.trim p) := by
  unfold State.trim
  repeat' split
  all_goals exact h

theorem takeSample_lawful (die : Int) : Lawful (s.takeSample die) := by
  unfold State.takeSample State.judgeRange
  dsimp only
  repeat' split
  all_goals exact h

/-- The three invariants hold after every command. -/
theorem exec_lawful (i : Instr) : NextHolds Lawful (exec i s) := by
  match i with
  | .powerOnReset | .resetPin => exact nextHolds_next ⟨⟨nofun, nofun⟩, nofun⟩
  | .resetRelease straps => exact execResetRelease_lawful h straps
  | .endOfEpoch => exact execEndOfEpoch_lawful h
  | .replayEnd => exact execReplayEnd_lawful h
  | .slotTime k => exact nextHolds_next (atPoint_lawful h _ (slotTime_lawful · k))
  | .markRelease => exact nextHolds_next (atExpiry_lawful h _ release_lawful)
  | .heldLowTest => exact nextHolds_next (atExpiry_lawful h _ fun hu => mark_lawful hu (heldLowTest_drive _ _))
  | .endOfMarkRegion => exact nextHolds_next (settle_lawful (atPoint_lawful h _ endOfMark_lawful))
  | .temperatureSample die => exact nextHolds_next (settle_lawful (atPoint_lawful h _ (takeSample_lawful · die)))
  | .talkWindowOpening =>
    refine nextHolds_next (atPoint_lawful h _ fun hu => ?_)
    split
    · exact openTalk_lawful hu
    · exact hu
  | .talkWindowClosing => exact nextHolds_next (settle_lawful (atPoint_lawful h _ closeTalk_lawful))
  | .solvePoint =>
    refine nextHolds_next (settle_lawful (atPoint_lawful h _ fun hu => ?_))
    split
    · exact solvePoint_lawful hu
    · exact hu
  | .refinTransition dt rising => exact execRefinTransition_lawful h dt rising
  | .refinEdgeAccepted => exact nextHolds_next (settle_lawful (atExpiry_lawful h _ candidateAccepted_lawful))
  | .blankingEnd => exact nextHolds_next (atExpiry_lawful h _ fun hu => by exact hu)
  | .refvalidDeassert dt => exact nextHolds_next (settle_lawful (refvalidPinBecomes_lawful h dt false))
  | .refvalidAssert dt => exact nextHolds_next (settle_lawful (refvalidPinBecomes_lawful h dt true))
  | .markFall dt => exact execMarkFall_lawful h dt
  | .markEdgeAccept => exact nextHolds_next (settle_lawful (atExpiry_lawful h _ acceptHeld_lawful))
  | .markRise dt => exact execMarkRise_lawful h dt
  | .markStuck => exact nextHolds_next (settle_lawful (atExpiry_lawful h _ markStuck_lawful))
  | .markRecovery => exact nextHolds_next (atExpiry_lawful h _ fun hu => mark_lawful hu rfl)
  | .wordFall dt => exact execWordFall_lawful h dt
  | .wordRise dt => exact execWordRise_lawful h dt
  | .lineIdle => exact nextHolds_next (atExpiry_lawful h _ lineIdle_lawful)
  | .arbitrationLoss => exact execArbitrationLoss_lawful h
  | .payloadCollision => exact execPayloadCollision_lawful h
  | .frameSent => exact execFrameSent_lawful h
  | .frameError => exact execFrameError_lawful h
  | .censusReceived => exact execCensusReceived_lawful h
  | .joinReceived => exact execJoinReceived_lawful h
  | .leaveReceived => exact execLeaveReceived_lawful h
  | .wordStuck => exact nextHolds_next (settle_lawful (atExpiry_lawful h _ wordStuck_lawful))
  | .wordRecovery => exact nextHolds_next (atExpiry_lawful h _ wordRecovered_lawful)
  | .supplySenseCrossing dt mV => exact execSupplySenseCrossing_lawful h dt mV
  | .supplyLow => exact nextHolds_next (settle_lawful (atExpiry_lawful h _ supplyFell_lawful))
  | .supplyRestored => exact nextHolds_next (settle_lawful (atExpiry_lawful h _ supplyRose_lawful))
  | .generatorStart g => exact nextHolds_next (atExpiry_lawful h _ (startPulse_lawful · g))
  | .pulseEnd g => exact nextHolds_next (atExpiry_lawful h _ (endPulse_lawful · g))
  | .inhibitPinChange dt a => exact execInhibitPinChange_lawful h dt a
  | .filteredLevelChange => exact nextHolds_next (settle_lawful (atExpiry_lawful h _ (filteredBecomes_lawful · _)))
  | .transactionStart dt => exact execTransactionStart_lawful h dt
  | .shortTransaction dt bits => exact nextHolds_next (atRise_lawful h dt id)
  | .readResponse dt count => exact execReadResponse_lawful h dt count
  | .setup dt payload => exact nextHolds_next (atRise_lawful h dt (setup_lawful · payload))
  | .loadTablePage dt payload => exact nextHolds_next (atRise_lawful h dt (loadPage_lawful · payload))
  | .begin dt => exact nextHolds_next (settle_lawful (atRise_lawful h dt takeBegin_lawful))
  | .status dt => exact nextHolds_next (atRise_lawful h dt fun hu => by exact hu)
  | .roster dt => exact nextHolds_next (atRise_lawful h dt fun hu => by exact hu)
  | .tablePage dt payload => exact nextHolds_next (atRise_lawful h dt (readPage_lawful · payload))
  | .events dt payload => exact nextHolds_next (atRise_lawful h dt (takeEvents_lawful · payload))
  | .withdraw dt => exact nextHolds_next (settle_lawful (atRise_lawful h dt withdraw_lawful))
  | .resume dt => exact nextHolds_next (settle_lawful (atRise_lawful h dt resume_lawful))
  | .trimGroup dt payload => exact nextHolds_next (atRise_lawful h dt (trim_lawful · payload))
  | .clearInhibit dt => exact nextHolds_next (settle_lawful (atRise_lawful h dt clearInhibit_lawful))
  | .unknownCommand dt code => exact execUnknownCommand_lawful h dt code
  | .responseCompletion dt => exact execResponseCompletion_lawful h dt
  | .wordSamplePoint => exact nextHolds_next (atExpiry_lawful h _ fun hu => by exact hu)
  | .wordBitStart => exact nextHolds_next (atExpiry_lawful h _ bitEnds_lawful)
  | .oscinStop dt => exact nextHolds_next (advance_lawful h dt)
  | .oscinReturn => exact execOscinReturn_lawful h

end Commands

/-- Settles O60: `exec_lawful`, command by command. -/
theorem stepKeepsDrivesReasonsAndInhibit : Obligations.StepKeepsDrivesReasonsAndInhibit := by
  unfold Obligations.StepKeepsDrivesReasonsAndInhibit
  intro s t h e
  rw [← lawful_iff] at h ⊢
  unfold step at e
  split at e
  · rwa [← Host.Outcome.next.inj e]
  · exact exec_lawful (by exact h) _ _ e

end Sys2Proof.Machine

/-! # The own mark (R40, R41, R48, R49) -/

namespace Sys2Proof.Machine

open Sys2Proof

/-! ## The echo record and the evidence (R48, R49, R52) -/

/-- The own echo record is filled with a set open and the line-fault flag clear (R48, R52). -/
theorem fillEcho_eq (line : Level) (x : Stamp) (m : MarkUnit) : m.fillEcho line x = { m with
    echo := if m.capture.isSome = true ∧ m.fault = false then
        match line with
        | .high => ⟨true, false, some x, false⟩
        | .low => ⟨true, true, none, false⟩
      else m.echo } := by
  unfold MarkUnit.fillEcho
  by_cases h : m.capture.isSome = true ∧ m.fault = false
  · rw [if_pos (by simpa using h), if_pos h]
    cases line <;> rfl
  · rw [if_neg (by simpa using h), if_neg h]

/-- Evidence is found with a set open and the line-fault flag clear (R49, R52). -/
theorem find_eq (c : Cause) (m : MarkUnit) : m.find c = { m with
    evidence := if m.capture.isSome = true ∧ m.fault = false then m.evidence.add c else m.evidence } := by
  unfold MarkUnit.find
  by_cases h : m.capture.isSome = true ∧ m.fault = false
  · rw [if_pos (by simpa using h), if_pos h]
  · rw [if_neg (by simpa using h), if_neg h]

/-- From BEGIN a fall becomes the candidate and starts the low timer (R41, R42, R51). -/
theorem markFalls_begun (s : State) (h : s.begun = true) : s.markFalls = { s with
    pins.mark := .low
    mark := { s.mark with candidate := some ⟨s.stampNow, 0, s.mark.highTime.getD 0, false⟩
                          lowTimer := some 0, recovery := none } } :=
  if_pos h

theorem markFalls_not_begun (s : State) (h : s.begun = false) : s.markFalls = { s with pins.mark := .low } :=
  if_neg (by show ¬ s.begun = true; simp [h])

theorem begun_of_active {s : State} (h : s.mem.state.active = true) : s.begun = true := by
  obtain hs | hs := (active_iff _).1 h <;> simp [State.begun, hs]

/-- The own mark on a line that stands high (R40, R41, R48). -/
theorem assertMark_high (s : State) (ha : s.mem.state.active = true) (hl : s.pins.mark = .high) :
    s.assertMark = { s with
      pins.mark := .low
      mark := { s.mark with
        drive := some (ns 8000)
        echo := if s.mark.capture.isSome = true ∧ s.mark.fault = false then ⟨true, false, some s.stampNow, false⟩
          else s.mark.echo
        candidate := some ⟨s.stampNow, 0, s.mark.highTime.getD 0, false⟩
        lowTimer := some 0
        recovery := none } } := by
  unfold State.assertMark
  simp only [hl, fillEcho_eq]
  exact markFalls_begun _ (begun_of_active ha)

/-- The own mark on a line that is low already (R40, R48, R49). -/
theorem assertMark_low (s : State) (hl : s.pins.mark = .low) :
    s.assertMark = { s with
      mark := { s.mark with
        drive := some (ns 8000)
        echo := if s.mark.capture.isSome = true ∧ s.mark.fault = false then ⟨true, true, none, false⟩ else s.mark.echo
        evidence := if s.mark.capture.isSome = true ∧ s.mark.fault = false then s.mark.evidence.add .lowAtAssert
          else s.mark.evidence } } := by
  unfold State.assertMark
  simp only [hl, fillEcho_eq, find_eq]

/-! ## The commands (R40, R48) -/

theorem exec_slotTime_due {s : State} {k : NodeId} (h : s.pointDue (.slot k) = true) :
    exec (.slotTime k) s = .next ((s.raise (.slot k)).slotTime k) :=
  congrArg _ (atPoint_due _ _ s h)

theorem slotTime_own (s : State) (k : NodeId) (hk : k = s.mem.nodeId) (ha : s.mem.state.active = true) :
    s.slotTime k = s.assertMark :=
  if_pos ⟨hk, ha⟩

theorem slotTime_other (s : State) (k : NodeId) (h : k ≠ s.mem.nodeId ∨ s.mem.state.active = false) :
    s.slotTime k = s :=
  if_neg fun own => h.elim (· own.1) fun ha => by simp [ha] at own

theorem exec_markRelease_due {s : State} {r : Nat} (hr : s.mark.drive = some r) (h : s.dueWithin r = true) :
    exec .markRelease s = .next { s.runTo (s.ts.sitePhase + r) with
      mark := (s.runTo (s.ts.sitePhase + r)).mark.release } := by
  show Host.Outcome.next (s.atExpiry s.mark.drive _) = _
  rw [hr, atExpiry_due _ _ s h]

theorem exec_heldLowTest_due {s : State} {r : Nat} (hr : s.mark.heldWatch = some r) (h : s.dueWithin r = true) :
    exec .heldLowTest s = .next { s.runTo (s.ts.sitePhase + r) with
      mark := (s.runTo (s.ts.sitePhase + r)).mark.heldLowTest (s.runTo (s.ts.sitePhase + r)).pins.mark } := by
  show Host.Outcome.next (s.atExpiry s.mark.heldWatch _) = _
  rw [hr, atExpiry_due _ _ s h]

/-- MARK still low at the end of the watch sets the held-low result (R48, R49). -/
theorem heldLowTest_held (m : MarkUnit) (ha : m.echo.asserted = true) (hf : m.fault = false) :
    m.heldLowTest .low = { m with
      heldWatch := none
      echo := { m.echo with heldLow := true }
      evidence := if m.capture.isSome then m.evidence.add .heldLow else m.evidence } := by
  simp [MarkUnit.heldLowTest, ha, hf, find_eq]

theorem heldLowTest_not_held (line : Level) (m : MarkUnit)
    (h : line = .high ∨ m.echo.asserted = false ∨ m.fault = true) : m.heldLowTest line = { m with heldWatch := none } :=
  if_neg fun held => by
    obtain ⟨hl, ha, hf⟩ := held
    obtain hl' | ha' | hf' := h
    · rw [hl] at hl'; cases hl'
    · rw [ha'] at ha; cases ha
    · rw [hf'] at hf; cases hf

/-- Settles O9: the assertion by the level of the line, the release, and the held-low test. -/
theorem ownMarkIsAssertedReleasedAndWatched : Obligations.OwnMarkIsAssertedReleasedAndWatched := by
  unfold Obligations.OwnMarkIsAssertedReleasedAndWatched
  refine ⟨fun s k due => ?_, fun s r hr due => ?_, fun s r hr due => ?_⟩
  · dsimp only
    rw [exec_slotTime_due due]
    have inactive (hj : s.mem.state ≠ .joining) (hm : s.mem.state ≠ .member) : s.mem.state.active = false :=
      Bool.eq_false_iff.2 fun ha => ((active_iff _).1 ha).elim hj hm
    refine ⟨fun h => congrArg _ (slotTime_other (s.raise _) k (h.imp_right fun ⟨hj, hm⟩ => inactive hj hm)),
      fun hk ha hl => congrArg _ ?_, fun hk ha hl => congrArg _ ?_⟩
    · have active := (active_iff _).2 ha
      exact (slotTime_own (s.raise _) k hk active).trans (assertMark_high (s.raise _) active hl)
    · exact (slotTime_own (s.raise _) k hk ((active_iff _).2 ha)).trans (assertMark_low (s.raise _) hl)
  · exact exec_markRelease_due hr due
  · dsimp only
    rw [exec_heldLowTest_due hr due]
    refine ⟨fun hl ha hf => ?_, fun h => ?_⟩
    · rw [hl, heldLowTest_held _ ha hf]
    · rw [heldLowTest_not_held _ _ h]

end Sys2Proof.Machine

/-! # Accepted edges of MARK (R39, R41, R42, R44 to R49, R52, R84 to R86) -/

namespace Sys2Proof.Machine

open Sys2Proof

/-! ## An accepted edge, mode by mode (R41, R42, R52) -/

theorem exec_markEdgeAccept_due {s : State} {c : MarkCandidate} (hc : s.mark.candidate = some c)
    (h : s.dueWithin (ns 2000 - c.age) = true) :
    exec .markEdgeAccept s = .next ((s.runTo (s.ts.sitePhase + (ns 2000 - c.age))).acceptMark c).settle := by
  have aged (p : Nat) : ∃ n, (s.runTo p).mark.candidate = some { c with age := n } :=
    ⟨_, congrArg (Option.map _) hc⟩
  obtain ⟨n, held⟩ := aged (s.ts.sitePhase + (ns 2000 - c.age))
  show Host.Outcome.next (s.atExpiry (s.mark.candidate.map _) State.acceptHeld).settle = _
  rw [hc, Option.map_some, atExpiry_due _ _ s h]
  unfold State.acceptHeld
  rw [held]
  rfl

theorem mode_idle {x : MembershipState} (h : x = .unconfigured ∨ x = .withdrawn ∨ x = .conflict) : x.mode = .idle := by
  obtain rfl | rfl | rfl := h <;> rfl

theorem mode_opened {x : MembershipState} (h : x = .listen ∨ x = .apart) : x.mode = .opened := by
  obtain rfl | rfl := h <;> rfl

theorem mode_windowed {x : MembershipState} (h : x = .aligning ∨ x = .joining ∨ x = .member) : x.mode = .windowed := by
  obtain rfl | rfl | rfl := h <;> rfl

/-! ## An edge heard while listening (R84 to R86) -/

section Heard

variable (m : Membership) (x : Stamp) {high : Nat}

theorem takeEdge_short (h : high < ns 500000000) : m.takeEdge x high = { m with heard := true } :=
  if_neg (Nat.not_le.2 h)

/-- A train start with no sender in the record that it closes. -/
theorem takeEdge_unsent (h : ns 500000000 ≤ high) (hr : m.frameRecord = []) :
    m.takeEdge x high = { m with
      heard := true, trainStart := true, closedRecord := [], frameRecord := [], history := [], newest := none } := by
  rw [Membership.takeEdge, if_pos h]
  simp [Membership.takeTrainStart, hr]

/-- A train start that forms a coarse offset from the lowest sender in the record. -/
theorem takeEdge_train {first : FrameNote} {rest : List FrameNote} (h : ns 500000000 ≤ high)
    (hr : m.frameRecord = first :: rest) :
    m.takeEdge x high = { m with
      heard := true, trainStart := true, closedRecord := first :: rest, frameRecord := []
      history := appendBounded 3 m.history (fold ((x.phase : Int) - ns (62500 * first.sender.val)))
      newest := some ⟨x, first.sender⟩ } := by
  rw [Membership.takeEdge, if_pos h]
  simp [Membership.takeTrainStart, hr]

end Heard

/-- Settles O11: the edge by mode, and in OPEN by the high time and the frame record. -/
theorem acceptedEdgesAreHeardWhileListening : Obligations.AcceptedEdgesAreHeardWhileListening := by
  unfold Obligations.AcceptedEdgesAreHeardWhileListening
  intro s c hc due empty
  dsimp only
  rw [exec_markEdgeAccept_due hc due]
  generalize s.ts.sitePhase + (ns 2000 - c.age) = p
  refine ⟨fun hf => ?_, fun hf hm => ?_, fun hf hm => ?_⟩
  · rw [acceptMark_fault (s := s.runTo p) c hf]
    exact congrArg _ (settle_nil _ empty)
  · rw [acceptMark_idle (s := s.runTo p) c hf (mode_idle hm)]
    exact congrArg _ (settle_nil _ empty)
  · rw [acceptMark_opened (s := s.runTo p) c hf (mode_opened hm), settle_nil _ (by exact empty)]
    refine ⟨fun hh => ?_, fun hh hr => ?_, fun first rest hh hr => ?_⟩
    · rw [takeEdge_short _ _ hh]; rfl
    · rw [takeEdge_unsent (s.runTo p).mem _ hh hr]; rfl
    · rw [takeEdge_train (s.runTo p).mem _ hh hr]; rfl

/-! ## Attribution (R44 to R47, R49) -/

/-- Outside the early range, an edge belongs to the slot in whose window its phase lies (R44). -/
theorem slotAt_eq_some_iff (phase : Nat) (k : NodeId) : slotAt phase = some k ↔ inSlotWindow phase k := by
  have hk := k.isLt
  unfold slotAt inSlotWindow ns
  dsimp only
  split
  next hq =>
    split
    next hr => rw [Option.some_inj, Fin.ext_iff]; dsimp only; omega
    next hr => simp only [reduceCtorEq, false_iff]; omega
  next hq => simp only [reduceCtorEq, false_iff]; omega

theorem slotAt_eq_none (phase : Nat) (h : ∀ k, ¬ inSlotWindow phase k) : slotAt phase = none := by
  cases hs : slotAt phase with
  | none => rfl
  | some k => exact absurd ((slotAt_eq_some_iff phase k).1 hs) (h k)

theorem countContest_eq (x : SlotReading) (m : MarkUnit) : m.countContest x = { m with
    contestedCount := if x.isOne then min 65535 (m.contestedCount + 1) else m.contestedCount } := by
  unfold MarkUnit.countContest
  cases x.isOne <;> rfl

section Attribute

variable (m : MarkUnit) (own k : NodeId) (x : Int)

/-- An edge in the node's own window (R49). -/
theorem takeSlot_own (hc : m.capture.isSome = true) (hf : m.fault = false) (hk : k = own) :
    m.takeSlot own k x = { m with evidence := m.evidence.add .otherEdge } := by
  rw [MarkUnit.takeSlot, if_pos hk, find_eq, if_pos ⟨hc, hf⟩]

/-- An edge in another node's window (R44, R46). -/
theorem takeSlot_other {set : CaptureSet} (hc : m.capture = some set) (hk : k ≠ own) :
    m.takeSlot own k x = { m with
      capture := some { set with slots := set.slots.set k.val ((set.slots.get k).take x) k.isLt }
      contestedCount := if (set.slots.get k).isOne then min 65535 (m.contestedCount + 1) else m.contestedCount } := by
  simp only [MarkUnit.takeSlot, if_neg hk, hc, countContest_eq]

theorem takeEarly_own (phase : Nat) (h : own = 0) :
    m.takeEarly own phase = { m with earlyOwn := if m.earlyOwn = .ended then .ended else .lasting } :=
  if_pos h

theorem takeEarly_other (phase : Nat) (h : own ≠ 0) :
    m.takeEarly own phase = { m with
      early := m.early.take ((phase : Int) - 16000000000)
      contestedCount := if m.early.isOne then min 65535 (m.contestedCount + 1) else m.contestedCount } := by
  rw [MarkUnit.takeEarly, if_neg h, countContest_eq]

variable {s : State} {c : MarkCandidate}

section Judged

variable (hf : s.mark.fault = false) (hm : s.mem.state.mode = .windowed) (hn : s.mark.echo.stamp ≠ some c.stamp)

include hf hm hn

theorem acceptMark_early (he : ns 999975000 ≤ c.stamp.phase) (hx : c.crossed = false) :
    s.acceptMark c = { s.edgeTaken with
      mark := s.edgeTaken.mark.takeEarly s.mem.nodeId c.stamp.phase } := by
  rw [acceptMark_windowed c hf hm hn, if_pos (by exact he), if_neg (by simp [hx])]

/-- An edge of the early range that is accepted after the boundary belongs to slot 0 of the set that has opened
(R44). -/
theorem acceptMark_crossed (he : ns 999975000 ≤ c.stamp.phase) (hx : c.crossed = true)
    (hc : s.mark.capture.isSome = true) :
    s.acceptMark c = { s.edgeTaken with
      mark := s.edgeTaken.mark.takeSlot s.mem.nodeId 0 ((c.stamp.phase : Int) - 16000000000) } := by
  rw [acceptMark_windowed c hf hm hn, if_pos (by exact he), if_pos hx, if_pos hc]

theorem acceptMark_slot (he : c.stamp.phase < ns 999975000) (hx : c.crossed = false)
    (hc : s.mark.capture.isSome = true) {k : NodeId} (hk : inSlotWindow c.stamp.phase k) :
    s.acceptMark c = { s.edgeTaken with
      mark := s.edgeTaken.mark.takeSlot s.mem.nodeId k (captureOf c.stamp.phase k) } := by
  rw [acceptMark_windowed c hf hm hn, if_neg (by exact Nat.not_le.2 he),
    if_neg (by simpa [Option.isSome_iff_ne_none] using hc), if_neg (by simp [hx]), (slotAt_eq_some_iff _ k).2 hk]

theorem acceptMark_stray (he : c.stamp.phase < ns 999975000) (hx : c.crossed = false)
    (hc : s.mark.capture.isSome = true) (hk : ∀ k, ¬ inSlotWindow c.stamp.phase k) :
    s.acceptMark c = s.edgeTaken.strayEdge c.stamp.phase := by
  rw [acceptMark_windowed c hf hm hn, if_neg (by exact Nat.not_le.2 he),
    if_neg (by simpa [Option.isSome_iff_ne_none] using hc), if_neg (by simp [hx]), slotAt_eq_none _ hk]

end Judged

/-- A stray edge is counted, and posted once in an epoch (R47). -/
theorem strayEdge_settle (phase : Nat) (empty : s.port.outbox = []) :
    (s.strayEdge phase).settle =
      let w : State := { s with mark := { s.mark with strayCount := min 65535 (s.mark.strayCount + 1)
                                                      strayEpoch := some s.ts.epoch } }
      if s.mark.strayEpoch = some s.ts.epoch then w else w.stored .strayMark none (some (signed32 (toNs phase))) := by
  unfold State.strayEdge
  dsimp only
  split
  next he =>
    rw [settle_nil _ (by exact empty)]
    simp only [satInc16, satAdd, he]
  next => exact settle_post _ _ _ _ _ empty

end Attribute

/-- Settles O12: the own echo, the slots, the stray edge, and the two ends of the early range. -/
theorem acceptedEdgesAreAttributedToSlots : Obligations.AcceptedEdgesAreAttributedToSlots := by
  unfold Obligations.AcceptedEdgesAreAttributedToSlots
  intro s c set hc due empty hset hf hm
  dsimp only
  rw [exec_markEdgeAccept_due hc due]
  generalize s.ts.sitePhase + (ns 2000 - c.age) = p
  have clear : (s.runTo p).mark.fault = false := hf
  have mode : (s.runTo p).mem.state.mode = .windowed := mode_windowed hm
  have opened : (s.runTo p).edgeTaken.mark.capture = some set := hset
  have isOpen : (s.runTo p).mark.capture.isSome = true := Option.isSome_of_eq_some hset
  have quiet : (s.runTo p).edgeTaken.port.outbox = [] := empty
  have own : (s.runTo p).mem.nodeId = s.mem.nodeId := rfl
  refine ⟨fun he => ?_, fun he hx hp => ⟨fun k hk ho => ?_, fun k hk ho => ?_, fun hk => ?_⟩,
    fun he hx hp => ⟨fun ho => ?_, fun ho => ?_⟩, fun he hx hp => ⟨fun ho => ?_, fun ho => ?_⟩⟩
  · rw [acceptMark_echo c clear mode he, settle_nil _ quiet]; rfl
  · rw [acceptMark_slot clear mode he hp hx isOpen hk, own,
      takeSlot_own (s.runTo p).edgeTaken.mark _ _ _ isOpen clear ho,
      settle_nil _ (by exact quiet)]
    rfl
  · rw [acceptMark_slot clear mode he hp hx isOpen hk, own, takeSlot_other _ _ _ _ opened ho,
      settle_nil _ (by exact quiet)]
    cases set.slots.get k <;> rfl
  · rw [acceptMark_stray clear mode he hp hx isOpen hk]
    exact congrArg _ (strayEdge_settle _ quiet)
  · rw [acceptMark_early clear mode he hp hx, own, takeEarly_own _ _ _ ho, settle_nil _ (by exact quiet)]; rfl
  · rw [acceptMark_early clear mode he hp hx, own, takeEarly_other _ _ _ ho, settle_nil _ (by exact quiet)]
    have held : (s.runTo p).edgeTaken.mark.early = s.mark.early := rfl
    rw [held]
    cases s.mark.early <;> rfl
  · rw [acceptMark_crossed clear mode he hp hx isOpen, own,
      takeSlot_own (s.runTo p).edgeTaken.mark _ _ _ isOpen clear (Eq.symm ho),
      settle_nil _ (by exact quiet)]
    rfl
  · rw [acceptMark_crossed clear mode he hp hx isOpen, own, takeSlot_other _ _ _ _ opened (Ne.symm ho),
      settle_nil _ (by exact quiet)]
    cases set.slots.get 0 <;> rfl

end Sys2Proof.Machine

/-! # Low periods of MARK and their end (R41, R42, R50, R51, R53, R92) -/

namespace Sys2Proof.Machine

open Sys2Proof

/-! ## Rises (R41, R42, R50, R53) -/

theorem takeSlot_keeps_low (own k : NodeId) (x : Int) (m : MarkUnit) :
    (m.takeSlot own k x).lowTimer = m.lowTimer ∧ (m.takeSlot own k x).fault = m.fault := by
  unfold MarkUnit.takeSlot
  split
  · rw [find_eq]; exact ⟨rfl, rfl⟩
  · split
    · exact ⟨rfl, rfl⟩
    · rw [countContest_eq]; exact ⟨rfl, rfl⟩

theorem takeEarly_keeps_low (own : NodeId) (p : Nat) (m : MarkUnit) :
    (m.takeEarly own p).lowTimer = m.lowTimer ∧ (m.takeEarly own p).fault = m.fault := by
  unfold MarkUnit.takeEarly
  split
  · exact ⟨rfl, rfl⟩
  · rw [countContest_eq]; exact ⟨rfl, rfl⟩

theorem strayEdge_keeps_low (s : State) (p : Nat) :
    (s.strayEdge p).mark.lowTimer = s.mark.lowTimer ∧ (s.strayEdge p).mark.fault = s.mark.fault := by
  unfold State.strayEdge
  dsimp only
  split <;> exact ⟨rfl, rfl⟩

/-- An accepted edge leaves the low period and the line-fault flag as they are. -/
theorem acceptMark_keeps_low (s : State) (c : MarkCandidate) :
    (s.acceptMark c).mark.lowTimer = s.mark.lowTimer ∧ (s.acceptMark c).mark.fault = s.mark.fault :=
  acceptMark_of (P := fun t => t.mark.lowTimer = s.mark.lowTimer ∧ t.mark.fault = s.mark.fault) c
    ⟨rfl, rfl⟩ ⟨rfl, rfl⟩ ⟨rfl, rfl⟩ (fun _ _ => takeSlot_keeps_low _ _ _ s.edgeTaken.mark)
    (fun _ => takeEarly_keeps_low _ _ s.edgeTaken.mark) (fun _ => strayEdge_keeps_low s.edgeTaken _)

theorem candidateAtRise_keeps_low (s : State) :
    s.candidateAtRise.mark.lowTimer = s.mark.lowTimer ∧ s.candidateAtRise.mark.fault = s.mark.fault := by
  unfold State.candidateAtRise
  split
  · split
    · exact acceptMark_keeps_low s _
    · exact ⟨rfl, rfl⟩
  · exact ⟨rfl, rfl⟩

/-- The line back at high after a low of `low`, before the evidence pending on it is decided (R42, R53). -/
def State.lineRisen (low : Nat) (s : State) : State :=
  { s with pins.mark := .high, mark := s.mark.rise low }

theorem lineRisen_eq (s : State) (low : Nat) {fault : Bool} (h : s.mark.fault = fault) :
    s.lineRisen low = { s with
      pins.mark := .high
      mark := { s.mark with
        lowTimer := none
        heldWatch := none
        earlyOwn := s.mark.earlyOwn.rise low
        recovery := if fault then some 0 else none
        highTime := if fault then none
          else if ns 2000 ≤ low ∨ s.mark.highTime = none then some 0 else s.mark.highTime } } := by
  subst h
  rfl

theorem markRises_short (s : State) {low : Nat} (hl : s.mark.lowTimer = some low) (h : low < ns 1000000) :
    s.markRises = (s.candidateAtRise.lineRisen low).confirmEvidence := by
  have lasted : s.candidateAtRise.mark.lowTimer = some low := (candidateAtRise_keeps_low s).1.trans hl
  unfold State.markRises
  simp only [lasted, Option.getD_some, if_pos h]
  rfl

theorem markRises_long (s : State) {low : Nat} (hl : s.mark.lowTimer = some low) (h : ns 1000000 ≤ low) :
    s.markRises = { s.candidateAtRise.lineRisen low with mark.evidence.pending := [] } := by
  have lasted : s.candidateAtRise.mark.lowTimer = some low := (candidateAtRise_keeps_low s).1.trans hl
  unfold State.markRises
  simp only [lasted, Option.getD_some, if_neg (Nat.not_lt.2 h)]
  rfl

section Confirm

variable (s : State)

theorem clearPending_none (h : s.mark.evidence.pending = []) : { s with mark.evidence.pending := [] } = s :=
  calc { s with mark.evidence.pending := [] }
    _ = { s with mark.evidence.pending := s.mark.evidence.pending } := by rw [h]
    _ = s := rfl

theorem confirmEvidence_none (h : s.mark.evidence.pending = []) : s.confirmEvidence = s := by
  simp [State.confirmEvidence, h]

/-- A set reports once (R50). -/
theorem confirmEvidence_reported (h : s.mark.evidence.pending ≠ []) (hr : s.mark.evidence.reported = true) :
    s.confirmEvidence = { s with mark.evidence := ⟨true, []⟩ } := by
  unfold State.confirmEvidence
  split
  next hn => exact absurd hn h
  next => rw [if_pos hr]

theorem confirmEvidence_single {cause : Cause} (h : s.mark.evidence = ⟨false, [cause]⟩) :
    s.confirmEvidence = { s with mark.evidence := ⟨true, []⟩ }.report cause := by
  simp [State.confirmEvidence, h, State.choose]

/-- Of several pieces any one is reported (R50, log entry 4). -/
theorem confirmEvidence_several {c1 c2 : Cause} {cs : List Cause} (h : s.mark.evidence = ⟨false, c1 :: c2 :: cs⟩) :
    ∃ cause ∈ s.mark.evidence.pending,
      s.confirmEvidence = { s with mark.evidence := ⟨true, []⟩, freeCount := s.freeCount + 1 }.report cause := by
  refine ⟨(s.choose c1 (c2 :: cs)).1, by rw [h]; exact choose_in c1 (c2 :: cs) s, ?_⟩
  simp [State.confirmEvidence, h, State.choose, State.freeNat]

end Confirm

/-! ## The commands -/

theorem exec_markFall (s : State) (dt : Nat) :
    exec (.markFall dt) s = .next (if s.pins.mark = .high then (s.advance dt).markFalls else s.advance dt) := by
  show execMarkFall dt s = _
  unfold execMarkFall
  simp only [advance_pins]
  cases s.pins.mark <;> rfl

theorem exec_markRise_begun {s : State} {dt : Nat} (hb : s.begun = true) (hl : s.pins.mark = .low)
    (hd : (s.advance dt).mark.drive = none) : exec (.markRise dt) s = .next (s.advance dt).markRises.settle := by
  show execMarkRise dt s = _
  unfold execMarkRise
  simp only [advance_pins, hl, hd, advance_begun, hb, if_true]

/-- Settles O10: falls by the level of the line and by BEGIN, rises by the length of the low and the evidence pending
on it. -/
theorem markFallsAndRisesBoundTheLowPeriod : Obligations.MarkFallsAndRisesBoundTheLowPeriod := by
  unfold Obligations.MarkFallsAndRisesBoundTheLowPeriod
  refine ⟨fun s dt => ?_, fun s dt low => ?_⟩
  · dsimp only
    rw [exec_markFall]
    refine ⟨fun hb hl => ?_, fun hb hl => ?_, fun hl => ?_⟩
    · rw [if_pos hl, markFalls_begun _ ((advance_begun s dt).trans hb)]
    · rw [if_pos hl, markFalls_not_begun _ ((advance_begun s dt).trans hb)]
    · rw [if_neg (by simp [hl])]
  · intro u hb hl hd ht b v
    have fault : u.candidateAtRise.mark.fault = s.mark.fault :=
      (candidateAtRise_keeps_low u).2.trans (advance_mark_fault s dt)
    have risen : v = u.candidateAtRise.lineRisen low := (lineRisen_eq u.candidateAtRise low fault).symm
    rw [exec_markRise_begun hb hl hd]
    refine ⟨fun hn => ?_, fun hlow => ?_, fun hlow hr hn => ?_, fun cause hlow he => ?_, fun c1 c2 cs hlow he => ?_⟩
    · by_cases hlow : low < ns 1000000
      · rw [markRises_short u ht hlow, ← risen, confirmEvidence_none v hn]
      · rw [markRises_long u ht (Nat.not_lt.1 hlow), ← risen, clearPending_none v hn]
    · rw [markRises_long u ht hlow, ← risen]
    · rw [markRises_short u ht hlow, ← risen, confirmEvidence_reported v hn hr]
    · rw [markRises_short u ht hlow, ← risen, confirmEvidence_single v he]
    · obtain ⟨cause, hc, e⟩ := confirmEvidence_several v he
      exact ⟨cause, hc, by rw [markRises_short u ht hlow, ← risen, e]⟩

end Sys2Proof.Machine

/-! # The stuck line and the end of the mark region (R51, R53, R54, R72, R84, R86, R90) -/

namespace Sys2Proof.Machine

open Sys2Proof

/-! ## A stuck line and its recovery (R51, R53, R78) -/

theorem listening_iff (x : MembershipState) : x.listening = true ↔ x = .listen ∨ x = .apart := by
  cases x <;> simp [MembershipState.listening]

/-- The capture suspended by a stuck line (R51): what a listening node has heard so far is void (R84, R86). -/
def State.suspendCapture (s : State) : State :=
  { s with
    mark := s.mark.stuck
    mem := if s.mem.state = .listen ∨ s.mem.state = .apart then s.mem.captureSuspended else s.mem }

theorem markStuck_again (s : State) (h : s.mark.fault = true) : s.markStuck = s := if_pos h

theorem markStuck_declares (s : State) (h : s.mark.fault = false) :
    s.markStuck = s.suspendCapture.post .mark .lineFault none (some 0) := by
  unfold State.markStuck State.suspendCapture
  rw [if_neg (by simp [h])]
  dsimp only
  by_cases hl : s.mem.state = .listen ∨ s.mem.state = .apart
  · rw [if_pos hl, if_pos (by exact (listening_iff _).2 hl)]; rfl
  · rw [if_neg hl, if_neg (by exact fun hx => hl ((listening_iff _).1 hx))]; rfl

theorem exec_markStuck_due {s : State} {n : Nat} (hl : s.mark.lowTimer = some n)
    (due : s.dueWithin (ns 1000000 - n) = true) :
    exec .markStuck s = .next (s.runTo (s.ts.sitePhase + (ns 1000000 - n))).markStuck.settle := by
  show Host.Outcome.next (s.atExpiry (toLimit (ns 1000000) s.mark.lowTimer) State.markStuck).settle = _
  rw [hl, toLimit, Option.map_some, atExpiry_due _ _ s due]

theorem exec_markRecovery_due {s : State} {n : Nat} (hr : s.mark.recovery = some n)
    (due : s.dueWithin (ns 1000000 - n) = true) :
    exec .markRecovery s = .next { s.runTo (s.ts.sitePhase + (ns 1000000 - n)) with
      mark := (s.runTo (s.ts.sitePhase + (ns 1000000 - n))).mark.recovered } := by
  show Host.Outcome.next (s.atExpiry (toLimit (ns 1000000) s.mark.recovery) _) = _
  rw [hr, toLimit, Option.map_some, atExpiry_due _ _ s due]

theorem exec_wordRecovery_due {s : State} {n : Nat} (hr : s.frame.recovery = some n)
    (due : s.dueWithin (ns 1000000 - n) = true) :
    exec .wordRecovery s = .next (s.runTo (s.ts.sitePhase + (ns 1000000 - n))).wordRecovered := by
  show Host.Outcome.next (s.atExpiry (toLimit (ns 1000000) s.frame.recovery) State.wordRecovered) = _
  rw [hr, toLimit, Option.map_some, atExpiry_due _ _ s due]

/-- Settles O13: the declaration by the line-fault flag, then each line's recovery. -/
theorem stuckMarkLineSuspendsCaptureUntilItRecovers : Obligations.StuckMarkLineSuspendsCaptureUntilItRecovers := by
  unfold Obligations.StuckMarkLineSuspendsCaptureUntilItRecovers
  refine ⟨fun s n hl due empty => ?_, fun s n hr due => ?_, fun s n hr due => ?_⟩
  · dsimp only
    rw [exec_markStuck_due hl due]
    generalize s.ts.sitePhase + (ns 1000000 - n) = p
    refine ⟨fun hf => ?_, fun hf => ?_⟩
    · rw [markStuck_again (s.runTo p) hf]
      exact congrArg _ (settle_nil _ empty)
    · rw [markStuck_declares (s.runTo p) hf]
      exact congrArg _ (settle_post (s.runTo p).suspendCapture _ _ _ _ empty)
  · exact exec_markRecovery_due hr due
  · dsimp only
    rw [exec_wordRecovery_due hr due]
    generalize s.ts.sitePhase + (ns 1000000 - n) = p
    exact ⟨fun hn => congrArg _ (tryStart_nothing _ hn), fun what f hs => congrArg _ (tryStart_starts _ what f hs)⟩

/-! ## The end of the mark region (R54, R72, R90) -/

theorem mem_allIds : ∀ k : NodeId, k ∈ allIds := by decide

theorem someCapture_iff (s : State) : s.someCapture = true ↔ ∃ k, (s.readSlot k).isOne = true := by
  simp [State.someCapture, mem_allIds]

theorem someCapture_eq_false (s : State) (h : ∀ k, (s.readSlot k).isOne = false) : s.someCapture = false := by
  simp [State.someCapture, h]

/-- A set with a slot ONE: an epoch counted aligned, and the empty sets counted afresh (R90). -/
theorem judgeAligning_captured (s : State) (h : s.someCapture = true) :
    s.judgeAligning = s.counted (min 2 (s.mem.aligningCount + 1)) 0 := by
  unfold State.judgeAligning
  rw [if_pos h]
  rfl

theorem endOfMark_judged (s : State) (ha : s.mem.state = .aligning) (hc : s.mark.capture.isSome = true) :
    s.endOfMark = s.judgeAligning.tryStart := by
  unfold State.endOfMark
  rw [if_pos ⟨ha, hc⟩]

theorem endOfMark_unjudged (s : State) (h : s.mem.state ≠ .aligning ∨ s.mark.capture = none) :
    s.endOfMark = s.tryStart := by
  unfold State.endOfMark
  rw [if_neg (by rintro ⟨ha, hc⟩; obtain h | h := h <;> simp_all)]

theorem exec_endOfMarkRegion_due {s : State} (due : s.pointDue .endOfMark = true) :
    exec .endOfMarkRegion s = .next (s.raise .endOfMark).endOfMark.settle := by
  show Host.Outcome.next (s.atPoint .endOfMark State.endOfMark).settle = _
  rw [atPoint_due _ _ s due]

/-- The counts of an aligning node have no part in starting a frame (R72). -/
theorem tryStart_counted_nothing {s : State} (a e : Nat) (h : s.nothingStarts) :
    (s.counted a e).tryStart = s.counted a e :=
  tryStart_nothing (s.counted a e) h

/-- What one event does to the port depends on the port and on what the event says, not on who posted it. -/
theorem offer_port_congr {s t : State} {p q : Posting} (hp : s.port = t.port) (he : p.epoch = q.epoch)
    (hk : p.kind = q.kind) (hs : p.subject = q.subject) (hv : p.value = q.value) :
    (s.offer p).port = (t.offer q).port := by
  unfold State.offer
  rw [hp, he, hk, hs, hv]
  split <;> simp_all

theorem changeState_port (s : State) (new : MembershipState) :
    (s.changeState new).port = { s.port with outbox := s.port.outbox ++ [s.changePosting new] } := by
  unfold State.changeState; dsimp only; split <;> rfl

theorem enterListen_port (s : State) :
    s.enterListen.port = { s.port with outbox := s.port.outbox ++ [s.changePosting .listen] } := by
  rw [State.enterListen, changeState_port]; rfl

/-- A return to LISTEN with nothing else posted stores one event, whether or not a frame starts with it (R82). -/
theorem enterListen_settle_port (s : State) (h : s.port.outbox = []) :
    s.enterListen.tryStart.settle.port = (s.stored .membershipChange none (some 1)).port := by
  have posted : s.enterListen.tryStart.port = { s.port with outbox := [s.changePosting .listen] } := by
    simp [enterListen_port, h]
  rw [settle_single _ (s.changePosting .listen) (by rw [posted])]
  refine offer_port_congr ?_ rfl rfl rfl rfl
  dsimp only
  rw [posted, ← h]

/-- Settles O14: without a set to judge nothing is counted; otherwise the set's slots decide. -/
theorem aligningReadsTheCaptureSet : Obligations.AligningReadsTheCaptureSet := by
  unfold Obligations.AligningReadsTheCaptureSet
  intro s due empty
  dsimp only
  rw [exec_endOfMarkRegion_due due]
  have empty' : (s.raise .endOfMark).port.outbox = [] := by simpa using empty
  refine ⟨fun what f hn hs => ?_, fun hn hs => ?_,
    fun ha hc hs => ⟨fun hone => ?_, fun hnone hlt => ?_, fun hnone hle => ?_⟩⟩
  · rw [endOfMark_unjudged (s.raise .endOfMark) hn, tryStart_starts _ what f hs]
    exact congrArg _ (settle_nil _ empty')
  · rw [endOfMark_unjudged (s.raise .endOfMark) hn, tryStart_nothing _ hs]
    exact congrArg _ (settle_nil _ empty')
  · rw [endOfMark_judged (s.raise .endOfMark) ha hc,
      judgeAligning_captured _ ((someCapture_iff (s.raise .endOfMark)).2 hone),
      tryStart_counted_nothing _ _ hs]
    exact congrArg _ (settle_nil _ empty')
  · rw [endOfMark_judged (s.raise .endOfMark) ha hc,
      judgeAligning_empty (s.raise .endOfMark) (someCapture_eq_false _ hnone) hlt,
      tryStart_counted_nothing _ _ hs]
    exact congrArg _ (settle_nil _ empty')
  · rw [endOfMark_judged (s.raise .endOfMark) ha hc,
      judgeAligning_listens (s.raise .endOfMark) (someCapture_eq_false _ hnone) hle]
    have windowed : ((s.raise .endOfMark).counted 0 4).mem.state.mode = .windowed :=
      mode_windowed (.inl ha)
    refine ⟨_, rfl, ?_, ?_, ?_, ?_, ?_, ?_, ?_⟩
    · simp [enterListen_mem]
    · simp [enterListen_mem, Membership.listenAfresh]
    · simp [enterListen_mem, Membership.listenAfresh]
    · simp [enterListen_mem, Membership.listenAfresh]
    · simp [enterListen_capture _ windowed]
    · simp [enterListen_entries]
    · rw [enterListen_settle_port ((s.raise .endOfMark).counted 0 4) empty']
      exact offer_port_congr rfl rfl rfl rfl rfl

end Sys2Proof.Machine

/-! # BEGIN and TRIM GROUP (R42, R56, R57, R83, R150, R162, R165, R166, R171, R177, R180, R185, R188, R193) -/

namespace Sys2Proof.Machine

open Sys2Proof

/-! ## Fields of a payload (R177, R180, R198) -/

theorem bytesBE_length (n x : Nat) : (bytesBE n x).length = n := by
  induction n generalizing x with
  | zero => rfl
  | succ n ih => simp [bytesBE, ih]

theorem natBE_concat (bs : List Byte) (b : Byte) : natBE (bs ++ [b]) = natBE bs * 256 + b.toNat := by
  simp [natBE]

/-- A number laid out in `n` bytes is read back, modulo what they can hold (R198). -/
theorem natBE_bytesBE (n x : Nat) : natBE (bytesBE n x) = x % 256 ^ n := by
  induction n generalizing x with
  | zero => simp [bytesBE, natBE, Nat.mod_one]
  | succ n ih =>
    rw [bytesBE, natBE_concat, ih, BitVec.toNat_ofNat, Nat.pow_succ' (n := n), Nat.mod_mul]
    omega

/-- A signed number of 32 bits is read back from its bytes (R198). -/
theorem signedOf_bytesS32 {x : Int} (lo : -2147483648 ≤ x) (hi : x ≤ 2147483647) :
    signedOf (natBE (bytesS32 x)) = x := by
  have whole : (BitVec.ofInt 32 x).toNat % 256 ^ 4 = (BitVec.ofInt 32 x).toNat := Nat.mod_eq_of_lt (BitVec.isLt _)
  rw [signedOf, bytesS32, natBE_bytesBE, whole, BitVec.ofNat_toNat, BitVec.setWidth_eq, BitVec.toInt_ofInt]
  exact Int.bmod_eq_of_le (by omega) (by omega)

section Fields

variable {f : FieldSpec} {fs : List FieldSpec} {i : Nat} {acc : List Nat} {bytes : List Byte}

/-- A field not received whole is refused (R177, R180). -/
theorem parseFields_short (h : bytes.length < f.width) : parseFields (f :: fs) i acc bytes = .refused i := if_pos h

/-- A field whose check fails is refused (R180). -/
theorem parseFields_refused (h : f.width ≤ bytes.length) (hc : f.check acc (natBE (bytes.take f.width)) = none) :
    parseFields (f :: fs) i acc bytes = .refused i := by
  rw [parseFields, if_neg (Nat.not_lt.2 h), hc]

theorem parseFields_taken {v : Nat} (h : f.width ≤ bytes.length)
    (hc : f.check acc (natBE (bytes.take f.width)) = some v) :
    parseFields (f :: fs) i acc bytes = parseFields fs (i + 1) (v :: acc) (bytes.drop f.width) := by
  rw [parseFields, if_neg (Nat.not_lt.2 h), hc]

end Fields

/-- The target field of TRIM GROUP (R165, R188). -/
def trimTargetField : FieldSpec :=
  ⟨4, fun _ v => if -1000000 ≤ signedOf v ∧ signedOf v ≤ 1000000 then some v else none⟩

theorem trimFields_eq : trimFields = [codeField 2, trimTargetField] := rfl

/-- A group taken: the target is judged next (R188). -/
theorem parseTrim_group (b : Byte) (more : List Byte) (h : b.toNat < 2) :
    parseFields trimFields 1 [] (b :: more) = parseFields [trimTargetField] 2 [b.toNat] more :=
  parseFields_taken (f := codeField 2) (by simp [codeField]) (by simp [codeField, natBE]; omega)

theorem parseTrim_badGroup (b : Byte) (more : List Byte) (h : 2 ≤ b.toNat) :
    parseFields trimFields 1 [] (b :: more) = .refused 1 :=
  parseFields_refused (f := codeField 2) (by simp [codeField]) (by simp [codeField, natBE]; omega)

/-- The first four of the bytes that follow the group are the target's. -/
theorem take_bytesS32 (x : Int) (more : List Byte) : (bytesS32 x ++ more).take trimTargetField.width = bytesS32 x :=
  List.take_left' (bytesBE_length 4 _)

theorem trimTarget_check (acc : List Nat) (v : Nat) :
    trimTargetField.check acc v = if -1000000 ≤ signedOf v ∧ signedOf v ≤ 1000000 then some v else none := rfl

theorem trimTarget_whole (x : Int) (more : List Byte) : trimTargetField.width ≤ (bytesS32 x ++ more).length := by
  simp [trimTargetField, bytesS32, bytesBE_length]

theorem parseTrim_badTarget (group : Nat) (x : Int) (more : List Byte) (lo : -2147483648 ≤ x) (hi : x ≤ 2147483647)
    (h : x < -1000000 ∨ 1000000 < x) :
    parseFields [trimTargetField] 2 [group] (bytesS32 x ++ more) = .refused 2 := by
  refine parseFields_refused (trimTarget_whole x more) ?_
  rw [take_bytesS32, trimTarget_check, signedOf_bytesS32 lo hi, if_neg (by omega)]

theorem parseTrim_target (group : Nat) (x : Int) (more : List Byte) (lo : -1000000 ≤ x) (hi : x ≤ 1000000) :
    parseFields [trimTargetField] 2 [group] (bytesS32 x ++ more) = .accepted [group, natBE (bytesS32 x)] := by
  refine parseFields_taken (v := natBE (bytesS32 x)) (trimTarget_whole x more) ?_
  rw [take_bytesS32, trimTarget_check, signedOf_bytesS32 (by omega) (by omega), if_pos ⟨lo, hi⟩]

/-! ## TRIM GROUP -/

theorem exec_trimGroup {s : State} {x : Slot} (ht : s.port.transaction = some x) (dt : Nat) (payload : List Byte) :
    exec (.trimGroup dt payload) s =
      .next (State.trim payload { s.advance dt with port.transaction := none, port.sdo := none }) := by
  show Host.Outcome.next (s.atRise dt (State.trim payload)) = _
  rw [atRise_some _ _ _ x ht]

theorem exec_begin {s : State} {x : Slot} (ht : s.port.transaction = some x) (dt : Nat) :
    exec (.begin dt) s =
      .next (State.takeBegin { s.advance dt with port.transaction := none, port.sdo := none }).settle := by
  show Host.Outcome.next (s.atRise dt State.takeBegin).settle = _
  rw [atRise_some _ _ _ x ht]

theorem trim_unbegun (s : State) (payload : List Byte) (h : s.begun = false) :
    s.trim payload = s.refuseState 0x0A := by
  simp [State.trim, h]

theorem trim_refused (s : State) (payload : List Byte) {i : Nat} (h : s.begun = true)
    (hp : parseFields trimFields 1 [] payload = .refused i) : s.trim payload = s.refuseField 0x0A i := by
  simp [State.trim, h, hp]

theorem trim_accepted (s : State) (payload : List Byte) {group target : Nat} (h : s.begun = true)
    (hp : parseFields trimFields 1 [] payload = .accepted [group, target]) :
    s.trim payload = { s with ts := s.ts.setTarget group (signedOf target) }.accept 0x0A [] := by
  simp [State.trim, h, hp]

/-! ## BEGIN, block by block (R162, R171, R185) -/

/-- What the generators hold after BEGIN, but for inhibit: `n` decides where a grid phase of this instant counts
(R162, R166, R171). -/
def State.gensBegun (n : Nat) (s : State) : GenUnit :=
  { s.gen with
    gens := (takenBits n).zip3Map (Generator.begin s.ts) s.cfg.gens s.gen.gens
    timeValid := s.solver.timeValid
    filtered := s.pins.inhibit
    filterTimer := none }

/-- What BEGIN posts of an INHIBIT that stands asserted (R171). -/
def State.inhibitPostings (s : State) : List Posting :=
  if s.pins.inhibit then [⟨.generator, s.ts.epoch, .inhibit, none, some 1, none⟩] else []

/-- What BEGIN posts of a temperature out of range (R150). -/
def State.rangePostings (s : State) : List Posting :=
  match s.temp.excursion, s.temp.mean with
  | true, some x => [⟨.temperature, s.ts.epoch, .tempRange, none, some (signed32 x), none⟩]
  | _, _ => []

theorem tempBegin_eq (s : State) :
    s.tempBegin = { s with port.outbox := s.port.outbox ++ s.rangePostings } := by
  unfold State.tempBegin State.rangePostings
  rcases s.temp.excursion with _ | _
  · simp
  · rcases s.temp.mean with _ | x
    · simp
    · rfl

/-- Where no pulse is in progress, inhibit has none to cut (R173). -/
theorem hidePulses_quiet (u : GenUnit) (h : ∀ i : Fin 4, (u.gens.get i).pulse = none) : u.hidePulses = u := by
  have same (i : Fin 4) : { u.gens.get i with
      pulse := (u.gens.get i).pulse.map (fun p => { p with shown := false }) } = u.gens.get i := by
    rw [h i, Option.map_none, ← h i]
  have gens : u.hidePulses.gens = u.gens := by
    show Quad.mk _ _ _ _ = Quad.mk _ _ _ _
    exact congr (congr (congrArg₂ Quad.mk (same 0) (same 1)) (same 2)) (same 3)
  show { u with gens := u.hidePulses.gens } = u
  rw [gens]

theorem gensBegun_pulse (n : Nat) (s : State) (i : Fin 4) : ((s.gensBegun n).gens.get i).pulse = none := by
  rw [State.gensBegun, quad_get_zip3Map, generatorBegin_pulse]

theorem inhibitBegins_quiet (s : State) (h : ∀ i : Fin 4, (s.gen.gens.get i).pulse = none) :
    s.inhibitBegins = { s with
      gen.inForce := true
      port.outbox := s.port.outbox ++ [⟨.generator, s.ts.epoch, .inhibit, none, some 1, none⟩] } := by
  unfold State.inhibitBegins
  rw [hidePulses_quiet s.gen h]
  rfl

theorem genBegin_eq (s : State) :
    s.genBegin = { s with
      gen := { s.gensBegun (Config.freeChoice s.freeCount) with inForce := s.gen.inForce || s.pins.inhibit }
      freeCount := s.freeCount + 1
      port.outbox := s.port.outbox ++ s.inhibitPostings } := by
  unfold State.genBegin State.inhibitPostings State.gensBegun
  dsimp only [State.freeNat]
  cases s.pins.inhibit with
  | false => rw [Bool.or_false, if_neg Bool.false_ne_true, if_neg Bool.false_ne_true, List.append_nil]; rfl
  | true =>
    rw [Bool.or_true, if_pos rfl, if_pos rfl, inhibitBegins_quiet _ (gensBegun_pulse _ s)]
    rfl

/-- A change out of UNCONFIGURED to LISTEN is none of the mark unit's or the frame unit's concern (R39, R68, R71). -/
theorem enterListen_unbegun (s : State) (h : s.begun = false) :
    s.enterListen.mark = s.mark ∧ s.enterListen.frame = s.frame := by
  have unconfigured : s.mem.state = .unconfigured := by simpa [State.begun] using h
  refine ⟨?_, ?_⟩
  · show s.mark.stateChange s.mem.state .listen = s.mark
    rw [unconfigured]; rfl
  · show s.frame.stateChange s.mem.state .listen = s.frame
    rw [unconfigured]; rfl

/-- The blocks that BEGIN starts, and what it posts, over the entry to LISTEN (R185). -/
def State.blocksBegun (s : State) : State :=
  { s with
    mark := s.mark.begin s.pins.mark
    frame := s.frame.begin s.pins.word
    gen := { s.gensBegun (Config.freeChoice s.freeCount) with inForce := s.gen.inForce || s.pins.inhibit }
    freeCount := s.freeCount + 1
    port := { s.port with
      snapSkip := s.cfg.snapSkip
      snapPost := 0
      outbox := s.port.outbox ++ s.inhibitPostings ++ s.rangePostings } }

theorem begin_eq (s : State) : s.begin = s.enterListen.blocksBegun := by
  rw [State.begin, tempBegin_eq, genBegin_eq]
  rfl

theorem markBegin_times (line : Level) (m : MarkUnit) :
    (m.begin line).highTime = (if line = .high then some 0 else m.highTime) ∧
      (m.begin line).lowTimer = (if line = .low then some 0 else m.lowTimer) := by
  cases line <;> exact ⟨rfl, rfl⟩

theorem frameBegin_times (line : Level) (f : FrameUnit) :
    (f.begin line).idleTimer = (if line = .high then some 0 else f.idleTimer) ∧
      (f.begin line).lowTimer = (if line = .low then some 0 else f.lowTimer) ∧ (f.begin line).rx = .waitingIdle := by
  cases line <;> exact ⟨rfl, rfl, rfl⟩

theorem enterListen_inhibitPostings (s : State) : s.enterListen.inhibitPostings = s.inhibitPostings := by
  simp [State.inhibitPostings]

theorem enterListen_rangePostings (s : State) : s.enterListen.rangePostings = s.rangePostings := by
  simp [State.rangePostings]

theorem enterListen_gensBegun (n : Nat) (s : State) : s.enterListen.gensBegun n = s.gensBegun n := by
  simp [State.gensBegun, State.cfg]

theorem begin_outbox (s : State) :
    s.begin.port.outbox = s.port.outbox ++ [s.changePosting .listen] ++ s.inhibitPostings ++ s.rangePostings := by
  rw [begin_eq, State.blocksBegun, enterListen_outbox, enterListen_inhibitPostings, enterListen_rangePostings]

theorem begin_mem (s : State) :
    s.begin.mem = { s.mem.listenAfresh s.mark.fault with state := .listen } := by
  rw [begin_eq, State.blocksBegun, enterListen_mem]

theorem begin_mark (s : State) (h : s.begun = false) : s.begin.mark = s.mark.begin s.pins.mark := by
  rw [begin_eq, State.blocksBegun, (enterListen_unbegun s h).1]
  simp

theorem begin_frame (s : State) (h : s.begun = false) : s.begin.frame = s.frame.begin s.pins.word := by
  rw [begin_eq, State.blocksBegun, (enterListen_unbegun s h).2]
  simp

/-- The port's counts at BEGIN, and what no block's start moves (R99, R185, R193). -/
theorem begin_rest (s : State) :
    s.begin.port.snapSkip = s.cfg.snapSkip ∧ s.begin.port.snapPost = 0 ∧ s.begin.port.record = s.port.record ∧
      s.begin.solver.timing = s.solver.timing ∧ s.begin.temp = s.temp ∧ s.begin.ref = s.ref ∧
      s.begin.roster.entries = [] := by
  rw [begin_eq]
  simp [State.blocksBegun, State.cfg, enterListen_entries]

theorem begin_gen (s : State) :
    s.begin.gen = { s.gensBegun (Config.freeChoice s.freeCount) with inForce := s.gen.inForce || s.pins.inhibit } := by
  rw [begin_eq, State.blocksBegun, enterListen_gensBegun]
  simp

/-! ## One generator at BEGIN (R162, R166, R169) -/

section Generators

variable (t : Timescale) (taken : Bool) (set : GenSettings) (g : Generator)

theorem generatorBegin_run : (g.begin t taken set).run =
    if set.enable = false then .disabled else if set.invalid = .run then .running else .holding := by
  unfold Generator.begin
  cases set.enable <;> cases set.invalid <;> rfl

theorem generatorBegin_skip : (g.begin t taken set).skip = 0 := by
  unfold Generator.begin
  cases set.enable <;> cases set.invalid <;> rfl

theorem generatorBegin_next : (g.begin t taken set).next =
    if (g.begin t taken set).run = .running then some (searchStart t set (onGrid t set && taken)) else none := by
  unfold Generator.begin
  cases set.enable <;> cases set.invalid <;> rfl

/-- The next start that BEGIN searches is the first not yet reached, or, on a grid phase, one that may be taken as past
(R166, R169). -/
theorem generatorBegin_running (h : (g.begin t taken set).run = .running) :
    (g.begin t taken set).next = some (searchStart t set false) ∨
      (onGrid t set = true ∧ (g.begin t taken set).next = some (searchStart t set true)) := by
  rw [generatorBegin_next, if_pos h]
  cases onGrid t set with
  | false => exact .inl rfl
  | true =>
    cases taken with
    | false => exact .inl rfl
    | true => exact .inr ⟨rfl, rfl⟩

end Generators

/-- A generator after BEGIN: its run state by its settings, a next start exactly where it runs, no pulse and nothing to
skip (R162, R169). -/
theorem begin_generator (s : State) (i : Fin 4) :
    let g := s.begin.gen.gens.get i
    let set := s.cfg.gens.get i
    (g.run = if set.enable = false then .disabled else if set.invalid = .run then .running else .holding) ∧
      (g.run ≠ .running → g.next = none) ∧
      (g.run = .running → g.next = some (searchStart s.ts set false) ∨
        (onGrid s.ts set = true ∧ g.next = some (searchStart s.ts set true))) ∧
      g.pulse = none ∧ g.skip = 0 := by
  dsimp only
  rw [begin_gen, State.gensBegun]
  dsimp only
  rw [quad_get_zip3Map]
  refine ⟨generatorBegin_run _ _ _ _, fun h => ?_, generatorBegin_running _ _ _ _, generatorBegin_pulse _ _ _ _,
    generatorBegin_skip _ _ _ _⟩
  rw [generatorBegin_next, if_neg h]

/-! ## BEGIN taken or refused -/

theorem takeBegin_refused (s : State) (h : s.begun = true ∨ s.port.record = none) :
    s.takeBegin = s.refuseState 0x03 := by
  unfold State.takeBegin
  rw [if_pos]
  obtain h | h := h <;> simp [h]

theorem takeBegin_taken (s : State) (h : s.begun = false) {cfg : Settings} (hr : s.port.record = some cfg) :
    s.takeBegin = s.begin.accept 0x03 [] := by
  simp [State.takeBegin, h, hr]

/-- Settles O53: BEGIN refused, BEGIN taken block by block, then TRIM GROUP field by field. -/
theorem beginStartsEveryBlock : Obligations.BeginStartsEveryBlock := by
  unfold Obligations.BeginStartsEveryBlock
  intro s dt x ht empty u
  have begin_taken : exec (.begin dt) s = .next u.takeBegin.settle := exec_begin ht dt
  have trim_taken (payload : List Byte) : exec (.trimGroup dt payload) s = .next (u.trim payload) :=
    exec_trimGroup ht dt payload
  have begun : u.begun = s.begun := advance_begun s dt
  have outbox : u.port.outbox = [] := by simpa [u] using empty
  have pins : u.pins = s.pins := advance_pins s dt
  have solver : u.solver = s.solver := advance_solver s dt
  have temp : u.temp = s.temp := advance_temp s dt
  have record : u.port.record = s.port.record := by simp [u]
  have inForce : u.gen.inForce = s.gen.inForce := advance_gen_inForce s dt
  have epoch : u.ts.epoch = s.ts.epoch := advance_ts_epoch s dt
  clear_value u
  refine ⟨fun h => ?_, fun cfg hb hr => ?_, fun payload hb => ?_, fun hb => ?_, fun b more hb h => ?_,
    fun b more hb h hm => ?_, fun group target more hb hg h lo hi => ?_, fun group target more hb hg lo hi => ?_⟩
  · rw [begin_taken, takeBegin_refused u (by rwa [begun, record])]
    exact congrArg _ (settle_nil _ outbox)
  · rw [begin_taken, takeBegin_taken u (begun.trans hb) (record.trans hr)]
    have unbegun := begun.trans hb
    have cfg_eq : u.cfg = cfg := by rw [State.cfg, record, hr]; rfl
    have ⟨high, markLow⟩ := markBegin_times u.pins.mark u.mark
    have ⟨idle, wordLow, rx⟩ := frameBegin_times u.pins.word u.frame
    obtain ⟨skip, post, rec, timing, temp', ref, entries⟩ := begin_rest u
    have gens (i : Fin 4) : (u.begin.accept 0x03 []).settle.gen.gens.get i = u.begin.gen.gens.get i := by
      rw [settle_gen]; rfl
    have generator (i : Fin 4) := begin_generator u i
    simp only [cfg_eq, ← gens, forall_and] at generator
    obtain ⟨run, stopped, running, pulse, skipped⟩ := generator
    refine ⟨_, rfl, ?_, ?_, ?_, ?_, ?_, ?_, ?_, ?_, ?_, ?_, run, stopped, running,
      fun i => ⟨pulse i, skipped i⟩, rfl, ?_, ?_, ?_, ?_, ?_, ?_, ?_, ?_, ?_, ?_⟩
    · rw [settle_mem]; exact congrArg Membership.state (begin_mem u)
    · rw [settle_mem]; exact congrArg Membership.quietCount (begin_mem u)
    · rw [settle_mark, ← pins]; exact (congrArg MarkUnit.highTime (begin_mark u unbegun)).trans high
    · rw [settle_frame, ← pins]; exact (congrArg FrameUnit.idleTimer (begin_frame u unbegun)).trans idle
    · rw [settle_mark, ← pins]; exact (congrArg MarkUnit.lowTimer (begin_mark u unbegun)).trans markLow
    · rw [settle_frame, ← pins]; exact (congrArg FrameUnit.lowTimer (begin_frame u unbegun)).trans wordLow
    · rw [settle_frame]; exact (congrArg FrameUnit.rx (begin_frame u unbegun)).trans rx
    · rw [settle_gen, ← solver]; exact congrArg GenUnit.timeValid (begin_gen u)
    · rw [settle_gen, ← pins]; exact congrArg GenUnit.filtered (begin_gen u)
    · rw [settle_gen, ← pins, ← inForce]; exact congrArg GenUnit.inForce (begin_gen u)
    · rw [begin_outbox, outbox, ← pins, ← temp, ← epoch]
      rfl
    · rw [settle_port_snapSkip, ← cfg_eq]; exact skip
    · rw [settle_port_snapPost]; exact post
    · rw [settle_port_record, ← record]; exact rec
    · rw [settle_port_slot]; rfl
    · rw [settle_ts]; exact begin_ts u
    · rw [settle_solver, ← solver]; exact timing
    · rw [settle_temp, ← temp]; exact temp'
    · rw [settle_ref]; exact ref
    · rw [settle_roster]; exact entries
  · rw [trim_taken, trim_unbegun _ _ (begun.trans hb)]; rfl
  · rw [trim_taken, trim_refused (i := 1) _ _ (begun.trans hb) rfl]; rfl
  · rw [trim_taken, trim_refused _ _ (begun.trans hb) (parseTrim_badGroup b more h)]; rfl
  · rw [trim_taken, trim_refused _ _ (begun.trans hb) ((parseTrim_group b more h).trans (parseFields_short hm))]; rfl
  · have byte : (BitVec.ofNat 8 group).toNat < 2 := by simp; omega
    rw [trim_taken, trim_refused _ _ (begun.trans hb)
      ((parseTrim_group _ _ byte).trans (parseTrim_badTarget _ target more lo hi h))]
    rfl
  · dsimp only
    have byte : (BitVec.ofNat 8 group).toNat = group := by simp; omega
    rw [trim_taken, trim_accepted _ _ (begun.trans hb)
      ((parseTrim_group _ _ (by omega)).trans (parseTrim_target _ target more lo hi)),
      signedOf_bytesS32 (by omega) (by omega), byte]
    unfold Timescale.setTarget
    split <;> rfl

end Sys2Proof.Machine

/-! # Falls and rises of WORD, and the idle line (R59, R61, R63, R72, R74, R77, R78) -/

namespace Sys2Proof.Machine

open Sys2Proof

/-! ## The receiver at a fall (R59, R61) -/

theorem readyNow_iff (f : FrameUnit) : f.readyNow = true ↔
    f.idleTimer = some (ns 48000) ∧ f.fault = false ∧ (f.rx = .ready ∨ f.rx = .waitingIdle) := by
  simp [FrameUnit.readyNow, and_assoc]

theorem takeFall_ready (f : FrameUnit) (h : f.readyNow = true) : f.takeFall = f.startBit := if_pos h

theorem takeFall_taking (f : FrameUnit) (h : f.readyNow = false) (hr : f.rx = .starting ∨ f.rx = .receiving) :
    f.takeFall = { f with toSample := ns 2000 } := by
  obtain hr | hr := hr <;> simp [FrameUnit.takeFall, h, hr]

theorem takeFall_waits (f : FrameUnit) (h : f.readyNow = false) (hr : f.rx = .ready ∨ f.rx = .waitingIdle) :
    f.takeFall = { f with rx := .waitingIdle } := by
  obtain hr | hr := hr <;> simp [FrameUnit.takeFall, h, hr]

/-! ## Falls (R59, R61, R72, R77) -/

theorem wordFalls_begun (s : State) (h : s.begun = true) :
    s.wordFalls = { s with
      pins.word := .low
      frame := { s.frame.takeFall with lowTimer := some 0, recovery := none } } :=
  if_pos h

/-- Before BEGIN a fall moves the line alone (R57). -/
theorem wordFalls_not_begun (s : State) (h : s.begun = false) : s.wordFalls = { s with pins.word := .low } :=
  if_neg (by exact Bool.not_eq_true _ ▸ h)

/-- A fall leaves the pending frames, and so which of them may start, as they were (R72). -/
theorem mayStart_wordFalls (s : State) (what : InFlight) (f : Frame) :
    s.wordFalls.mayStart what f ↔ s.mayStart what f := by
  cases what <;> simp [State.mayStart]

/-- A fall that no pending frame joins. -/
theorem wordFallSeen_alone (s : State)
    (h : s.begun = false ∨ s.frame.readyNow = false ∨ (∀ what f, ¬ s.mayStart what f) ∨ s.frame.tx ≠ .quiet ∨
      s.frame.txAge ≠ none) : s.wordFallSeen = s.wordFalls := by
  unfold State.wordFallSeen
  dsimp only
  split
  next joins =>
    obtain ⟨hb, hr, ht, ha⟩ := joins
    have begun : s.begun = true := by simpa [State.begun] using hb
    have none_may : ∀ what f, ¬ s.mayStart what f := by simp_all
    rw [startable_none s.wordFalls fun what f hm => none_may what f ((mayStart_wordFalls s what f).1 hm)]
  next => rfl

/-- A fall that begins a reception, joined by the pending frame (R72). -/
theorem wordFallSeen_joined (s : State) {what : InFlight} {f : Frame} (hb : s.begun = true)
    (hr : s.frame.readyNow = true) (hm : s.mayStart what f) (ht : s.frame.tx = .quiet) (ha : s.frame.txAge = none) :
    s.wordFallSeen = { s with
      pins.word := .low
      frame := { (s.frame.started what f).startBit with lowTimer := some 0, recovery := none } } := by
  have begun : s.wordFalls.begun = true := by simpa [State.begun] using hb
  unfold State.wordFallSeen
  dsimp only
  rw [if_pos ⟨begun, hr, by simpa using ht, by simpa using ha⟩,
    (startable_iff _ what f).2 ((mayStart_wordFalls s what f).2 hm), wordFalls_begun s hb, takeFall_ready _ hr]
  rfl

theorem exec_wordFall (s : State) (dt : Nat) :
    exec (.wordFall dt) s = .next (if s.pins.word = .high then (s.advance dt).wordFallSeen else s.advance dt) := by
  show execWordFall dt s = _
  unfold execWordFall
  simp only [advance_pins]
  cases s.pins.word <;> rfl

/-! ## Rises (R59, R74, R77, R78) -/

theorem exec_wordRise_begun {s : State} {dt : Nat} (hb : s.begun = true) (hl : s.pins.word = .low)
    (hd : s.frame.txDriving = false) : exec (.wordRise dt) s = .next (s.advance dt).wordRises.settle := by
  show execWordRise dt s = _
  unfold execWordRise
  simp only [advance_pins, advance_frame_txDriving, hl, hd, advance_begun, hb, if_true]

/-- The line back at high after a low of `low`, with nothing pending on it any more (R59, R74). -/
def State.wordRisen (low : Nat) (s : State) : State :=
  { s with pins.word := .high, frame := (s.frame.rise low).decideCollision }

theorem wordRises_unconfirmed (s : State) {low : Nat} (hl : s.frame.lowTimer = some low)
    (h : s.frame.collision = false ∨ ns 1000000 ≤ low) : s.wordRises = s.wordRisen low := by
  have unconfirmed : (s.frame.collision && decide (low < ns 1000000)) = false := by
    obtain h | h := h
    · simp [h]
    · simp [Nat.not_lt.2 h]
  unfold State.wordRises
  simp only [hl, Option.getD_some, unconfirmed]
  rfl

theorem wordRises_confirmed (s : State) {low : Nat} (hl : s.frame.lowTimer = some low)
    (hc : s.frame.collision = true) (h : low < ns 1000000) :
    s.wordRises = (s.wordRisen low).report .payloadCollision := by
  unfold State.wordRises
  simp only [hl, Option.getD_some, hc, h]
  rfl

/-- Settles O16: falls by the level of the line, by BEGIN, and by what the receiver makes of them; rises by what is
pending on the low; and the receiver by itself. -/
theorem wordFallsAndRisesMoveTheReceiver : Obligations.WordFallsAndRisesMoveTheReceiver := by
  unfold Obligations.WordFallsAndRisesMoveTheReceiver
  refine ⟨fun s dt => ?_, fun s dt low => ?_, fun u =>
    ⟨readyNow_iff u, rfl, takeFall_ready u, takeFall_taking u, takeFall_waits u⟩⟩
  · dsimp only
    rw [exec_wordFall]
    generalize hu : s.advance dt = u
    have begun : u.begun = s.begun := hu ▸ advance_begun s dt
    refine ⟨fun hl => ?_, fun hb hl => ?_, fun hb hl hr => ⟨fun hn => ?_, fun what f hm ht ha => ?_⟩,
      fun hb hl hr => ⟨fun hx => ?_, fun hx => ?_⟩⟩
    · rw [if_neg (by simp [hl])]
    · rw [if_pos hl, wordFallSeen_alone u (.inl (begun.trans hb)), wordFalls_not_begun u (begun.trans hb)]
    · rw [if_pos hl, wordFallSeen_alone u (.inr (.inr hn)), wordFalls_begun u (begun.trans hb), takeFall_ready _ hr]
    · rw [if_pos hl, wordFallSeen_joined u (begun.trans hb) hr hm ht ha]
    · rw [if_pos hl, wordFallSeen_alone u (.inr (.inl hr)), wordFalls_begun u (begun.trans hb),
        takeFall_taking _ hr hx]
    · rw [if_pos hl, wordFallSeen_alone u (.inr (.inl hr)), wordFalls_begun u (begun.trans hb),
        takeFall_waits _ hr hx]
  · intro u hb hl hd empty ht v
    have risen : u.wordRisen low = v := by
      show u.wordRisen low = { u with
        pins.word := .high
        frame := { u.frame with
          lowTimer := none
          recovery := if s.frame.fault then some 0 else none
          idleTimer := if ns 2000 ≤ low ∨ u.frame.idleTimer = none then some 0 else u.frame.idleTimer
          collision := false
          returnedTalk := none
          returnedLeave := none } }
      rw [← advance_frame_fault s dt]
      rfl
    have empty' : v.port.outbox = [] := (congrArg Port.outbox (advance_port s dt)).trans empty
    rw [exec_wordRise_begun hb hl hd]
    refine ⟨fun h => ?_, fun hc h => ?_⟩
    · rw [wordRises_unconfirmed u ht (by rwa [advance_frame_collision]), risen, settle_nil v empty']
    · rw [wordRises_confirmed u ht ((advance_frame_collision s dt).trans hc) h, risen]

/-! ## The idle line (R59, R61, R63, R72) -/

theorem exec_lineIdle_due {s : State} {r : Nat} (hr : s.frame.toIdle = some r) (due : s.dueWithin r = true) :
    exec .lineIdle s = .next (s.runTo (s.ts.sitePhase + r)).lineIdle := by
  show Host.Outcome.next (s.atExpiry s.frame.toIdle State.lineIdle) = _
  rw [hr, atExpiry_due _ _ s due]

/-- The receiver found READY on an idle line, a reception not complete truncated (R61, R63). -/
def FrameUnit.idled (f : FrameUnit) : FrameUnit :=
  if f.rx = .receiving then { f.stopped (.faulty .truncated (senderTaken f.rxBits)) with rx := .ready }
  else { f with rx := .ready }

theorem lineIdle_held (s : State) (h : s.frame.fault = true ∨ s.frame.rx = .starting) : s.lineIdle = s := by
  unfold State.lineIdle
  obtain h | h := h
  · rw [if_pos h]
  · simp [h]

theorem lineIdle_idled (s : State) (hf : s.frame.fault = false) (hr : s.frame.rx ≠ .starting) :
    s.lineIdle = { s with frame := s.frame.idled }.tryStart := by
  unfold State.lineIdle FrameUnit.idled
  cases hx : s.frame.rx <;> simp_all [FrameUnit.fail, FrameUnit.stopped]

/-- What becomes of the receiver has no part in the transmit slot. -/
theorem idled_keeps (f : FrameUnit) : f.idled.rx = .ready ∧ f.idled.talk = f.talk ∧ f.idled.leave = f.leave ∧
    f.idled.windowOpen = f.windowOpen ∧ f.idled.tx = f.tx ∧ f.idled.txAge = f.txAge ∧ f.idled.fault = f.fault ∧
    f.idled.idleTimer = f.idleTimer := by
  unfold FrameUnit.idled
  split <;> and_intros <;> rfl

theorem mayStart_idled (s : State) (what : InFlight) (f : Frame) :
    State.mayStart what f { s with frame := s.frame.idled } ↔ s.mayStart what f := by
  obtain ⟨-, talk, leave, window, -⟩ := idled_keeps s.frame
  cases what <;> simp [State.mayStart, talk, leave, window]

theorem runTo_frame_txAge_eq_none (s : State) (p : Nat) : (s.runTo p).frame.txAge = none ↔ s.frame.txAge = none :=
  Option.map_eq_none_iff

/-- Settles O17: nothing during a fault or a start bit; else the receiver is READY, and a pending frame starts or
none is there. -/
theorem idleLineLetsAFrameStart : Obligations.IdleLineLetsAFrameStart := by
  unfold Obligations.IdleLineLetsAFrameStart
  intro s r hr due
  dsimp only
  rw [exec_lineIdle_due hr due]
  generalize s.ts.sitePhase + r = p
  obtain ⟨ready, -, -, -, tx, age, fault, idle⟩ := idled_keeps (s.runTo p).frame
  refine ⟨fun h => congrArg _ (lineIdle_held (s.runTo p) h), fun hf hx hn => ?_,
    fun what f hf hx hb hw hi hm ht ha => ?_⟩
  · rw [lineIdle_idled (s.runTo p) hf hx, tryStart_nothing]
    · rfl
    · obtain hn | hn | hn := hn
      · exact .inl fun what f hm => hn what f ((mayStart_idled _ what f).1 hm)
      · exact .inr (.inr (.inl (by simpa [tx] using hn)))
      · exact .inr (.inr (.inr (by simpa [age, runTo_frame_txAge_eq_none] using hn)))
  · rw [lineIdle_idled (s.runTo p) hf hx, tryStart_starts _ what f]
    · rfl
    · refine ⟨(mayStart_idled _ what f).2 hm, ?_, ready, tx.trans ht,
        age.trans ((runTo_frame_txAge_eq_none s p).2 ha), hw, hb⟩
      simp [FrameUnit.idle, ready, fault, idle, hi, hf]

end Sys2Proof.Machine

/-! # Bits of WORD: sample points, bit starts and the receiver's bits (R58, R60, R61, R63, R73, R76) -/

namespace Sys2Proof.Machine

open Sys2Proof

/-! ## The sender at a sample point (R58, R73) -/

theorem senderSample_eq (level : Level) (f : FrameUnit) : f.senderSample level = f.senderReads level := by
  by_cases h : f.tx = .arbitrating ∧ f.txPos = 6 ∧ ¬ (f.txBit = true ∧ level = .low)
  · have reads : f.tx = .arbitrating ∧ f.txPos = 6 ∧
        ({ f with txRead := some level } : FrameUnit).mismatch = false := by
      obtain ⟨ht, hp, hm⟩ := h
      exact ⟨ht, hp, by simpa [FrameUnit.mismatch, FrameUnit.txBit] using hm⟩
    exact (if_pos reads).trans (by rw [FrameUnit.senderReads, if_pos h])
  · have other : ¬ (f.tx = .arbitrating ∧ f.txPos = 6 ∧
        ({ f with txRead := some level } : FrameUnit).mismatch = false) := by
      rintro ⟨ht, hp, hm⟩
      exact h ⟨ht, hp, by simpa [FrameUnit.mismatch, FrameUnit.txBit] using hm⟩
    exact (if_neg other).trans (by rw [FrameUnit.senderReads, if_neg h])

theorem sampleAsSender_due (level : Level) (f : FrameUnit) (h : f.toSenderSample = some 0) :
    f.sampleAsSender level = f.senderReads level := (if_pos h).trans (senderSample_eq level f)

theorem sampleAsSender_not_due (level : Level) (f : FrameUnit) (h : f.toSenderSample ≠ some 0) :
    f.sampleAsSender level = f := if_neg h

/-- What the sender reads has no part in its receiver. -/
theorem sampleAsSender_rx (level : Level) (f : FrameUnit) :
    (f.sampleAsSender level).rx = f.rx ∧ (f.sampleAsSender level).toSample = f.toSample ∧
    (f.sampleAsSender level).rxBits = f.rxBits ∧ (f.sampleAsSender level).rxRun = f.rxRun ∧
    (f.sampleAsSender level).rxOwn = f.rxOwn := by
  by_cases h : f.toSenderSample = some 0
  · rw [sampleAsSender_due level f h]; exact ⟨rfl, rfl, rfl, rfl, rfl⟩
  · rw [sampleAsSender_not_due level f h]; exact ⟨rfl, rfl, rfl, rfl, rfl⟩

/-! ## The receiver at its sample point (R60, R61, R63, R76) -/

theorem toReceiverSample_taking (f : FrameUnit) (h : f.rx = .starting ∨ f.rx = .receiving) :
    f.toReceiverSample = some f.toSample := by
  obtain h | h := h <;> simp [FrameUnit.toReceiverSample, h]

theorem sampleAsReceiver_due (level : Level) (f : FrameUnit) (h : f.rx = .starting ∨ f.rx = .receiving)
    (ht : f.toSample = 0) : f.sampleAsReceiver level = f.receiverSample level :=
  if_pos (by rw [toReceiverSample_taking f h, ht])

/-- A start bit that was a spike (R61). -/
theorem receiverSample_spike (f : FrameUnit) (h : f.rx = .starting) :
    f.receiverSample .high = { f with rx := .ready } := by simp [FrameUnit.receiverSample, h]

/-- A start bit found (R61, R76). -/
theorem receiverSample_start (f : FrameUnit) (h : f.rx = .starting) : f.receiverSample .low =
    { f with rx := .receiving, rxBits := [false], rxRun := 0, rxOwn := false, toSample := ns 4000 } := by
  simp [FrameUnit.receiverSample, h]

theorem receiverSample_bit (level : Level) (f : FrameUnit) (h : f.rx = .receiving) (hr : f.rxRun < 8) :
    f.receiverSample level = f.takeBit (recessive level) := by
  simp [FrameUnit.receiverSample, h, Nat.not_le.2 hr]

/-- A stuff bit is removed (R60). -/
theorem receiverSample_stuff (f : FrameUnit) (h : f.rx = .receiving) (hr : 8 ≤ f.rxRun) :
    f.receiverSample .low = { f with rxRun := 0, toSample := ns 4000 } := by
  simp [FrameUnit.receiverSample, h, hr]

/-- A stuff bit is missing (R63). -/
theorem receiverSample_unstuffed (f : FrameUnit) (h : f.rx = .receiving) (hr : 8 ≤ f.rxRun) :
    f.receiverSample .high = f.stopped (.faulty .truncated (senderTaken f.rxBits)) := by
  simp [FrameUnit.receiverSample, h, hr, FrameUnit.fail, FrameUnit.stopped]

/-- The receiver with one bit more, before the checks (R61). -/
def FrameUnit.withBit (b : Bool) (f : FrameUnit) : FrameUnit :=
  { f with rxBits := f.rxBits ++ [b], rxRun := if b then f.rxRun + 1 else 0, toSample := ns 4000 }

theorem takeBit_going (b : Bool) (f : FrameUnit) (h : progressOf (f.rxBits ++ [b]) = .going) :
    f.takeBit b = f.withBit b := by simp [FrameUnit.takeBit, FrameUnit.withBit, h]

theorem takeBit_fault (b : Bool) (f : FrameUnit) {kind : ErrorKind} (h : progressOf (f.rxBits ++ [b]) = .fault kind) :
    f.takeBit b = (f.withBit b).stopped (.faulty kind (senderTaken (f.rxBits ++ [b]))) := by
  simp [FrameUnit.takeBit, FrameUnit.withBit, h, FrameUnit.fail, FrameUnit.stopped]

theorem takeBit_complete (b : Bool) (f : FrameUnit) (h : progressOf (f.rxBits ++ [b]) = .complete)
    (hj : f.rxOwn = false ∨ crcPasses (f.rxBits ++ [b]) = false) :
    f.takeBit b = (f.withBit b).stopped (.arrived (frameOf (f.rxBits ++ [b])) (crcPasses (f.rxBits ++ [b]))) := by
  have judged : (f.rxOwn && crcPasses (f.rxBits ++ [b])) = false := by
    obtain hj | hj := hj <;> simp [hj]
  simp [FrameUnit.takeBit, FrameUnit.withBit, h, FrameUnit.arrivedAs, FrameUnit.stopped, judged]

/-- A sound frame that has arrived as the node's own is not judged (R76). -/
theorem takeBit_own (b : Bool) (f : FrameUnit) (h : progressOf (f.rxBits ++ [b]) = .complete)
    (ho : f.rxOwn = true) (hc : crcPasses (f.rxBits ++ [b]) = true) :
    f.takeBit b = { f.withBit b with
      receipt := none, rx := .waitingIdle, rxBits := [], rxRun := 0, rxOwn := false } := by
  simp [FrameUnit.takeBit, FrameUnit.withBit, h, FrameUnit.arrivedAs, ho, hc]

theorem recessive_eq_decide (level : Level) : recessive level = decide (level = .high) := by cases level <;> rfl

/-! ## The sample point (R58, R61, R73) -/

theorem exec_wordSamplePoint_due {s : State} {r : Nat}
    (hr : earlier s.frame.toReceiverSample s.frame.toSenderSample = some r) (due : s.dueWithin r = true) :
    exec .wordSamplePoint s = .next { s.runTo (s.ts.sitePhase + r) with
      frame := ((s.runTo (s.ts.sitePhase + r)).frame.sampleAsSender s.pins.word).sampleAsReceiver s.pins.word } := by
  show Host.Outcome.next (s.atExpiry _ _) = _
  rw [hr, atExpiry_due _ _ s due]
  rfl

/-- Settles O18: the sender reads first, then the receiver takes its sample, by what it is doing and by the level. -/
theorem receiverTakesABitAtItsSamplePoint : Obligations.ReceiverTakesABitAtItsSamplePoint := by
  unfold Obligations.ReceiverTakesABitAtItsSamplePoint
  intro s r hr due
  rw [exec_wordSamplePoint_due hr due]
  generalize s.ts.sitePhase + r = p
  intro u zero v reads unread
  have first : u.frame.sampleAsSender s.pins.word = v := by
    by_cases h : u.frame.toSenderSample = some 0
    · rw [sampleAsSender_due _ _ h, reads h]
    · rw [sampleAsSender_not_due _ _ h, unread h]
  obtain ⟨rx, toSample, rxBits, rxRun, rxOwn⟩ := sampleAsSender_rx s.pins.word u.frame
  rw [first] at rx toSample rxBits rxRun rxOwn
  change v.rx = s.frame.rx at rx
  change v.rxBits = s.frame.rxBits at rxBits
  change v.rxRun = s.frame.rxRun at rxRun
  change v.rxOwn = s.frame.rxOwn at rxOwn
  have sampled (h : s.frame.rx = .starting ∨ s.frame.rx = .receiving) :
      v.sampleAsReceiver s.pins.word = v.receiverSample s.pins.word :=
    sampleAsReceiver_due _ _ (rx ▸ h) (toSample.trans zero)
  rw [first]
  intro bit bits w
  have taken : v.withBit bit = w := by simp only [FrameUnit.withBit, rxBits, rxRun, w, bits]
  have joins : v.rxBits ++ [bit] = bits := by rw [rxBits]
  refine ⟨fun hx => ⟨fun hl => ?_, fun hl => ?_⟩, fun hx hn => ?_, fun hx hn => ⟨fun hl => ?_, fun hl => ?_⟩⟩
  · rw [sampled (.inl hx), hl, receiverSample_spike v (rx.trans hx)]
  · rw [sampled (.inl hx), hl, receiverSample_start v (rx.trans hx)]
  · rw [sampled (.inr hx), receiverSample_bit _ v (rx.trans hx) (rxRun ▸ hn), recessive_eq_decide]
    refine ⟨fun hp => ?_, fun hp hj => ?_, fun hp ho hc => ?_, fun kind hp => ?_⟩
    · rw [takeBit_going bit v (joins ▸ hp), taken]
    · rw [takeBit_complete bit v (joins ▸ hp) (joins ▸ rxOwn ▸ hj), taken, joins]
    · rw [takeBit_own bit v (joins ▸ hp) (rxOwn.trans ho) (joins ▸ hc), taken]
    · rw [takeBit_fault bit v (joins ▸ hp), taken, joins]
  · rw [sampled (.inr hx), hl, receiverSample_stuff v (rx.trans hx) (rxRun ▸ hn)]
  · rw [sampled (.inr hx), hl, receiverSample_unstuffed v (rx.trans hx) (rxRun ▸ hn), rxBits]

/-! ## The sender's bits (R58, R76) -/

theorem sampleAsReceiver_not_due (level : Level) (f : FrameUnit) (h : f.toReceiverSample ≠ some 0) :
    f.sampleAsReceiver level = f := if_neg h

theorem toReceiverSample_congr {f g : FrameUnit} (rx : f.rx = g.rx) (toSample : f.toSample = g.toSample) :
    f.toReceiverSample = g.toReceiverSample := by
  simp only [FrameUnit.toReceiverSample, rx, toSample]

theorem exec_wordBitStart_due {s : State} {a : Nat} (ha : s.frame.txAge = some a)
    (due : s.dueWithin (ns 4000 - a) = true) :
    exec .wordBitStart s = .next (s.runTo (s.ts.sitePhase + (ns 4000 - a))).bitEnds := by
  show Host.Outcome.next (s.atExpiry (toLimit (ns 4000) s.frame.txAge) State.bitEnds) = _
  rw [ha, toLimit, Option.map_some, atExpiry_due _ _ s due]

/-- After the last bit of a frame that has arrived the line is released (R58, R76). -/
theorem bitEnds_quiet (s : State) (h : s.frame.tx = .quiet) : s.bitEnds = { s with frame := s.frame.quieted } := by
  simp only [State.bitEnds, h]
  rfl

theorem bitEnds_drives (s : State) (ht : s.frame.tx ≠ .quiet) (hr : s.frame.txRead ≠ none)
    (hm : s.frame.mismatch = false) (hl : s.frame.atLastBit = false) : s.bitEnds = s.driveBit := by
  unfold State.bitEnds
  split
  next h => exact absurd h ht
  all_goals rw [if_neg (by simp [hr, hm, hl])]

/-- The transmitter at the start of its next bit, which it drives (R58). -/
def FrameUnit.nextBit (f : FrameUnit) : FrameUnit :=
  { f with txPos := f.txPos + 1, txAge := some 0, txRead := none, txDriving := !f.txBits.getD (f.txPos + 1) true }

/-- A recessive bit releases the line, and a dominant one leaves a low line low (R58). -/
theorem driveBit_still (s : State) (h : s.frame.txBits.getD (s.frame.txPos + 1) true = true ∨ s.pins.word = .low) :
    s.driveBit = { s with frame := s.frame.nextBit } := by
  unfold State.driveBit FrameUnit.txBit FrameUnit.nextBit
  dsimp only
  cases hb : s.frame.txBits.getD (s.frame.txPos + 1) true
  · have low : s.pins.word = .low := h.resolve_left (Bool.eq_false_iff.1 hb)
    simp [State.pullWord, low]
  · rfl

/-- A dominant bit pulls a high line low (R58, R61). -/
theorem driveBit_falls (s : State) (h : s.frame.txBits.getD (s.frame.txPos + 1) true = false)
    (hw : s.pins.word = .high) (hb : s.begun = true) : s.driveBit = { s with
      pins.word := .low
      frame := { s.frame.nextBit.takeFall with lowTimer := some 0, recovery := none } } := by
  unfold State.driveBit FrameUnit.txBit FrameUnit.nextBit
  dsimp only
  rw [h]
  simp only [State.pullWord, hw]
  exact wordFalls_begun _ hb

/-- Settles O19: a sample point of the sender alone, a bit followed by another, and the last bit. -/
theorem senderReadsAndDrivesItsBits : Obligations.SenderReadsAndDrivesItsBits := by
  unfold Obligations.SenderReadsAndDrivesItsBits
  refine ⟨fun s r hr due => ?_, fun s a l ht ha hr hm hl due => ?_, fun s a ht ha due => ?_⟩
  · dsimp only
    rw [exec_wordSamplePoint_due hr due]
    generalize s.runTo (s.ts.sitePhase + r) = u
    intro notTaken sends
    have same : (u.frame.senderReads s.pins.word).toReceiverSample = u.frame.toReceiverSample :=
      toReceiverSample_congr rfl rfl
    rw [sampleAsSender_due _ _ sends, sampleAsReceiver_not_due _ _ (same ▸ notTaken)]
  · dsimp only
    rw [exec_wordBitStart_due ha due]
    generalize s.ts.sitePhase + (ns 4000 - a) = p
    have drives : (s.runTo p).bitEnds = (s.runTo p).driveBit :=
      bitEnds_drives _ ht (by simp [hr]) hm hl
    rw [drives]
    exact ⟨fun h => congrArg _ (driveBit_still (s.runTo p) h),
      fun h hw hb => congrArg _ (driveBit_falls (s.runTo p) h hw hb)⟩
  · dsimp only
    rw [exec_wordBitStart_due ha due, bitEnds_quiet (s.runTo _) ht]

end Sys2Proof.Machine

/-! # The end of a sending: arbitration, payload collision, arrival, stuck line (R73, R74, R76, R77) -/

namespace Sys2Proof.Machine

open Sys2Proof

/-! ## What a compared bit shows (R73, R74, R76) -/

theorem mismatch_iff (f : FrameUnit) : f.mismatch = true ↔ f.txBit = true ∧ f.txRead = some .low := by
  simp [FrameUnit.mismatch]

theorem talkVoid_iff (s : State) : s.talkVoid = true ↔
    s.frame.leave.isSome = true ∨ (s.mem.state ≠ .joining ∧ s.mem.state ≠ .member) := by
  simp [State.talkVoid, ← Bool.not_eq_true, active_iff]

/-- Arbitration lost (R73, log entry 18). -/
theorem exec_arbitrationLoss_lost {s : State} (ht : s.frame.tx = .arbitrating) (hm : s.frame.mismatch = true) :
    exec .arbitrationLoss s = .next { s with frame := { s.frame.quieted with
      talk := if s.frame.inFlight = some .talk ∧ s.talkVoid = true then none else s.frame.talk } } := by
  show execArbitrationLoss s = _
  unfold execArbitrationLoss
  rw [if_pos ⟨ht, hm⟩]
  simp only [Bool.and_eq_true, decide_eq_true_eq]
  rfl

theorem exec_arbitrationLoss_none {s : State} (h : s.frame.tx ≠ .arbitrating ∨ ¬ s.frame.mismatch = true) :
    exec .arbitrationLoss s = .next s := if_neg (not_and_or.2 h)

/-- A payload collision (R74). -/
theorem exec_payloadCollision_met {s : State} (ht : s.frame.tx = .sending) (hm : s.frame.mismatch = true) :
    exec .payloadCollision s =
      .next { s.dropInFlight with frame := { s.dropInFlight.frame.quieted with collision := true } } :=
  if_pos ⟨ht, hm⟩

theorem exec_payloadCollision_none {s : State} (h : s.frame.tx ≠ .sending ∨ ¬ s.frame.mismatch = true) :
    exec .payloadCollision s = .next s := if_neg (not_and_or.2 h)

theorem dropInFlight_talk (s : State) (h : s.frame.inFlight = some .talk) {f : Frame} (ht : s.frame.talk = some f) :
    s.dropInFlight = { s with frame := { s.frame with
      talk := none, returnedTalk := some ⟨f, !s.frame.windowOpen, s.talkVoid⟩ } } := by
  simp [State.dropInFlight, h, ht]

theorem dropInFlight_leave (s : State) (h : s.frame.inFlight = some .leave) {r : LeaveReason}
    (hl : s.frame.leave = some r) : s.dropInFlight = { s with frame := { s.frame with
      leave := none, returnedLeave := some ⟨r, s.frame.leaveVoid⟩ } } := by
  simp [State.dropInFlight, h, hl]

theorem not_mismatch {f : FrameUnit} (h : f.txBit = false ∨ f.txRead ≠ some .low) : ¬ f.mismatch = true := by
  rw [mismatch_iff]
  rintro ⟨hb, hr⟩
  obtain h | h := h
  · exact absurd hb (h ▸ Bool.false_ne_true)
  · exact h hr

/-! ## The arrival of the node's own frame (R76) -/

/-- The receipt left of the node's own reception: a sound frame is gone, a faulty one stays for FRAME_ERROR (R76). -/
def FrameUnit.receiptLeft (f : FrameUnit) : Option Receipt :=
  match f.receipt with
  | some (.arrived _ true) => none
  | some (.arrived g false) => some (.arrived g false)
  | some (.faulty kind subject) => some (.faulty kind subject)
  | none => none

theorem ownReceipt_eq (f : FrameUnit) : f.ownReceipt = { f with
    receipt := f.receiptLeft
    rxOwn := if f.receipt = none then decide (f.rx = .receiving) else f.rxOwn } := by
  unfold FrameUnit.ownReceipt FrameUnit.receiptLeft
  rcases h : f.receipt with _ | ⟨kind, subject⟩ | ⟨frame, _ | _⟩ <;> simp
  all_goals rw [← h]

theorem exec_frameSent_sent {s : State} {l : Level} (ht : s.frame.tx = .sending)
    (hp : s.frame.txPos + 1 = s.frame.txBits.length) (hr : s.frame.txRead = some l)
    (hm : s.frame.txBit = false ∨ l = .high) :
    exec .frameSent s = .next { s with frame := { s.frame.sent.ownReceipt with tx := .quiet } } := by
  have sound : s.frame.mismatch = false :=
    Bool.eq_false_iff.2 (not_mismatch (hm.imp_right fun h => by simp [hr, h]))
  exact if_pos ⟨ht, decide_eq_true hp, by simp [hr], sound⟩

theorem exec_frameSent_none {s : State} (h : s.frame.tx ≠ .sending ∨ s.frame.txRead = none) :
    exec .frameSent s = .next s :=
  if_neg (by
    rintro ⟨ht, -, hr, -⟩
    exact h.elim (absurd ht) hr)

/-- Settles O20: each of the three events, where its bit is there and where it is not. -/
theorem mismatchOrArrivalEndsTheSending : Obligations.MismatchOrArrivalEndsTheSending := by
  unfold Obligations.MismatchOrArrivalEndsTheSending
  refine ⟨⟨fun s => ⟨fun ht hb hr => ?_, fun h => ?_⟩,
    fun s f ht hb hr hi hf => ?_, fun s r ht hb hr hi hl => ?_, fun s h => ?_⟩,
    fun s => ⟨fun l ht hp hr hm => ?_, exec_frameSent_none⟩⟩
  · rw [exec_arbitrationLoss_lost ht ((mismatch_iff _).2 ⟨hb, hr⟩)]
    simp only [talkVoid_iff]
  · exact exec_arbitrationLoss_none (h.imp_right not_mismatch)
  · rw [exec_payloadCollision_met ht ((mismatch_iff _).2 ⟨hb, hr⟩), dropInFlight_talk s hi hf]
    have void : s.talkVoid = (s.frame.leave.isSome ||
        !(decide (s.mem.state = .joining) || decide (s.mem.state = .member))) := by
      rw [Bool.eq_iff_iff, talkVoid_iff]
      simp
    rw [← void]
    rfl
  · rw [exec_payloadCollision_met ht ((mismatch_iff _).2 ⟨hb, hr⟩), dropInFlight_leave s hi hl]
    rfl
  · exact exec_payloadCollision_none (h.imp_right not_mismatch)
  · intro own rest
    have left : s.frame.receiptLeft = own := rfl
    rw [exec_frameSent_sent ht hp hr hm, ownReceipt_eq]
    refine ⟨fun hi => ?_, fun hi => ?_⟩
    · have sent : s.frame.sent = { s.frame with talk := none, inFlight := none } := by simp [FrameUnit.sent, hi]
      rw [sent]
      rfl
    · have sent : s.frame.sent = { s.frame with leave := none, inFlight := none } := by simp [FrameUnit.sent, hi]
      rw [sent]
      rfl

/-! ## The stuck line (R75, R77) -/

theorem exec_wordStuck_due {s : State} {n : Nat} (hl : s.frame.lowTimer = some n)
    (due : s.dueWithin (ns 1000000 - n) = true) :
    exec .wordStuck s = .next (s.runTo (s.ts.sitePhase + (ns 1000000 - n))).wordStuck.settle := by
  show Host.Outcome.next (s.atExpiry (toLimit (ns 1000000) s.frame.lowTimer) State.wordStuck).settle = _
  rw [hl, toLimit, Option.map_some, atExpiry_due _ _ s due]

theorem wordStuck_again (s : State) (h : s.frame.fault = true) : s.wordStuck = s := if_pos h

/-- The LEAVE of the transmit slot once a dropped one has been looked at: a LEAVE requested since stands (R71, R77). -/
def FrameUnit.leaveReturned (f : FrameUnit) : Option LeaveReason :=
  match f.returnedLeave with
  | none => f.leave
  | some r => if f.leave.isSome || r.void then f.leave else some r.reason

theorem returnLeave_eq (f : FrameUnit) :
    f.returnLeave = { f with returnedLeave := none, leave := f.leaveReturned } := by
  unfold FrameUnit.returnLeave FrameUnit.leaveReturned
  cases h : f.returnedLeave with
  | none => simp [← h]
  | some r => rfl

theorem leaveReturned_none (f : FrameUnit) (h : f.returnedLeave = none) : f.leaveReturned = f.leave := by
  simp [FrameUnit.leaveReturned, h]

theorem leaveReturned_some (f : FrameUnit) {r : LeaveReason} {void : Bool} (h : f.returnedLeave = some ⟨r, void⟩)
    (hl : f.leave = none) : f.leaveReturned = if void then none else some r := by
  simp [FrameUnit.leaveReturned, h, hl]

section ReturnedTalk

variable (s : State) {f : Frame}

/-- No dropped talk frame, or one that is void (R77). -/
theorem returnTalk_gone (h : s.frame.returnedTalk = none ∨ ∃ f closed, s.frame.returnedTalk = some ⟨f, closed, true⟩) :
    s.returnTalk = { s with frame.returnedTalk := none } := by
  obtain h | ⟨f, closed, h⟩ := h
  · simp only [State.returnTalk, h]
    rw [← h]
  · simp [State.returnTalk, h]

theorem returnTalk_closed (h : s.frame.returnedTalk = some ⟨f, true, false⟩) :
    s.returnTalk = { s with frame.returnedTalk := none }.dropUnsent f := by
  simp [State.returnTalk, h]

theorem returnTalk_open (h : s.frame.returnedTalk = some ⟨f, false, false⟩) :
    s.returnTalk = { s with frame := { s.frame with returnedTalk := none, talk := some f } } := by
  simp [State.returnTalk, h]

end ReturnedTalk

/-- A talk frame dropped unsent (R75). -/
theorem dropUnsent_eq (s : State) (f : Frame) : s.dropUnsent f =
    { s with frame.unsent := min 65535 (s.frame.unsent + 1) }.post .frame .censusUnsent none
      (some (if f.kind = FrameKind.census then 1 else 2)) := by
  have code : signed32 (unsentCode f) = if f.kind = FrameKind.census then 1 else 2 := by
    unfold unsentCode
    cases f.kind <;> decide
  rw [State.dropUnsent, State.postInt, code]
  rfl

/-- Transmission suspended and the reception abandoned, before a dropped talk frame is looked at (R77). -/
def State.wordSuspended (s : State) : State :=
  { s with frame := { s.frame.quieted with
      fault := true, rx := .waitingIdle, rxBits := [], rxRun := 0, rxOwn := false, collision := false
      returnedLeave := none, leave := s.frame.leaveReturned } }

theorem wordStuck_declares (s : State) (h : s.frame.fault = false) :
    s.wordStuck = (s.wordSuspended.post .frame .lineFault none (some 1)).returnTalk := by
  unfold State.wordStuck
  rw [if_neg (by simp [h])]
  dsimp only
  rw [returnLeave_eq]
  rfl

/-- Settles O21: the flag set already, no dropped frame, a dropped talk frame, a dropped LEAVE. -/
theorem stuckWordLineReturnsTheDroppedFrame : Obligations.StuckWordLineReturnsTheDroppedFrame := by
  unfold Obligations.StuckWordLineReturnsTheDroppedFrame
  intro s n hl due empty
  rw [exec_wordStuck_due hl due]
  generalize s.ts.sitePhase + (ns 1000000 - n) = p
  intro u v
  have suspended (h : s.frame.returnedLeave = none) : { u.wordSuspended with frame.returnedTalk := none } = v := by
    unfold State.wordSuspended
    rw [leaveReturned_none u.frame h]
    rfl
  refine ⟨fun hf => ?_, fun hf ht hv => ?_, fun f closed void hf ht hv =>
    ⟨fun hx => ?_, fun hx hc => ?_, fun hx hc => ?_⟩, fun r void hf ht hv hn => ?_⟩
  · rw [wordStuck_again u hf, settle_nil u empty]
  · rw [wordStuck_declares u hf, returnTalk_gone (u.wordSuspended.post _ _ _ _) (.inl ht), ← suspended hv]
    exact congrArg _ (settle_post { u.wordSuspended with frame.returnedTalk := none } _ _ _ _ empty)
  · subst hx
    rw [wordStuck_declares u hf, returnTalk_gone (u.wordSuspended.post _ _ _ _) (.inr ⟨f, closed, ht⟩), ← suspended hv]
    exact congrArg _ (settle_post { u.wordSuspended with frame.returnedTalk := none } _ _ _ _ empty)
  · subst hx hc
    rw [wordStuck_declares u hf, returnTalk_closed (u.wordSuspended.post _ _ _ _) ht, dropUnsent_eq, ← suspended hv]
    exact congrArg _ (settle_post_post { u.wordSuspended with frame := { u.wordSuspended.frame with
      returnedTalk := none, unsent := min 65535 (u.frame.unsent + 1) } } _ _ _ _ _ _ _ empty)
  · subst hx hc
    rw [wordStuck_declares u hf, returnTalk_open (u.wordSuspended.post _ _ _ _) ht, ← suspended hv]
    exact congrArg _ (settle_post { u.wordSuspended with frame := { u.wordSuspended.frame with
      returnedTalk := none, talk := some f } } _ _ _ _ empty)
  · rw [wordStuck_declares u hf, returnTalk_gone (u.wordSuspended.post _ _ _ _) (.inl ht)]
    have returned : { u.wordSuspended with frame.returnedTalk := none } =
        { v with frame.leave := if void then none else some r } := by
      unfold State.wordSuspended
      rw [leaveReturned_some u.frame hv hn]
    rw [← returned]
    exact congrArg _ (settle_post { u.wordSuspended with frame.returnedTalk := none } _ _ _ _ empty)

end Sys2Proof.Machine

/-! # Receptions that are not delivered (R62, R64, R65, R67, R84, R92, R114, R115) -/

namespace Sys2Proof.Machine

open Sys2Proof

/-! ## What a reception has come to -/

/-- The state once what a reception has come to is taken up. -/
def State.receiptTaken (s : State) : State := { s with frame.receipt := none }

theorem exec_frameError_faulty {s : State} {kind : ErrorKind} {subject : Option NodeId}
    (h : s.frame.receipt = some (.faulty kind subject)) :
    exec .frameError s = .next (s.receiptTaken.frameFault kind subject).settle := by
  show execFrameError s = _
  simp only [execFrameError, h]
  rfl

/-- A frame that fails its CRC check (R62). -/
theorem exec_frameError_crc {s : State} {f : Frame} (h : s.frame.receipt = some (.arrived f false)) :
    exec .frameError s = .next (s.receiptTaken.frameFault .crc (some f.sender)).settle := by
  show execFrameError s = _
  simp only [execFrameError, h]
  rfl

section Arrives

variable {s : State} {f : Frame} (h : s.frame.receipt = some (.arrived f true)) (ht : s.frame.tx = .quiet)

include h ht

/-- A sound frame that is not the node's own is there for the row of its kind (R66, R76). -/
theorem arrival_some : s.arrival f.kind = some f := by simp [State.arrival, h, ht]

theorem exec_censusReceived_arrived (hk : f.kind = .census) :
    exec .censusReceived s = .next (s.receiptTaken.censusArrives f).settle := by
  show execCensusReceived s = _
  unfold execCensusReceived
  rw [← hk, arrival_some h ht]
  rfl

theorem exec_joinReceived_arrived (hk : f.kind = .join) :
    exec .joinReceived s = .next (s.receiptTaken.joinArrives f).settle := by
  show execJoinReceived s = _
  unfold execJoinReceived
  rw [← hk, arrival_some h ht]
  rfl

theorem exec_leaveReceived_arrived (hk : f.kind = .leave) :
    exec .leaveReceived s = .next (s.receiptTaken.leaveArrives f).settle := by
  show execLeaveReceived s = _
  unfold execLeaveReceived
  rw [← hk, arrival_some h ht]
  rfl

end Arrives

/-! ## A faulty reception (R62, R64) -/

/-- The frame unit with a faulty reception counted, and its epoch noted (R64). -/
def FrameUnit.faultNoted (kind : ErrorKind) (now : Epoch) (f : FrameUnit) : FrameUnit :=
  { f with
    crcErrors := if kind = .crc then min 65535 (f.crcErrors + 1) else f.crcErrors
    formatErrors := if kind = .format then min 65535 (f.formatErrors + 1) else f.formatErrors
    truncatedErrors := if kind = .truncated then min 65535 (f.truncatedErrors + 1) else f.truncatedErrors
    epochErrors := if kind = .epoch then min 65535 (f.epochErrors + 1) else f.epochErrors
    errorEpoch := some now }

theorem countError_eq (kind : ErrorKind) (now : Epoch) (f : FrameUnit) :
    { f.countError kind with errorEpoch := some now } = f.faultNoted kind now := by
  cases kind <;> rfl

theorem countError_errorEpoch (kind : ErrorKind) (f : FrameUnit) : (f.countError kind).errorEpoch = f.errorEpoch := by
  cases kind <;> rfl

theorem frameFault_again (s : State) (kind : ErrorKind) (subject : Option NodeId)
    (h : s.frame.errorEpoch = some s.ts.epoch) :
    s.frameFault kind subject = { s with frame := s.frame.faultNoted kind s.ts.epoch } := by
  have same : (s.frame.countError kind).errorEpoch = some s.ts.epoch := (countError_errorEpoch _ _).trans h
  unfold State.frameFault
  dsimp only
  rw [if_pos same, ← countError_eq, ← same]

theorem frameFault_first (s : State) (kind : ErrorKind) (subject : Option NodeId)
    (h : s.frame.errorEpoch ≠ some s.ts.epoch) :
    s.frameFault kind subject = { s with frame := s.frame.faultNoted kind s.ts.epoch }.post .frame .frameError subject
      (some (signed32 kind.code)) := by
  unfold State.frameFault
  dsimp only
  rw [if_neg (by rwa [countError_errorEpoch]), ← countError_eq]
  rfl

/-- The values of FRAME_ERROR (R64). -/
theorem signed32_errorKind (kind : ErrorKind) :
    signed32 kind.code = match kind with | .crc => 0 | .format => 1 | .truncated => 2 | .epoch => 3 := by
  cases kind <;> decide

/-! ## Frames with the node's own ID (R67, R84, R92) -/

section Own

variable (s : State) {f : Frame} (h : f.sender = s.mem.nodeId)

include h

theorem censusArrives_own : s.censusArrives f = s.reportOwnId := if_pos h

theorem joinArrives_own : s.joinArrives f = s.reportOwnId := if_pos h

theorem leaveArrives_own : s.leaveArrives f = s.reportOwnId := if_pos h

end Own

/-- Whatever its kind, the row that takes it reports it and does no more. -/
theorem exec_own_frame {s : State} {f : Frame} (h : s.frame.receipt = some (.arrived f true))
    (ht : s.frame.tx = .quiet) (hk : f.sender = s.mem.nodeId) :
    exec (match f.kind with | .census => .censusReceived | .join => .joinReceived | .leave => .leaveReceived) s =
      .next s.receiptTaken.reportOwnId.settle := by
  cases hf : f.kind
  · exact (exec_leaveReceived_arrived h ht hf).trans (by rw [leaveArrives_own s.receiptTaken hk])
  · exact (exec_censusReceived_arrived h ht hf).trans (by rw [censusArrives_own s.receiptTaken hk])
  · exact (exec_joinReceived_arrived h ht hf).trans (by rw [joinArrives_own s.receiptTaken hk])

theorem reportOwnId_listening (s : State) (h : s.mem.state = .listen ∨ s.mem.state = .apart) :
    s.reportOwnId = { s with mem := { s.mem with heard := true, evidenceThis := true } } := by
  obtain h | h := h <;> simp [State.reportOwnId, State.report, h, MembershipState.listening]

theorem reportOwnId_other (s : State) (h : s.mem.state ≠ .listen ∧ s.mem.state ≠ .apart) :
    s.reportOwnId = s.report .frameOwnId := by
  have deaf : ¬ s.mem.state.listening = true := by rw [listening_iff]; tauto
  unfold State.reportOwnId
  rw [if_neg deaf]

theorem report_idle (s : State) (c : Cause)
    (h : s.mem.state = .unconfigured ∨ s.mem.state = .withdrawn ∨ s.mem.state = .conflict) : s.report c = s := by
  obtain h | h | h := h <;> simp [State.report, h]

/-- Settles O22: a faulty reception by whether it is the epoch's first, a frame with the own ID by membership state. -/
theorem faultyAndOwnIdFramesAreNotDelivered : Obligations.FaultyAndOwnIdFramesAreNotDelivered := by
  unfold Obligations.FaultyAndOwnIdFramesAreNotDelivered
  refine ⟨fun s kind subject empty hr => ?_, fun s f hr ht hk empty => ?_⟩
  · dsimp only
    have row : exec .frameError s = .next (s.receiptTaken.frameFault kind subject).settle := by
      obtain hr | ⟨rfl, f, hr, rfl⟩ := hr
      · exact exec_frameError_faulty hr
      · exact exec_frameError_crc hr
    rw [row]
    refine ⟨fun he => ?_, fun he => ?_⟩
    · rw [frameFault_again s.receiptTaken kind subject he]
      exact congrArg _ (settle_nil _ empty)
    · rw [frameFault_first s.receiptTaken kind subject he]
      rw [settle_post _ _ _ _ _ (by exact empty), signed32_errorKind]
      rfl
  · intro c v
    have row : exec c s = .next v.reportOwnId.settle := exec_own_frame hr ht hk
    rw [row]
    refine ⟨fun hs => ?_, fun hs => ?_, fun hs he => ?_, fun hs => ?_⟩
    · rw [reportOwnId_listening v hs]
      exact congrArg _ (settle_nil _ empty)
    · have windowed : v.mem.state.mode = .windowed := mode_windowed (by change _ at hs; tauto)
      have first : ¬ (v.mem.state.active = true ∧ v.mem.evidenceLast = true) := by
        rintro ⟨ha, hl⟩
        obtain hs | ⟨-, hf⟩ := hs
        · rw [show v.mem.state = .aligning from hs] at ha; cases ha
        · exact absurd (hl.symm.trans hf) (by decide)
      rw [reportOwnId_other v (by constructor <;> intro hx <;> rw [hx] at windowed <;> cases windowed),
        report_windowed v _ windowed first]
      exact congrArg _ (settle_nil _ empty)
    · rw [reportOwnId_other v (by obtain hs | hs := hs <;> simp [v, hs])]
    · rw [reportOwnId_other v (by obtain hs | hs | hs := hs <;> simp [v, hs]), report_idle v _ hs]
      exact congrArg _ (settle_nil _ empty)

/-! ## A CENSUS with another epoch number (R65, R114, R115) -/

theorem censusArrives_mismatched (s : State) {k : NodeId} {e : Epoch} {cls : OscClass} {d : Declared}
    {obs : List Observation} (hk : k ≠ s.mem.nodeId) (hm : s.mem.state = .member) (he : e ≠ s.ts.epoch) :
    s.censusArrives (.census k e cls d obs) = (s.frameFault .epoch (some k)).rosterNotice k e d.timing :=
  (if_neg hk).trans (if_pos ⟨hm, he⟩)

theorem noteDifference_member (s : State) (k : NodeId) (e : Epoch) (t : TimingState) (h : s.mem.state = .member) :
    s.noteDifference k e t =
      { s with roster.diffs := enterRow k ⟨e - s.ts.epoch, decide (t = .anchored)⟩ s.roster.diffs } := if_pos h

/-- An entry heard of by a mismatch notice (R114). -/
theorem notice_eq (now : Epoch) (x : Entry) : x.notice now =
    { x with lastEpoch := now, received := if x.received = .none then .mismatched else x.received } := by
  unfold Entry.notice
  cases h : x.received <;> rfl

/-- The entries after a mismatch notice (R114). -/
def State.noticed (k : NodeId) (s : State) : List Entry :=
  match s.roster.find k with
  | some x => replaceEntry (x.notice s.ts.epoch) s.roster.entries
  | none => s.roster.entries

theorem rosterNotice_member (s : State) (k : NodeId) (e : Epoch) (t : TimingState) (h : s.mem.state = .member) :
    s.rosterNotice k e t = { s with roster := { s.roster with
      entries := s.noticed k
      diffs := enterRow k ⟨e - s.ts.epoch, decide (t = .anchored)⟩ s.roster.diffs } } := by
  unfold State.rosterNotice State.noticed
  cases s.roster.find k with
  | none => exact noteDifference_member _ k e t h
  | some x => exact noteDifference_member _ k e t h

/-- A MEMBER after a CENSUS with another epoch number, FRAME_ERROR apart (R64, R114, R115). -/
def State.mismatchNoted (k : NodeId) (e : Epoch) (t : TimingState) (s : State) : State :=
  { s with
    frame := s.frame.faultNoted .epoch s.ts.epoch
    roster := { s.roster with
      entries := s.noticed k
      diffs := enterRow k ⟨e - s.ts.epoch, decide (t = .anchored)⟩ s.roster.diffs } }

section Mismatched

variable {s : State} {k : NodeId} {e : Epoch} {cls : OscClass} {d : Declared} {obs : List Observation}
  (hk : k ≠ s.mem.nodeId) (hm : s.mem.state = .member) (he : e ≠ s.ts.epoch)

include hk hm he

theorem censusArrives_mismatched_again (hn : s.frame.errorEpoch = some s.ts.epoch) :
    s.censusArrives (.census k e cls d obs) = s.mismatchNoted k e d.timing := by
  rw [censusArrives_mismatched s hk hm he, frameFault_again s _ _ hn, rosterNotice_member _ _ _ _ (by exact hm)]
  rfl

theorem censusArrives_mismatched_first (hn : s.frame.errorEpoch ≠ some s.ts.epoch) :
    s.censusArrives (.census k e cls d obs) =
      (s.mismatchNoted k e d.timing).post .frame .frameError (some k) (some 3) := by
  rw [censusArrives_mismatched s hk hm he, frameFault_first s _ _ hn, signed32_errorKind,
    rosterNotice_member _ _ _ _ (by exact hm)]
  rfl

end Mismatched

/-- Settles O25: the EPOCH error, posted or not, and then the notice. -/
theorem mismatchedCensusGivesANotice : Obligations.MismatchedCensusGivesANotice := by
  unfold Obligations.MismatchedCensusGivesANotice
  intro s k e cls d obs hr ht hk hm he empty heard v
  have noticed : s.noticed k = v.roster.entries := by
    show s.noticed k = match s.roster.find k with
      | some x => replaceEntry (heard x) s.roster.entries
      | none => s.roster.entries
    unfold State.noticed
    cases s.roster.find k with
    | none => rfl
    | some x => exact congrArg (replaceEntry · s.roster.entries) (notice_eq s.ts.epoch x)
  have noted : s.receiptTaken.mismatchNoted k e d.timing = v := by
    have entries : s.receiptTaken.noticed k = v.roster.entries := noticed
    rw [State.mismatchNoted, entries]
    rfl
  rw [exec_censusReceived_arrived hr ht rfl]
  by_cases hn : s.frame.errorEpoch = some s.ts.epoch
  · rw [if_pos hn, censusArrives_mismatched_again (s := s.receiptTaken) hk hm he hn, noted, settle_nil v empty]
  · rw [if_neg hn, censusArrives_mismatched_first (s := s.receiptTaken) hk hm he hn, noted, settle_post v _ _ _ _ empty]

end Sys2Proof.Machine

/-! # Good frames at a MEMBER (R66, R100 to R104, R110, R115, R143) -/

namespace Sys2Proof.Machine

open Sys2Proof

/-! ## What an entry takes of a frame (R102, R103) -/

/-- An entry noted, with the sample that its slot, the sender's observation of this node and its path delay give
(R103). -/
def Entry.sampledBy (slot : SlotReading) (seen : Option Observation) (delay : Option Int) (now : Epoch) (e : Entry) :
    Entry :=
  match slot, seen, delay with
  | .one m, some o, _ => { e with
      delay := some (Int.tdiv (m + o.offset) 2)
      ring := placeSample e.ring ⟨now, Int.tdiv (o.offset - m) 2, .twoWay⟩
      sampled := true }
  | .one m, none, some x => { e with ring := placeSample e.ring ⟨now, x - m, .oneWay⟩, sampled := true }
  | .one _, none, none => e
  | .none, _, _ => e
  | .contested, _, _ => e

theorem takeSample_eq (own : NodeId) (slot : SlotReading) (f : Frame) (now : Epoch) (e : Entry) :
    e.takeSample own slot f now = e.sampledBy slot (f.observations.find? (fun o => o.peer = own)) e.delay now := by
  unfold Entry.takeSample Entry.sampledBy
  cases slot with
  | none | contested => rfl
  | one m =>
    dsimp only
    cases f.observations.find? (fun o => decide (o.peer = own)) <;> cases e.delay <;> rfl

theorem entryTakes_eq (s : State) (f : Frame) (e : Entry) :
    s.entryTakes f e = (e.record f s.ts.epoch).sampledBy (s.readSlot f.sender)
      (f.observations.find? (fun o => o.peer = s.mem.nodeId)) e.delay s.ts.epoch := by
  have same : (e.record f s.ts.epoch).delay = e.delay := by cases f <;> rfl
  rw [State.entryTakes, takeSample_eq, same]

/-- A new entry has no delay yet: only an observation of this node gives it a sample (R103). -/
theorem sampledBy_new (m : Int) (seen : Option Observation) (now : Epoch) {e : Entry} (h : e.ring = []) :
    e.sampledBy (.one m) seen none now = match seen with
      | some o => { e with
          delay := some (Int.tdiv (m + o.offset) 2)
          ring := [⟨now, Int.tdiv (o.offset - m) 2, .twoWay⟩]
          sampled := true }
      | none => e := by
  cases seen with
  | none => rfl
  | some o => simp only [Entry.sampledBy, h]; rfl

/-! ## A frame from a sender without an entry (R100, R101) -/

/-- Whether a sender without an entry may have one (R100). -/
def State.mayEnter (k : NodeId) (s : State) : Prop :=
  maskHas s.cfg.admission k = true ∧ (s.readSlot k).isOne = true

theorem mayEnter_of_one {s : State} {k : NodeId} {m : Int} (ha : maskHas s.cfg.admission k = true)
    (hs : s.readSlot k = .one m) : s.mayEnter k := ⟨ha, congrArg SlotReading.isOne hs⟩

theorem not_mayEnter {s : State} {k : NodeId}
    (h : maskHas s.cfg.admission k = false ∨ (s.readSlot k).isOne = false) : ¬ s.mayEnter k := by
  rintro ⟨ha, ho⟩
  exact h.elim (Bool.eq_false_iff.1 · ha) (Bool.eq_false_iff.1 · ho)

/-- What a new entry takes of the frame that makes it (R100, R102, R103). -/
theorem entryTakes_new {s : State} {f : Frame} {m : Int} (hs : s.readSlot f.sender = .one m) {x : Entry}
    (hx : (Entry.new f.sender f.cls s.ts.epoch).record f s.ts.epoch = x) (hr : x.ring = []) :
    s.entryTakes f (.new f.sender f.cls s.ts.epoch) =
      match f.observations.find? (fun o => o.peer = s.mem.nodeId) with
      | some o => { x with
          delay := some (Int.tdiv (m + o.offset) 2)
          ring := [⟨s.ts.epoch, Int.tdiv (o.offset - m) 2, .twoWay⟩]
          sampled := true }
      | none => x := by
  rw [entryTakes_eq, hx, hs]
  exact sampledBy_new m _ _ hr

section Offer

variable (s : State) {f : Frame}

theorem offerEntry_barred (h : ¬ s.mayEnter f.sender) : s.offerEntry f = s :=
  if_neg (by rwa [Bool.and_eq_true])

theorem offerEntry_enters (h : s.mayEnter f.sender) (hn : s.roster.entries.length < 8) :
    s.offerEntry f = { s with
      roster.entries := insertEntry (s.entryTakes f (.new f.sender f.cls s.ts.epoch)) s.roster.entries } :=
  (if_pos (by rwa [Bool.and_eq_true])).trans (if_pos hn)

theorem offerEntry_full_again (h : s.mayEnter f.sender) (hn : 8 ≤ s.roster.entries.length)
    (hp : f.sender ∈ s.roster.fullPosted) : s.offerEntry f = s :=
  (if_pos (by rwa [Bool.and_eq_true])).trans ((if_neg (Nat.not_lt.2 hn)).trans (if_pos (by simpa using hp)))

theorem offerEntry_full_first (h : s.mayEnter f.sender) (hn : 8 ≤ s.roster.entries.length)
    (hp : f.sender ∉ s.roster.fullPosted) : s.offerEntry f =
      { s with roster.fullPosted := s.roster.fullPosted ++ [f.sender] }.post .roster .rosterFull (some f.sender) none :=
  (if_pos (by rwa [Bool.and_eq_true])).trans ((if_neg (Nat.not_lt.2 hn)).trans (if_neg (by simpa using hp)))

end Offer

/-! ## A frame taken (R66, R102, R115) -/

theorem rosterTakes_known (s : State) {f : Frame} {e : Entry} (h : s.roster.find f.sender = some e) :
    s.rosterTakes f =
      { s with roster.entries := replaceEntry (s.entryTakes f e) s.roster.entries }.noteFrame f := by
  simp only [State.rosterTakes, h]

theorem rosterTakes_unknown (s : State) {f : Frame} (h : s.roster.find f.sender = none) :
    s.rosterTakes f = (s.offerEntry f).noteFrame f := by
  simp only [State.rosterTakes, h]

theorem noteFrame_other (s : State) (f : Frame) (h : f.kind ≠ .census ∨ s.mem.state ≠ .member) :
    s.noteFrame f = s := by
  cases f with
  | census k e cls d obs => exact if_neg (h.resolve_left fun hk => hk rfl)
  | join | leave => rfl

theorem memberDelivery_member (s : State) (f : Frame) (h : s.mem.state = .member) : s.memberDelivery f = s := by
  simp [State.memberDelivery, h]

/-- A good CENSUS, carrying a MEMBER's own number, is delivered (R65, R66). -/
theorem censusArrives_good (s : State) {f : Frame} (hk : f.kind = .census) (hs : f.sender ≠ s.mem.nodeId)
    (he : s.mem.state = .member → f.epoch = s.ts.epoch) : s.censusArrives f = s.deliver f := by
  cases f with
  | census k e cls d obs => exact (if_neg hs).trans (if_neg fun h => h.2 (he h.1))
  | join | leave => cases hk

theorem joinArrives_good (s : State) {f : Frame} (hs : f.sender ≠ s.mem.nodeId) : s.joinArrives f = s.deliver f :=
  if_neg hs

theorem offerEntry_mem (s : State) (f : Frame) : (s.offerEntry f).mem = s.mem := by
  unfold State.offerEntry
  dsimp only
  repeat' split
  all_goals rfl

theorem noteFrame_mem (s : State) (f : Frame) : (s.noteFrame f).mem = s.mem := by
  cases f with
  | census k e cls d obs =>
    show (s.noteDifference k e d.timing).mem = s.mem
    unfold State.noteDifference
    split <;> rfl
  | join | leave => rfl

theorem rosterTakes_mem (s : State) (f : Frame) : (s.rosterTakes f).mem = s.mem := by
  cases h : s.roster.find f.sender with
  | some e => rw [rosterTakes_known s h, noteFrame_mem]
  | none => rw [rosterTakes_unknown s h, noteFrame_mem, offerEntry_mem]

/-- The membership unit of a MEMBER takes nothing of a frame (R66). -/
theorem deliver_member (s : State) (f : Frame) (h : s.mem.state = .member) : s.deliver f = s.rosterTakes f :=
  memberDelivery_member _ f (by rw [rosterTakes_mem, h])

section CensusTaken

variable {s : State} {k : NodeId} {cls : OscClass} {d : Declared} {obs : List Observation}
  (hr : s.frame.receipt = some (.arrived (.census k s.ts.epoch cls d obs) true)) (ht : s.frame.tx = .quiet)
  (hk : k ≠ s.mem.nodeId) (hm : s.mem.state = .member)

include hr ht hk hm

theorem exec_censusReceived_member : exec .censusReceived s =
    .next (s.receiptTaken.rosterTakes (.census k s.ts.epoch cls d obs)).settle := by
  rw [exec_censusReceived_arrived hr ht rfl,
    censusArrives_good s.receiptTaken (f := .census k s.ts.epoch cls d obs) rfl hk fun _ => rfl,
    deliver_member s.receiptTaken _ hm]

end CensusTaken

/-- A good CENSUS carries this node's number: its difference is 0 (R115). -/
theorem noteFrame_census {s : State} {k : NodeId} {e : Epoch} {cls : OscClass} {d : Declared} {obs : List Observation}
    (hm : s.mem.state = .member) (he : e = s.ts.epoch) : s.noteFrame (.census k e cls d obs) =
      { s with roster.diffs := enterRow k ⟨0, decide (d.timing = .anchored)⟩ s.roster.diffs } := by
  subst he
  have zero : s.ts.epoch - s.ts.epoch = 0 := BitVec.sub_self _
  rw [← zero]
  exact noteDifference_member s k s.ts.epoch d.timing hm

/-! ## The ring of samples (R104) -/

theorem placeSample_newest {older : List Sample} {newest x : Sample} (h : newest.epoch = x.epoch) :
    placeSample (older ++ [newest]) x = older ++ [x] := by simp [placeSample, h]

theorem placeSample_joins {older : List Sample} {newest x : Sample} (h : newest.epoch ≠ x.epoch) :
    placeSample (older ++ [newest]) x = appendBounded 16 (older ++ [newest]) x := by simp [placeSample, h]

theorem appendBounded_room {α : Type} {n : Nat} {xs : List α} {x : α} (h : xs.length < n) :
    appendBounded n xs x = xs ++ [x] := by
  have keeps : xs.length + 1 - n = 0 := by omega
  simp [appendBounded, keeps]

theorem appendBounded_full {α : Type} {n : Nat} {xs : List α} {x : α} (h : xs.length = n) (hn : 0 < n) :
    appendBounded n xs x = xs.tail ++ [x] := by
  obtain ⟨y, ys, rfl⟩ := List.exists_cons_of_length_pos (h ▸ hn)
  have drops : (y :: ys).length + 1 - n = 1 := by omega
  simp only [appendBounded, List.length_append, List.length_singleton, drops]
  rfl

theorem placeSample_bounded (ring : List Sample) (x : Sample) (h : ring.length ≤ 16) :
    (placeSample ring x).length ≤ 16 ∧ (placeSample ring x).getLast? = some x := by
  obtain rfl | ⟨older, newest, rfl⟩ := ring.eq_nil_or_concat'
  · exact ⟨by simp [placeSample], rfl⟩
  by_cases he : newest.epoch = x.epoch
  · rw [placeSample_newest he]
    exact ⟨by simpa using h, by simp⟩
  · rw [placeSample_joins he]
    obtain hl | hl := h.lt_or_eq
    · rw [appendBounded_room hl]
      exact ⟨by simp at hl ⊢; omega, by simp⟩
    · rw [appendBounded_full hl (by decide)]
      exact ⟨by simp_all, by simp⟩

/-! ## Entries in order of ID (R100) -/

theorem mem_insertEntry (e x : Entry) (entries : List Entry) : x ∈ insertEntry e entries ↔ x = e ∨ x ∈ entries := by
  induction entries with
  | nil => simp [insertEntry]
  | cons y ys ih =>
    unfold insertEntry
    split
    · simp
    · simp [ih]
      tauto

theorem insertEntry_length (e : Entry) (entries : List Entry) :
    (insertEntry e entries).length = entries.length + 1 := by
  induction entries with
  | nil => rfl
  | cons y ys ih =>
    unfold insertEntry
    split
    · rfl
    · simp [ih]

/-- Ascending is what it says of neighbours, and so of any two. -/
theorem ascending_iff_pairwise (entries : List Entry) :
    ascending entries ↔ entries.Pairwise (fun a b => a.id < b.id) := by
  induction entries with
  | nil => simp [ascending]
  | cons a rest ih =>
    cases rest with
    | nil => simp [ascending]
    | cons b rest =>
      rw [ascending, ih, List.pairwise_cons (a := a)]
      refine and_congr_left fun h => ⟨fun hab x hx => ?_, fun hall => hall b (by simp)⟩
      obtain rfl | hx := List.mem_cons.1 hx
      · exact hab
      · exact hab.trans ((List.pairwise_cons.1 h).1 x hx)

theorem insertEntry_ascending {e : Entry} {entries : List Entry} (hid : ∀ y ∈ entries, y.id ≠ e.id)
    (h : ascending entries) : ascending (insertEntry e entries) := by
  rw [ascending_iff_pairwise] at h ⊢
  induction entries with
  | nil => simp [insertEntry]
  | cons y ys ih =>
    obtain ⟨first, rest⟩ := List.pairwise_cons.1 h
    unfold insertEntry
    split
    next lt =>
      refine List.pairwise_cons.2 ⟨fun x hx => ?_, h⟩
      obtain rfl | hx := List.mem_cons.1 hx
      · exact lt
      · exact lt.trans (first x hx)
    next ge =>
      have above : y.id < e.id := lt_of_le_of_ne (not_lt.1 ge) (hid y (by simp))
      refine List.pairwise_cons.2 ⟨fun x hx => ?_, ih (fun x hx => hid x (by simp [hx])) rest⟩
      obtain rfl | hx := (mem_insertEntry e x ys).1 hx
      · exact above
      · exact first x hx

/-! ## Rows of the difference table in order of ID (R115) -/

theorem mem_enterRow_of_ne {k : NodeId} {c : DiffColumns} {r : DiffRow} (rows : List DiffRow) (h : r.id ≠ k) :
    r ∈ enterRow k c rows ↔ r ∈ rows := by
  have fresh : ∀ x : DiffRow, x.id = k → r ≠ x := fun x hx hrx => h (hrx ▸ hx)
  induction rows with
  | nil => simpa [enterRow] using fresh _ rfl
  | cons x xs ih =>
    unfold enterRow
    split
    next hk => simp [fresh { x with now := some c } hk.symm, fresh x hk.symm]
    next =>
      split
      · rw [List.mem_cons, or_iff_right (fresh _ rfl)]
      · simp [ih]

theorem enterRow_enters (k : NodeId) (c : DiffColumns) (rows : List DiffRow) :
    ∃ x ∈ enterRow k c rows, x.id = k ∧ x.now = some c := by
  induction rows with
  | nil => exact ⟨⟨k, some c, 0, 0⟩, by simp [enterRow], rfl, rfl⟩
  | cons x xs ih =>
    unfold enterRow
    split
    next hk => exact ⟨{ x with now := some c }, by simp, hk.symm, rfl⟩
    next =>
      split
      · exact ⟨⟨k, some c, 0, 0⟩, by simp, rfl, rfl⟩
      · obtain ⟨y, hy, hid, hnow⟩ := ih
        exact ⟨y, List.mem_cons_of_mem _ hy, hid, hnow⟩

/-- Every row of the new table has the ID entered or that of an old one. -/
theorem id_of_mem_enterRow {k : NodeId} {c : DiffColumns} {x : DiffRow} {rows : List DiffRow}
    (h : x ∈ enterRow k c rows) : x.id = k ∨ x ∈ rows := by
  by_cases hk : x.id = k
  · exact .inl hk
  · exact .inr ((mem_enterRow_of_ne rows hk).1 h)

theorem enterRow_pairwise (k : NodeId) (c : DiffColumns) {rows : List DiffRow}
    (h : rows.Pairwise (fun a b => a.id < b.id)) : (enterRow k c rows).Pairwise (fun a b => a.id < b.id) := by
  induction rows with
  | nil => simp [enterRow]
  | cons x xs ih =>
    obtain ⟨first, rest⟩ := List.pairwise_cons.1 h
    unfold enterRow
    split
    next => exact List.pairwise_cons.2 ⟨first, rest⟩
    next hne =>
      split
      next lt =>
        refine List.pairwise_cons.2 ⟨fun y hy => ?_, h⟩
        obtain rfl | hy := List.mem_cons.1 hy
        · exact lt
        · exact lt.trans (first y hy)
      next ge =>
        refine List.pairwise_cons.2 ⟨fun y hy => ?_, ih rest⟩
        obtain hy | hy := id_of_mem_enterRow hy
        · exact hy ▸ lt_of_le_of_ne (not_lt.1 ge) (Ne.symm hne)
        · exact first y hy

/-- A row entered again keeps its run. -/
theorem enterRow_again {k : NodeId} {c : DiffColumns} {r : DiffRow} {rows : List DiffRow}
    (h : rows.Pairwise (fun a b => a.id < b.id)) (hr : r ∈ rows) (hk : r.id = k) :
    { r with now := some c } ∈ enterRow k c rows := by
  induction rows with
  | nil => cases hr
  | cons x xs ih =>
    obtain ⟨first, rest⟩ := List.pairwise_cons.1 h
    unfold enterRow
    obtain rfl | hr := List.mem_cons.1 hr
    · rw [if_pos hk.symm]
      exact List.mem_cons_self
    · have below : x.id < k := hk ▸ first r hr
      rw [if_neg below.ne', if_neg (not_lt.2 below.le)]
      exact List.mem_cons_of_mem _ (ih rest hr)

theorem enterRow_fresh {k : NodeId} {c : DiffColumns} {rows : List DiffRow} (h : ∀ x ∈ rows, x.id ≠ k) :
    (⟨k, some c, 0, 0⟩ : DiffRow) ∈ enterRow k c rows := by
  induction rows with
  | nil => simp [enterRow]
  | cons x xs ih =>
    unfold enterRow
    rw [if_neg fun hk => h x (by simp) hk.symm]
    split
    · exact List.mem_cons_self
    · exact List.mem_cons_of_mem _ (ih fun y hy => h y (by simp [hy]))

/-- Settles O24: a sender with an entry, one without, and the three lists in their order. -/
theorem goodCensusIsRecordedAndSampled : Obligations.GoodCensusIsRecordedAndSampled := by
  unfold Obligations.GoodCensusIsRecordedAndSampled
  refine ⟨fun s k cls d obs e hr ht hk hm empty he => ?_, fun s k cls d obs hr ht hk hm empty he => ?_,
    fun ring older newest x => ⟨rfl, ?_, placeSample_bounded ring x⟩,
    fun e x entries => ⟨rfl, mem_insertEntry e x entries, insertEntry_length e entries, insertEntry_ascending⟩,
    fun k c r rows => ⟨mem_enterRow_of_ne rows, enterRow_enters k c rows,
      fun h => ⟨enterRow_pairwise k c h, enterRow_again h, enterRow_fresh⟩⟩⟩
  · intro noted sampled
    have takes : s.receiptTaken.entryTakes (.census k s.ts.epoch cls d obs) e = sampled :=
      entryTakes_eq s.receiptTaken _ e
    rw [exec_censusReceived_member hr ht hk hm,
      rosterTakes_known s.receiptTaken (f := .census k s.ts.epoch cls d obs) he, takes,
      noteFrame_census (by exact hm) (by rfl)]
    exact congrArg _ (settle_nil _ empty)
  · intro v fresh
    rw [exec_censusReceived_member hr ht hk hm,
      rosterTakes_unknown s.receiptTaken (f := .census k s.ts.epoch cls d obs) he]
    have enters {m : Int} (ha : maskHas s.cfg.admission k = true) (hs : s.readSlot k = .one m) :
        s.receiptTaken.mayEnter (Frame.census k s.ts.epoch cls d obs).sender := mayEnter_of_one ha hs
    refine ⟨fun hb => ?_, fun m ha hs hn => ?_, fun m ha hs hn => ⟨fun hp => ?_, fun hp => ?_⟩⟩
    · have barred : ¬ s.receiptTaken.mayEnter (Frame.census k s.ts.epoch cls d obs).sender := not_mayEnter hb
      rw [offerEntry_barred s.receiptTaken barred, noteFrame_census (by exact hm) (by rfl)]
      exact congrArg _ (settle_nil v empty)
    · intro e
      have takes : s.receiptTaken.entryTakes (.census k s.ts.epoch cls d obs) (.new k cls s.ts.epoch) = e :=
        entryTakes_new (s := s.receiptTaken) (f := .census k s.ts.epoch cls d obs) (x := fresh) hs rfl rfl
      rw [offerEntry_enters s.receiptTaken (enters ha hs) hn, noteFrame_census (by exact hm) (by rfl), ← takes]
      exact congrArg _ (settle_nil _ empty)
    · rw [offerEntry_full_again s.receiptTaken (enters ha hs) hn hp, noteFrame_census (by exact hm) (by rfl)]
      exact congrArg _ (settle_nil v empty)
    · rw [offerEntry_full_first s.receiptTaken (enters ha hs) hn hp, noteFrame_census (by exact hm) (by rfl)]
      exact congrArg _ (settle_post { v with roster.fullPosted := s.roster.fullPosted ++ [k] } _ _ _ _ empty)
  · rintro rfl
    refine ⟨placeSample_newest, fun he hl => ?_, fun he hl => ?_⟩
    · rw [placeSample_joins he, appendBounded_room hl]
    · rw [placeSample_joins he, appendBounded_full hl (by decide)]

/-! ## A JOIN at a MEMBER, and a LEAVE in any state (R66, R84, R100 to R104, R110, R143) -/

theorem exec_joinReceived_member {s : State} {k : NodeId} {ep : Epoch} {cls : OscClass} {obs : List Observation}
    (hr : s.frame.receipt = some (.arrived (.join k ep cls obs) true)) (ht : s.frame.tx = .quiet)
    (hk : k ≠ s.mem.nodeId) (hm : s.mem.state = .member) :
    exec .joinReceived s = .next (s.receiptTaken.rosterTakes (.join k ep cls obs)).settle := by
  rw [exec_joinReceived_arrived hr ht rfl, joinArrives_good s.receiptTaken (f := .join k ep cls obs) hk,
    deliver_member s.receiptTaken _ hm]

/-- A JOIN is not entered in the difference table (R115). -/
theorem noteFrame_join (s : State) (k : NodeId) (ep : Epoch) (cls : OscClass) (obs : List Observation) :
    s.noteFrame (.join k ep cls obs) = s := rfl

theorem memberLeave_eq (s : State) : s.memberLeave =
    { s with mem.heard := if s.mem.state = .listen ∨ s.mem.state = .apart then true else s.mem.heard } := by
  unfold State.memberLeave
  by_cases h : s.mem.state = .listen ∨ s.mem.state = .apart
  · rw [if_pos h, if_pos ((listening_iff _).2 h)]
  · rw [if_neg h, if_neg fun hl => h ((listening_iff _).1 hl)]

theorem leaveArrives_good (s : State) {k : NodeId} {ep : Epoch} {r : LeaveReason} (hk : k ≠ s.mem.nodeId) :
    s.leaveArrives (.leave k ep r) = (s.rosterLeave k r).memberLeave := if_neg hk

/-- The roster and the solver without an entry and its row (R101, R110, R143). -/
def State.entryGone (k : NodeId) (s : State) : State :=
  { s with
    roster := { s.roster with
      entries := s.roster.entries.filter (fun e => e.id ≠ k)
      fullPosted := []
      diffs := s.roster.diffs.filter (fun d => d.id ≠ k) }
    solver := { s.solver with
      lastC := s.solver.lastC.filter (fun j => j ≠ k)
      lastA := s.solver.lastA.filter (fun j => j ≠ k) } }

theorem signed32_leaveReason (r : LeaveReason) :
    signed32 r.code = match r with | .command => 1 | .supply => 2 | .conflict => 3 := by
  cases r <;> decide

theorem rosterLeave_unknown (s : State) {k : NodeId} (r : LeaveReason) (h : ∀ e ∈ s.roster.entries, e.id ≠ k) :
    s.rosterLeave k r = s := by
  have unknown : s.roster.find k = none := List.find?_eq_none.2 fun e he => by simpa using h e he
  simp only [State.rosterLeave, unknown]

theorem rosterLeave_known (s : State) {k : NodeId} (r : LeaveReason) (h : ∃ e ∈ s.roster.entries, e.id = k) :
    s.rosterLeave k r = (s.entryGone k).post .roster .peerRemoved (some k) (some (signed32 r.code)) := by
  obtain ⟨e, he, hk⟩ := h
  have known : (s.roster.find k).isSome = true := List.find?_isSome.2 ⟨e, he, by simpa using hk⟩
  obtain ⟨e', he'⟩ := Option.isSome_iff_exists.1 known
  have kept : (fun j : NodeId => !decide (j = k)) = fun j => decide (j ≠ k) := by funext j; simp
  unfold State.rosterLeave
  simp only [he', State.dropEntry, Solver.forget, kept]
  rfl

/-- Settles O26: a JOIN from a sender with an entry and from one without, and a LEAVE. -/
theorem joinsAndLeavesChangeTheRoster : Obligations.JoinsAndLeavesChangeTheRoster := by
  unfold Obligations.JoinsAndLeavesChangeTheRoster
  refine ⟨fun s k ep cls obs e hr ht hk hm empty he => ?_, fun s k ep cls obs hr ht hk hm empty he => ?_,
    fun s k ep r hr ht hk empty => ?_⟩
  · intro noted sampled
    have takes : s.receiptTaken.entryTakes (.join k ep cls obs) e = sampled := entryTakes_eq s.receiptTaken _ e
    rw [exec_joinReceived_member hr ht hk hm, rosterTakes_known s.receiptTaken (f := .join k ep cls obs) he, takes,
      noteFrame_join]
    exact congrArg _ (settle_nil _ empty)
  · intro v fresh
    rw [exec_joinReceived_member hr ht hk hm, rosterTakes_unknown s.receiptTaken (f := .join k ep cls obs) he,
      noteFrame_join]
    have enters {m : Int} (ha : maskHas s.cfg.admission k = true) (hs : s.readSlot k = .one m) :
        s.receiptTaken.mayEnter (Frame.join k ep cls obs).sender := mayEnter_of_one ha hs
    refine ⟨fun hb => ?_, fun m ha hs hn => ?_, fun m ha hs hn => ⟨fun hp => ?_, fun hp => ?_⟩⟩
    · have barred : ¬ s.receiptTaken.mayEnter (Frame.join k ep cls obs).sender := not_mayEnter hb
      rw [offerEntry_barred s.receiptTaken barred]
      exact congrArg _ (settle_nil v empty)
    · intro e
      have takes : s.receiptTaken.entryTakes (.join k ep cls obs) (.new k cls s.ts.epoch) = e :=
        entryTakes_new (s := s.receiptTaken) (f := .join k ep cls obs) (x := fresh) hs rfl rfl
      rw [offerEntry_enters s.receiptTaken (enters ha hs) hn, ← takes]
      exact congrArg _ (settle_nil _ empty)
    · rw [offerEntry_full_again s.receiptTaken (enters ha hs) hn hp]
      exact congrArg _ (settle_nil v empty)
    · rw [offerEntry_full_first s.receiptTaken (enters ha hs) hn hp]
      exact congrArg _ (settle_post { v with roster.fullPosted := s.roster.fullPosted ++ [k] } _ _ _ _ empty)
  · intro v
    rw [exec_leaveReceived_arrived hr ht rfl, leaveArrives_good s.receiptTaken hk]
    refine ⟨fun hn => ?_, fun hx => ?_⟩
    · rw [rosterLeave_unknown s.receiptTaken r hn, memberLeave_eq]
      exact congrArg _ (settle_nil v empty)
    · rw [rosterLeave_known s.receiptTaken r hx, memberLeave_eq, signed32_leaveReason]
      exact congrArg _ (settle_post (v.entryGone k) _ _ _ _ empty)

end Sys2Proof.Machine

/-! # Withdrawal by command and by supply (R68, R71, R94 to R96, R187) -/

namespace Sys2Proof.Machine

open Sys2Proof

/-! ## Entry to WITHDRAWN (R68, R71, R95) -/

/-- Two events of one lane, posted where none waited, are offered one after the other (R189). -/
theorem settle_two (s : State) (p q : Posting) (h : s.port.outbox = [p, q]) (hl : p.lane = q.lane) :
    s.settle = ({ s with port.outbox := [] }.offer p).offer q := by
  rw [settle_one q.lane s (by simp [h, hl]), h]
  rfl

section Withdrawn

variable (s : State) (r : LeaveReason)

theorem enterWithdrawn_quiet (h : s.mem.state.active = false) : s.enterWithdrawn r = s.changeState .withdrawn :=
  if_neg (Bool.eq_false_iff.1 h)

theorem enterWithdrawn_active (h : s.mem.state.active = true) :
    s.enterWithdrawn r = (s.changeState .withdrawn).requestLeave r := if_pos h

/-- Whether or not a LEAVE goes with it, the membership unit, the port and the roster are those of the change. -/
theorem enterWithdrawn_units : (s.enterWithdrawn r).mem = { s.mem with state := .withdrawn } ∧
    (s.enterWithdrawn r).port = { s.port with outbox := s.port.outbox ++ [s.changePosting .withdrawn] } ∧
    (s.enterWithdrawn r).roster.entries = [] := by
  have entries : (s.changeState .withdrawn).roster.entries = [] := changeState_entries s .withdrawn rfl
  cases h : s.mem.state.active
  · rw [enterWithdrawn_quiet s r h]
    exact ⟨changeState_mem s _, changeState_port s _, entries⟩
  · rw [enterWithdrawn_active s r h]
    simp [changeState_mem, changeState_port, entries]

theorem changeState_frame (new : MembershipState) :
    (s.changeState new).frame = s.frame.stateChange s.mem.state new := by
  unfold State.changeState; dsimp only; split <;> rfl

theorem changeState_mark (new : MembershipState) :
    (s.changeState new).mark = s.mark.stateChange s.mem.state new := by
  unfold State.changeState; dsimp only; split <;> rfl

theorem stateChange_withdrawn (old : MembershipState) (f : FrameUnit) :
    f.stateChange old .withdrawn = f.discardTalk := by
  simp [FrameUnit.stateChange]

/-- A node that neither talks nor marks is WITHDRAWN without a LEAVE (R95). -/
theorem enterWithdrawn_frame (h : s.mem.state.active = false) :
    (s.enterWithdrawn r).frame = s.frame.discardTalk := by
  rw [enterWithdrawn_quiet s r h, changeState_frame, stateChange_withdrawn]

/-- A talk frame that is not in flight goes (R68). -/
theorem enterWithdrawn_talk (h : s.frame.inFlight ≠ some .talk) : (s.enterWithdrawn r).frame.talk = none := by
  have gone : (s.changeState .withdrawn).frame.talk = none := by
    rw [changeState_frame, stateChange_withdrawn]
    exact if_neg h
  cases ha : s.mem.state.active
  · rw [enterWithdrawn_quiet s r ha, gone]
  · rw [enterWithdrawn_active s r ha]
    simp [State.requestLeave, FrameUnit.discardTalk, gone]

/-- The LEAVE of a node that talked and marked, its own mark released (R40, R71, R95). -/
theorem enterWithdrawn_leave (h : s.mem.state.active = true) :
    (s.enterWithdrawn r).frame.leave = some r ∧ (s.enterWithdrawn r).mark.drive = none := by
  rw [enterWithdrawn_active s r h]
  refine ⟨by simp [State.requestLeave], ?_⟩
  have released : (s.mark.stateChange s.mem.state .withdrawn).drive = none := by
    rw [stateChange_drive, h]
    simp [MembershipState.active]
  simp [changeState_mark, released]

end Withdrawn

/-! ## WITHDRAW and RESUME (R94, R95, R187) -/

section Commands

variable {s : State} {x : Slot} (ht : s.port.transaction = some x) (dt : Nat)

include ht

theorem exec_withdraw : exec (.withdraw dt) s =
    .next ({ s.advance dt with port.transaction := none, port.sdo := none } : State).withdraw.settle := by
  show Host.Outcome.next (s.atRise dt State.withdraw).settle = _
  rw [atRise_some dt _ s x ht]

theorem exec_resume : exec (.resume dt) s =
    .next ({ s.advance dt with port.transaction := none, port.sdo := none } : State).resume.settle := by
  show Host.Outcome.next (s.atRise dt State.resume).settle = _
  rw [atRise_some dt _ s x ht]

end Commands

theorem withdraw_refused (s : State)
    (h : s.mem.state = .unconfigured ∨ s.mem.state = .withdrawn ∨ s.mem.state = .conflict) :
    s.withdraw = s.refuseState 0x08 := by
  obtain h | h | h := h <;> simp [State.withdraw, h]

theorem withdraw_taken (s : State) (hu : s.mem.state ≠ .unconfigured) (hw : s.mem.state ≠ .withdrawn)
    (hc : s.mem.state ≠ .conflict) :
    s.withdraw = ({ s with mem.reasonCommand := true }.enterWithdrawn .command).accept 0x08 [] := by
  cases h : s.mem.state <;> simp_all [State.withdraw]

theorem resume_refused (s : State) (h : s.mem.state ≠ .withdrawn ∨ s.mem.reasonCommand = false) :
    s.resume = s.refuseState 0x09 :=
  if_neg (by
    rintro ⟨hs, hc⟩
    exact h.elim (· hs) (Bool.eq_false_iff.1 · hc))

theorem resume_taken (s : State) (hs : s.mem.state = .withdrawn) (hc : s.mem.reasonCommand = true) :
    s.resume = ({ s with mem.reasonCommand := false }.reasonsChecked).accept 0x09 [] := if_pos ⟨hs, hc⟩

theorem reasonsChecked_stays (s : State)
    (h : s.mem.state ≠ .withdrawn ∨ s.mem.reasonCommand = true ∨ s.mem.reasonSupply = true) :
    s.reasonsChecked = s :=
  if_neg (by
    rintro ⟨hs, hc, hp⟩
    obtain h | h | h := h
    · exact h hs
    · exact Bool.eq_false_iff.1 hc h
    · exact Bool.eq_false_iff.1 hp h)

theorem reasonsChecked_listens (s : State) (hs : s.mem.state = .withdrawn) (hc : s.mem.reasonCommand = false)
    (hp : s.mem.reasonSupply = false) : s.reasonsChecked = s.enterListen := if_pos ⟨hs, hc, hp⟩

/-- A LEAVE that has not started is discarded on the return to LISTEN (R71). -/
theorem enterListen_leave (s : State) (hs : s.mem.state = .withdrawn) (h : s.frame.inFlight ≠ some .leave) :
    s.enterListen.frame.leave = none := by
  have frame : s.enterListen.frame = s.frame.stateChange .withdrawn .listen := by
    rw [State.enterListen, changeState_frame]
    exact congrArg (s.frame.stateChange · .listen) hs
  rw [frame]
  simp [FrameUnit.stateChange, FrameUnit.discardLeave, MembershipState.active, h]

/-- The port after a command accepted within which one change of membership state was posted: the response in the
slot, the event in the queue (R82, R178, R189). -/
theorem accept_settle_port {s t u : State} {new : MembershipState} (c : Byte) (empty : u.port.outbox = [])
    (hs : s.port = u.port) (he : s.ts.epoch = u.ts.epoch)
    (ht : t.port = { s.port with outbox := s.port.outbox ++ [s.changePosting new] }) :
    (t.accept c []).settle.port = { (u.stored .membershipChange none (some (signed32 new.code))).port with
      slot := .pending ⟨c, .ok, 0, []⟩ } := by
  have posted : (t.accept c []).port.outbox = [s.changePosting new] := by simp [State.accept, ht, hs, empty]
  rw [settle_single _ _ posted]
  have port : (t.accept c []).port =
      { u.port with outbox := [s.changePosting new], slot := .pending ⟨c, .ok, 0, []⟩ } := by
    simp [State.accept, State.respond, ht, hs, empty]
  unfold State.stored State.offer
  simp only [port]
  split <;> simp [State.changePosting, he, ← empty]

/-- A command accepted, and the end of its step, leave the other units as they were. -/
theorem accept_settle_units (t : State) (c : Byte) : (t.accept c []).settle.mem = t.mem ∧
    (t.accept c []).settle.frame = t.frame ∧ (t.accept c []).settle.mark = t.mark ∧
    (t.accept c []).settle.roster = t.roster :=
  ⟨settle_mem _, settle_frame _, settle_mark _, settle_roster _⟩

theorem not_active_of {x : MembershipState} (h : x = .listen ∨ x = .apart ∨ x = .aligning) : x.active = false := by
  obtain rfl | rfl | rfl := h <;> rfl

/-- Settles O31: each command refused, WITHDRAW by whether a LEAVE goes with it, RESUME by what reason is left. -/
theorem withdrawAndResumeMoveTheReasonSet : Obligations.WithdrawAndResumeMoveTheReasonSet := by
  unfold Obligations.WithdrawAndResumeMoveTheReasonSet
  intro s dt x ht empty
  rw [exec_withdraw ht dt, exec_resume ht dt]
  intro u
  have empty' : u.port.outbox = [] := (congrArg Port.outbox (advance_port s dt)).trans empty
  have state : u.mem.state = s.mem.state := advance_mem_state s dt
  have command : u.mem.reasonCommand = s.mem.reasonCommand := advance_mem_reasonCommand s dt
  have supply : u.mem.reasonSupply = s.mem.reasonSupply := advance_mem_reasonSupply s dt
  have inFlight : u.frame.inFlight = s.frame.inFlight := advance_frame_inFlight s dt
  have talk : u.frame.talk = s.frame.talk := advance_frame_talk s dt
  have returned : u.frame.returnedTalk = s.frame.returnedTalk := advance_frame_returnedTalk s dt
  refine ⟨fun h => ?_, fun hu hw hc => ?_, fun h => ?_, fun hs hc hp => ?_, fun hs hc hp => ?_⟩
  · rw [withdraw_refused u (state ▸ h)]
    exact congrArg _ (settle_nil _ empty')
  · rw [withdraw_taken u (state ▸ hu) (state ▸ hw) (state ▸ hc)]
    generalize hv : ({ u with mem.reasonCommand := true } : State) = v
    have vstate : v.mem.state = s.mem.state := by rw [← hv]; exact state
    have vframe : v.frame = u.frame := by rw [← hv]
    obtain ⟨mem, port, entries⟩ := enterWithdrawn_units v .command
    obtain ⟨mem', frame', mark', roster'⟩ := accept_settle_units (v.enterWithdrawn .command) 0x08
    refine ⟨_, rfl, ?_, ?_, ?_, ?_, fun hi => ?_, fun hq => ?_, fun ha => ?_, ?_⟩
    · rw [mem', mem]
    · rw [mem', mem, ← hv]
    · rw [mem', mem, ← hv]; exact supply
    · rw [roster', entries]
    · rw [frame', enterWithdrawn_talk v _ (by rwa [vframe, inFlight])]
    · rw [frame', enterWithdrawn_frame v _ (by rw [vstate]; exact not_active_of hq), vframe, ← inFlight, ← talk,
        ← returned]
      rfl
    · rw [frame', mark']
      exact enterWithdrawn_leave v _ (by rwa [vstate, active_iff])
    · exact accept_settle_port 0x08 empty' (by rw [← hv]) (by rw [← hv]) port
  · rw [resume_refused u (state ▸ command ▸ h)]
    exact congrArg _ (settle_nil _ empty')
  · rw [resume_taken u (state ▸ hs) (command ▸ hc),
      reasonsChecked_stays { u with mem.reasonCommand := false } (.inr (.inr (supply.trans hp)))]
    exact congrArg _ (settle_nil _ empty')
  · rw [resume_taken u (state ▸ hs) (command ▸ hc),
      reasonsChecked_listens { u with mem.reasonCommand := false } (state.trans hs) rfl (supply.trans hp)]
    generalize hv : ({ u with mem.reasonCommand := false } : State) = v
    obtain ⟨mem', frame', -, -⟩ := accept_settle_units v.enterListen 0x09
    rw [enterListen_mem] at mem'
    refine ⟨_, rfl, ?_, ?_, ?_, ?_, ?_, fun hi => ?_, ?_⟩
    · rw [mem']
    · rw [mem', ← hv]; rfl
    · rw [mem']; rfl
    · rw [mem']; rfl
    · rw [mem']; rfl
    · rw [frame']
      exact enterListen_leave v (by rw [← hv]; exact state.trans hs) (by rw [← hv]; exact inFlight ▸ hi)
    · exact accept_settle_port 0x09 empty' (by rw [← hv]) (by rw [← hv]) (enterListen_port v)


/-! ## SUPPLY SENSE (R94, R96) -/

theorem exec_supplyLow_due {s : State} (begun : s.begun = true) (was : s.mem.supplyIsLow = false)
    (low : s.pins.supply < s.cfg.supplyLow) (due : s.dueWithin (s.cfg.debounceTicks - s.mem.supplyTimer) = true) :
    exec .supplyLow s =
      .next (s.runTo (s.ts.sitePhase + (s.cfg.debounceTicks - s.mem.supplyTimer))).supplyFell.settle := by
  show Host.Outcome.next (s.atExpiry (s.toSupplyEvent false) State.supplyFell).settle = _
  rw [State.toSupplyEvent, if_pos (by simp [begun, was, low, supplyRuns]), atExpiry_due _ _ s due]

theorem exec_supplyRestored_due {s : State} (begun : s.begun = true) (was : s.mem.supplyIsLow = true)
    (high : s.cfg.supplyHigh < s.pins.supply)
    (due : s.dueWithin (s.cfg.debounceTicks - s.mem.supplyTimer) = true) :
    exec .supplyRestored s =
      .next (s.runTo (s.ts.sitePhase + (s.cfg.debounceTicks - s.mem.supplyTimer))).supplyRose.settle := by
  show Host.Outcome.next (s.atExpiry (s.toSupplyEvent true) State.supplyRose).settle = _
  rw [State.toSupplyEvent, if_pos (by simp [begun, was, high, supplyRuns]), atExpiry_due _ _ s due]

theorem supplyRuns_iff (cfg : Settings) (isLow : Bool) (mv : Nat) :
    supplyRuns cfg isLow mv = true ↔ if isLow then cfg.supplyHigh < mv else mv < cfg.supplyLow := by
  cases isLow <;> simp [supplyRuns]

theorem exec_supplySenseCrossing (s : State) (dt mv : Nat) : exec (.supplySenseCrossing dt mv) s =
    if supplyRuns s.cfg s.mem.supplyIsLow mv then .next { s.advance dt with pins.supply := mv }
    else .next { s.advance dt with pins.supply := mv, mem.supplyTimer := 0 } := by
  show execSupplySenseCrossing dt mv s = _
  rw [← advance_mem_supplyIsLow s dt, ← advance_cfg s dt]
  rfl

/-- The low supply noted (R94, R96). -/
def State.supplyNotedLow (s : State) : State :=
  { s with mem := { s.mem with supplyIsLow := true, supplyTimer := 0, reasonSupply := true } }

/-- The restored supply noted (R94, R96). -/
def State.supplyNotedHigh (s : State) : State :=
  { s with mem := { s.mem with supplyIsLow := false, supplyTimer := 0, reasonSupply := false } }

theorem supplyFell_stays (s : State) (h : s.mem.state = .withdrawn ∨ s.mem.state = .conflict) :
    s.supplyFell = s.supplyNotedLow.post .membership .supplyLow none none := by
  obtain h | h := h <;> simp [State.supplyFell, State.supplyNotedLow, State.post, h]

theorem supplyFell_withdraws (s : State) (hu : s.mem.state ≠ .unconfigured) (hw : s.mem.state ≠ .withdrawn)
    (hc : s.mem.state ≠ .conflict) :
    s.supplyFell = (s.supplyNotedLow.post .membership .supplyLow none none).enterWithdrawn .supply := by
  cases h : s.mem.state <;> simp_all [State.supplyFell, State.supplyNotedLow, State.post]

/-- An event of the membership unit and then a change of its state, stored in that order (R189). -/
theorem settle_post_change {s t u : State} {k : EventKind} {new : MembershipState} (empty : u.port.outbox = [])
    (hs : s.port = u.port) (he : s.ts.epoch = u.ts.epoch)
    (ht : t.port = { s.port with outbox := (s.post .membership k none none).port.outbox ++ [s.changePosting new] }) :
    t.settle.port = ((u.stored k none none).stored .membershipChange none (some (signed32 new.code))).port := by
  rw [← settle_post_post u .membership k .membershipChange _ _ _ _ empty]
  rw [settle_two t ⟨.membership, s.ts.epoch, k, none, none, none⟩ (s.changePosting new)
      (by simp [ht, State.post, hs, empty]) rfl,
    settle_two _ ⟨.membership, u.ts.epoch, k, none, none, none⟩ (u.changePosting new)
      (by simp [State.post, State.changePosting, empty]) rfl]
  refine offer_port_congr (offer_port_congr ?_ he rfl rfl rfl) he rfl rfl rfl
  rw [ht, hs]
  rfl


/-- Settles O30: a crossing by whether the timer runs on, the low supply by whether the node was withdrawn already,
the restored supply by whether it was the only reason. -/
theorem supplyEventsFollowTheDebounceTime : Obligations.SupplyEventsFollowTheDebounceTime := by
  unfold Obligations.SupplyEventsFollowTheDebounceTime
  refine ⟨fun s dt mv => ?_, fun s begun was low due empty => ?_, fun s begun was high due empty => ?_⟩
  · intro u runs
    rw [exec_supplySenseCrossing]
    exact ⟨fun h => if_pos ((supplyRuns_iff ..).2 h), fun h => if_neg (mt (supplyRuns_iff ..).1 h)⟩
  · intro u
    rw [show exec .supplyLow s = .next u.supplyFell.settle from exec_supplyLow_due begun was low due]
    have configured : u.mem.state ≠ .unconfigured := by simpa [State.begun, u] using begun
    by_cases stays : s.mem.state = .withdrawn ∨ s.mem.state = .conflict
    · rw [supplyFell_stays u stays, settle_post u.supplyNotedLow _ _ _ _ empty]
      refine ⟨_, rfl, ?_, ?_, ?_, ?_, fun _ => rfl, fun hw hc => (stays.elim hw hc).elim⟩ <;>
        simp [State.stored, State.supplyNotedLow, u]
    · obtain ⟨hw, hc⟩ := not_or.1 stays
      rw [supplyFell_withdraws u configured hw hc]
      generalize hv : u.supplyNotedLow.post .membership .supplyLow none none = v
      have vstate : v.mem.state = s.mem.state := by rw [← hv]; rfl
      have vframe : v.frame = u.frame := by rw [← hv]; rfl
      obtain ⟨mem, port, entries⟩ := enterWithdrawn_units v .supply
      refine ⟨_, rfl, ?_, ?_, ?_, ?_, fun h => absurd h stays, fun _ _ => ⟨?_, ?_, ?_, fun hi => ?_, fun hq => ?_,
        fun ha => ?_⟩⟩
      · rw [settle_mem, mem, ← hv]; rfl
      · rw [settle_mem, mem, ← hv]; rfl
      · rw [settle_mem, mem, ← hv]; rfl
      · rw [settle_mem, mem, ← hv]; rfl
      · rw [settle_mem, mem]
      · rw [settle_roster, entries]
      · exact settle_post_change (s := u.supplyNotedLow) (u := u) (new := .withdrawn) (k := .supplyLow) empty rfl rfl
          (by rw [port, ← hv]; rfl)
      · rw [settle_frame, enterWithdrawn_talk v _ (by rwa [vframe])]
      · rw [settle_frame, enterWithdrawn_frame v _ (by rw [vstate]; exact not_active_of hq), vframe]
        rfl
      · rw [settle_frame, settle_mark]
        exact enterWithdrawn_leave v _ (by rwa [vstate, active_iff])
  · intro u
    rw [show exec .supplyRestored s = .next u.supplyRose.settle from exec_supplyRestored_due begun was high due]
    generalize hv : u.supplyNotedHigh.post .membership .supplyRestored none none = v
    have rose : u.supplyRose = v.reasonsChecked := by rw [← hv]; rfl
    have vstate : v.mem.state = s.mem.state := by rw [← hv]; rfl
    have command : v.mem.reasonCommand = s.mem.reasonCommand := by rw [← hv]; rfl
    rw [rose]
    by_cases listens : s.mem.state = .withdrawn ∧ s.mem.reasonCommand = false
    · obtain ⟨hs, hc⟩ := listens
      rw [reasonsChecked_listens v (vstate.trans hs) (command.trans hc) (by rw [← hv]; rfl)]
      refine ⟨_, rfl, ?_, ?_, ?_, ?_, fun h => ?_, fun _ _ => ⟨?_, ?_⟩⟩
      · rw [settle_mem, enterListen_mem, ← hv]; rfl
      · rw [settle_mem, enterListen_mem, ← hv]; rfl
      · rw [settle_mem, enterListen_mem, ← hv]; rfl
      · rw [settle_mem, enterListen_mem, ← hv]; rfl
      · simp [hs, hc] at h
      · rw [settle_mem, enterListen_mem]
      · exact settle_post_change (s := u.supplyNotedHigh) (u := u) (new := .listen) (k := .supplyRestored) empty rfl
          rfl (by rw [enterListen_port, ← hv]; rfl)
    · have stays : s.mem.state ≠ .withdrawn ∨ s.mem.reasonCommand = true := by
        simpa [Decidable.imp_iff_not_or] using listens
      rw [reasonsChecked_stays v (by rw [vstate, command, ← or_assoc]; exact .inl stays), ← hv,
        settle_post u.supplyNotedHigh _ _ _ _ empty]
      refine ⟨_, rfl, ?_, ?_, ?_, ?_, fun _ => rfl, fun hs hc => absurd ⟨hs, hc⟩ listens⟩ <;>
        simp [State.stored, State.supplyNotedHigh, u]

end Sys2Proof.Machine

/-! # The talk window and the frames built in it (R68 to R72, R75, R77, R111) -/

namespace Sys2Proof.Machine

open Sys2Proof

/-! ## What a started frame leaves in the transmitter (R72) -/

theorem takeFall_sender (f : FrameUnit) : f.takeFall.txBits = f.txBits ∧ f.takeFall.txDriving = f.txDriving ∧
    f.takeFall.tx = f.tx ∧ f.takeFall.inFlight = f.inFlight := by
  cases hr : f.readyNow
  · cases hx : f.rx <;> simp [FrameUnit.takeFall, hr, hx]
  · simp [takeFall_ready f hr, FrameUnit.startBit]

/-- The line pulled low, the transmitter on the bits it had. -/
theorem pullWord_sender (s : State) : s.pullWord.frame.txBits = s.frame.txBits ∧
    s.pullWord.frame.txDriving = true ∧ s.pullWord.pins.word = .low := by
  cases hw : s.pins.word
  · simp [State.pullWord, hw]
  · cases hb : s.begun
    · simp [State.pullWord, hw, wordFalls_not_begun { s with frame.txDriving := true } hb]
    · simp [State.pullWord, hw, wordFalls_begun { s with frame.txDriving := true } hb, takeFall_sender]

/-- The transmitter once a frame has started, whatever stood on the line (R72). -/
theorem startFrame_sender (s : State) (what : InFlight) (f : Frame) :
    (s.startFrame what f).frame.inFlight = some what ∧ (s.startFrame what f).frame.tx = .arbitrating ∧
    (s.startFrame what f).frame.txBits = f.lineBits ∧ (s.startFrame what f).frame.txDriving = true ∧
    (s.startFrame what f).pins.word = .low := by
  unfold State.startFrame
  dsimp only
  split <;> simp [pullWord_sender, FrameUnit.startBit]

/-! ## The frames built (R69, R70) -/

/-- One observation for each listed slot that reads ONE. -/
theorem observe_eq (s : State) (ids : List NodeId) :
    s.observe ids = ids.filterMap fun k => match s.readSlot k with
      | .one m => some ⟨k, m⟩
      | .none | .contested => none := by
  induction ids with
  | nil => rfl
  | cons k ks ih => cases h : s.readSlot k <;> simp [State.observe, h, ih]

theorem declaredBound_eq (s : State) : s.declaredBound =
    if s.solver.timing = .free ∨ s.solver.timing = .acquiring then 65535 else reportBound s.solver.bound := by
  cases h : s.solver.timing <;> simp [State.declaredBound, h]

/-! ## The opening (R68, R72, R111) -/

theorem exec_talkWindowOpening_due {s : State} (due : s.pointDue .talkOpen = true) (begun : s.begun = true) :
    exec .talkWindowOpening s = .next (s.raise .talkOpen).openTalk := by
  show Host.Outcome.next (s.atPoint .talkOpen _) = _
  rw [atPoint_due _ _ s due, if_pos (by exact begun)]

/-- The window open on a node that builds a frame. -/
def State.talkOpened (f : Frame) (s : State) : State :=
  { s with frame := { s.frame with windowOpen := true, talk := some f } }

theorem openTalk_member (s : State) (h : s.mem.state = .member) :
    s.openTalk = { s.talkOpened s.buildCensus with roster.openingMask := some s.roster.ownMask }.tryStart := by
  simp only [State.openTalk, h, State.buildCensus, observe_eq]
  rfl

theorem openTalk_joining (s : State) (h : s.mem.state = .joining) :
    s.openTalk = (s.talkOpened s.buildJoin).tryStart := by
  simp only [State.openTalk, h, State.buildJoin, observe_eq]
  rfl

theorem openTalk_other (s : State) (hm : s.mem.state ≠ .member) (hj : s.mem.state ≠ .joining) :
    s.openTalk = { s with frame.windowOpen := true }.tryStart := by
  cases h : s.mem.state <;> simp_all [State.openTalk]

/-- A talk frame on an idle line starts while its window is open (R72). -/
theorem tryStart_talk {s : State} {f : Frame} (hw : s.frame.windowOpen = true) (ht : s.frame.talk = some f)
    (hq : s.frame.tx = .quiet) (ha : s.frame.txAge = none) (hi : s.frame.idle = true) :
    s.tryStart = s.startFrame .talk f := by
  rw [State.tryStart, if_pos ⟨hq, ha, hi⟩]
  simp [State.startable, ht, hw]

/-! ## The close (R75, R77) -/

theorem exec_talkWindowClosing_due {s : State} (due : s.pointDue .talkClose = true) :
    exec .talkWindowClosing s = .next (s.raise .talkClose).closeTalk.settle := by
  show Host.Outcome.next (s.atPoint .talkClose _).settle = _
  rw [atPoint_due _ _ s due]

theorem closeTalk_keeps (s : State) (h : s.frame.talk = none ∨ s.frame.inFlight = some .talk) :
    s.closeTalk = { s with frame := s.frame.closeWindow } := by
  unfold State.closeTalk FrameUnit.closeWindow
  cases ht : s.frame.talk <;> simp_all

theorem closeTalk_drops (s : State) (f : Frame) (ht : s.frame.talk = some f) (hi : s.frame.inFlight ≠ some .talk) :
    s.closeTalk = { s with frame := { s.frame.closeWindow with talk := none } }.dropUnsent f := by
  simp [State.closeTalk, FrameUnit.closeWindow, ht, hi]

/-! ## A LEAVE in place of a talk frame (R71, R72) -/

section LeaveRequest

variable (s : State) (r : LeaveReason) (flying : s.frame.inFlight = some .talk)

include flying

/-- A LEAVE requested while a talk frame is in flight waits. -/
theorem requestLeave_waits (htx : s.frame.tx ≠ .quiet) (later : s.talkOpensNow = false) :
    s.requestLeave r = { s with frame := { s.frame with
      leave := some r, leaveVoid := false
      returnedTalk := s.frame.returnedTalk.map (fun x => { x with void := true }) } } := by
  rw [State.requestLeave, withoutTalkStart_later s later, tryStart_nothing _ (by exact .inr (.inr (.inl htx)))]
  simp [FrameUnit.discardTalk, flying]

/-- A LEAVE requested at the instant at which the talk frame started takes its place. -/
theorem requestLeave_replaces (opens : s.talkOpensNow = true) (hp : ns 1000000 ≤ s.ts.sitePhase)
    (hi : s.frame.idleTimer = some (ns 48000)) (hf : s.frame.fault = false) (hx : s.frame.rx = .starting)
    (hw : s.pins.word = .low) :
    s.requestLeave r = { s with frame := { s.frame with
      leave := some r, leaveVoid := false
      returnedTalk := s.frame.returnedTalk.map (fun x => { x with void := true })
      talk := none, inFlight := some .leave, tx := .arbitrating
      txBits := (Frame.leave s.mem.nodeId s.ts.epoch r).lineBits
      txPos := 0, txAge := some 0, txRead := none, txDriving := true } } := by
  have released : s.withoutTalkStart = s.frame.release := if_pos ⟨opens, flying⟩
  rw [State.requestLeave, released, State.tryStart,
    if_pos ⟨rfl, rfl, by simp [FrameUnit.idle, FrameUnit.discardTalk, FrameUnit.release, hi, hf, hx]⟩]
  simp [State.startable, State.startableLeave, State.startFrame, State.pullWord, FrameUnit.discardTalk,
    FrameUnit.release, hp, hx, hw]

end LeaveRequest

theorem talkOpensNow_iff (s : State) :
    s.talkOpensNow = true ↔ s.frame.windowOpen = true ∧ s.ts.tau = s.ts.tauFor (ns 2000000) := by
  rw [State.talkOpensNow, Bool.and_eq_true, decide_eq_true_iff]
  rfl

/-- Settles O23: the opening by the membership state and whether a frame can start at it, the close by whether a talk
frame waits, the LEAVE by whether the window opens at its instant. -/
theorem talkWindowBuildsAndDropsTheTalkFrame : Obligations.TalkWindowBuildsAndDropsTheTalkFrame := by
  unfold Obligations.TalkWindowBuildsAndDropsTheTalkFrame
  refine ⟨fun s due => ?_, fun s due empty => ?_, fun s r flying htx => ?_⟩
  · intro u seen census join busy
    have hcensus : u.buildCensus = census := by
      simp only [State.buildCensus, observe_eq, declaredBound_eq]
      rfl
    have hjoin : u.buildJoin = join := by
      simp only [State.buildJoin, observe_eq]
      rfl
    have opening : ∀ {x}, s.mem.state = x → x ≠ .unconfigured → exec .talkWindowOpening s = .next u.openTalk :=
      fun hx hn => exec_talkWindowOpening_due due (by simpa [State.begun, hx] using hn)
    refine ⟨fun h => ?_, fun h hbusy => ?_, fun h hbusy => ?_, fun h => ?_, fun f hf hidle => ?_⟩
    · exact congrArg _ ((atPoint_due _ _ s due).trans (if_neg (by simp [State.begun, h])))
    · rw [opening h (by decide), openTalk_member u h, hcensus, tryStart_nothing _ (by exact .inr hbusy)]
      rfl
    · rw [opening h (by decide), openTalk_joining u h, hjoin, tryStart_nothing _ (by exact .inr hbusy)]
      rfl
    · intro w
      have none_built : u.mem.state ≠ .unconfigured ∧ u.mem.state ≠ .member ∧ u.mem.state ≠ .joining := by
        show s.mem.state ≠ _ ∧ s.mem.state ≠ _ ∧ s.mem.state ≠ _
        obtain h | h | h | h | h := h <;> simp [h]
      obtain ⟨hn, hm, hj⟩ := none_built
      rw [opening rfl hn, openTalk_other u hm hj]
      exact ⟨fun hn => congrArg _ (tryStart_nothing w hn), fun what f hs => congrArg _ (tryStart_starts w what f hs)⟩
    · simp only [busy, not_or, not_not, Bool.not_eq_false] at hidle
      obtain ⟨hi, hq, ha⟩ := hidle
      obtain ⟨h, rfl⟩ | ⟨h, rfl⟩ := hf
      · rw [opening h (by decide), openTalk_member u h, hcensus,
          tryStart_talk (by rfl) (by rfl) (by exact hq) (by exact ha) (by exact hi)]
        obtain ⟨inFlight, tx, bits, driving, word⟩ := startFrame_sender
          { u.talkOpened census with roster.openingMask := some s.roster.ownMask } .talk census
        refine ⟨_, rfl, ?_, inFlight, tx, bits, driving, word, ?_⟩ <;> simp [h, State.talkOpened, u]
      · rw [opening h (by decide), openTalk_joining u h, hjoin,
          tryStart_talk (by rfl) (by rfl) (by exact hq) (by exact ha) (by exact hi)]
        obtain ⟨inFlight, tx, bits, driving, word⟩ := startFrame_sender (u.talkOpened join) .talk join
        refine ⟨_, rfl, ?_, inFlight, tx, bits, driving, word, ?_⟩ <;> simp [h, State.talkOpened, u]
  · intro returned u
    rw [show exec .talkWindowClosing s = .next u.closeTalk.settle from exec_talkWindowClosing_due due]
    refine ⟨fun h => ?_, fun f ht hi => ?_⟩
    · rw [closeTalk_keeps u h]
      exact congrArg _ (settle_nil _ empty)
    · rw [closeTalk_drops u f ht hi, dropUnsent_eq]
      exact congrArg _ (settle_post _ _ _ _ _ empty)
  · intro opensNow f requested
    refine ⟨fun h => ?_, fun h hp hi hf hx hw => ?_⟩
    · exact requestLeave_waits s r flying htx (Bool.eq_false_iff.2 (mt (talkOpensNow_iff s).1 h))
    · exact requestLeave_replaces s r flying ((talkOpensNow_iff s).2 h) hp hi hf hx hw

end Sys2Proof.Machine

/-! # A frame on the wire, from its bits to its fields (R58, R60 to R63, R195) -/

namespace Sys2Proof.Machine

open Sys2Proof

/-! ## Numbers as bits -/

@[simp] theorem length_bitsBE (w x : Nat) : (bitsBE w x).length = w := by
  induction w generalizing x with
  | zero => rfl
  | succ w ih => simp [bitsBE, ih]

theorem natOfBits_concat (bs : List Bool) (b : Bool) : natOfBits (bs ++ [b]) = natOfBits bs * 2 + b.toNat := by
  simp [natOfBits]

/-- The bits of a number that fits them stand for that number. -/
theorem natOfBits_bitsBE {w x : Nat} (h : x < 2 ^ w) : natOfBits (bitsBE w x) = x := by
  induction w generalizing x with
  | zero =>
    obtain rfl : x = 0 := by simpa using h
    rfl
  | succ w ih =>
    have low : (x % 2 == 1).toNat = x % 2 := by
      obtain h | h := Nat.mod_two_eq_zero_or_one x <;> simp [h]
    rw [bitsBE, natOfBits_concat, ih (by omega), low]
    omega

/-! ## Fields (R195) -/

theorem fieldOf_word {w x : Nat} (rest : List Bool) (h : x < 2 ^ w) : fieldOf (bitsBE w x ++ rest) 0 w = x := by
  rw [fieldOf, List.drop_zero, List.take_left' (length_bitsBE w x), natOfBits_bitsBE h]

theorem fieldOf_skip {i : Nat} (v x w : Nat) (rest : List Bool) (h : v ≤ i) :
    fieldOf (bitsBE v x ++ rest) i w = fieldOf rest (i - v) w := by
  rw [fieldOf, List.drop_append, List.drop_eq_nil_of_le (by simpa using h), length_bitsBE]
  rfl

theorem fieldOf_cons (b : Bool) (rest : List Bool) (i w : Nat) : fieldOf (b :: rest) (i + 1) w = fieldOf rest i w := rfl

theorem fieldOf_drop (bits : List Bool) (i j w : Nat) : fieldOf (bits.drop i) j w = fieldOf bits (i + j) w := by
  rw [fieldOf, fieldOf, List.drop_drop]

/-- A field that has been taken whole is that of the frame. -/
theorem fieldOf_take (bits : List Bool) {n i w : Nat} (h : i + w ≤ n) :
    fieldOf (bits.take n) i w = fieldOf bits i w := by
  rw [fieldOf, fieldOf, List.drop_take, List.take_take, Nat.min_eq_left (by omega)]

theorem observationsOf_drop (bits : List Bool) (i j n : Nat) :
    observationsOf (bits.drop i) j n = observationsOf bits (i + j) n := by
  induction n generalizing j with
  | zero => rfl
  | succ n ih => simp only [observationsOf, fieldOf_drop, ih, Nat.add_assoc]

@[simp] theorem length_observation_bits (o : Observation) : o.bits.length = 24 := by simp [Observation.bits]

@[simp] theorem length_flatMap_observation_bits (obs : List Observation) :
    (obs.flatMap Observation.bits).length = 24 * obs.length := by
  induction obs with
  | nil => rfl
  | cons o os ih => simp [ih]; omega

/-- An offset that fits the 20 bits of its field survives them. -/
theorem offset_survives {o : Observation} (h : o.fits) :
    (BitVec.ofNat 20 (BitVec.ofInt 20 o.offset).toNat).toInt = o.offset := by
  obtain ⟨low, high⟩ := h
  rw [BitVec.ofNat_toNat, BitVec.setWidth_eq, BitVec.toInt_ofInt]
  exact Int.bmod_eq_of_le (by norm_num; omega) (by norm_num; omega)

/-- Observations that fit survive the wire. -/
theorem observationsOf_bits (obs : List Observation) (rest : List Bool) (h : ∀ o ∈ obs, o.fits) :
    observationsOf (obs.flatMap Observation.bits ++ rest) 0 obs.length = obs := by
  induction obs with
  | nil => rfl
  | cons o os ih =>
    have first : (o :: os).flatMap Observation.bits ++ rest =
        bitsBE 4 o.peer.val ++ (bitsBE 20 (BitVec.ofInt 20 o.offset).toNat ++
          (os.flatMap Observation.bits ++ rest)) := by
      simp [Observation.bits]
    have others : observationsOf ((o :: os).flatMap Observation.bits ++ rest) 24 os.length = os := by
      rw [← Nat.add_zero 24, ← observationsOf_drop, List.flatMap_cons, List.append_assoc,
        List.drop_left' (length_observation_bits o), ih fun o ho => h o (List.mem_cons_of_mem _ ho)]
    rw [List.length_cons, observationsOf, others, first, fieldOf_word _ o.peer.isLt, Nat.zero_add,
      fieldOf_skip 4 _ _ _ (le_refl 4), Nat.sub_self, fieldOf_word _ (BitVec.isLt _),
      offset_survives (h o List.mem_cons_self)]
    simp

/-! ## The fields of a frame -/

/-- The CRC as a frame carries it (R62). -/
def Frame.crcBits (f : Frame) : List Bool := bitsBE 16 (crcOf f.body).toNat

theorem bits_eq (f : Frame) : f.bits = false :: (bitsBE 2 f.kind.code ++ (bitsBE 4 f.sender.val ++
    (bitsBE 32 f.epoch.toNat ++ (f.payloadBits ++ f.crcBits)))) := by
  simp [Frame.bits, Frame.body, Frame.crcBits]

theorem kind_code_lt (k : FrameKind) : k.code < 2 ^ 2 := by cases k <;> decide

theorem timing_code_lt (t : TimingState) : t.code < 2 ^ 3 := by cases t <;> decide

theorem reason_code_lt (r : LeaveReason) : r.code < 2 ^ 2 := by cases r <;> decide

section Fields

variable (f : Frame)

@[simp] theorem fieldOf_kind : fieldOf f.bits 1 2 = f.kind.code := by
  rw [bits_eq, fieldOf_cons, fieldOf_word _ (kind_code_lt _)]

@[simp] theorem fieldOf_sender : fieldOf f.bits 3 4 = f.sender.val := by
  rw [bits_eq, fieldOf_cons, fieldOf_skip 2 _ _ _ (le_refl 2), Nat.sub_self, fieldOf_word _ f.sender.isLt]

@[simp] theorem fieldOf_epoch : fieldOf f.bits 7 32 = f.epoch.toNat := by
  rw [bits_eq, fieldOf_cons, fieldOf_skip 2 _ _ _ (by decide), fieldOf_skip 4 _ _ _ (by decide),
    fieldOf_word _ f.epoch.isLt]

theorem drop_header : f.bits.drop 39 = f.payloadBits ++ f.crcBits := by
  rw [bits_eq, List.drop_succ_cons, ← List.append_assoc, ← List.append_assoc, List.drop_left' (by simp)]

/-- The payload begins with bit 39. -/
theorem fieldOf_payload (i w : Nat) : fieldOf f.bits (39 + i) w = fieldOf (f.payloadBits ++ f.crcBits) i w := by
  rw [← fieldOf_drop, drop_header]

theorem length_bits : f.bits.length = 55 + f.payloadBits.length := by
  simp [bits_eq, Frame.crcBits]
  omega

/-- What a frame on the wire carries passes its CRC (R62). -/
theorem crcPasses_bits : crcPasses f.bits = true := by
  have shape : f.bits = (false :: f.body) ++ f.crcBits := rfl
  have crc : f.crcBits.length = 16 := length_bitsBE ..
  have covered : (f.bits.drop 1).take (f.bits.length - 17) = f.body := by
    rw [shape, List.cons_append, List.drop_one, List.tail_cons]
    exact List.take_left' (by simp [crc])
  have carried : fieldOf f.bits (f.bits.length - 16) 16 = (crcOf f.body).toNat := by
    have last : f.bits.drop (f.bits.length - 16) = f.crcBits ++ [] := by
      rw [shape, List.append_nil]
      exact List.drop_left' (by simp [crc])
    rw [← Nat.add_zero (f.bits.length - 16), ← fieldOf_drop, last, Frame.crcBits, fieldOf_word _ (BitVec.isLt _)]
  simp only [crcPasses, covered, carried, beq_self_eq_true]

end Fields

/-! ## LEAVE, CENSUS and JOIN as they arrive (R195) -/

theorem leave_fields (k : NodeId) (e : Epoch) (r : LeaveReason) :
    (Frame.leave k e r).bits.length = 57 ∧ fieldOf (Frame.leave k e r).bits 39 2 = r.code := by
  refine ⟨by simp [length_bits, Frame.payloadBits], ?_⟩
  rw [← Nat.add_zero 39, fieldOf_payload, Frame.payloadBits, fieldOf_word _ (reason_code_lt r)]

section Census

variable {k : NodeId} {e : Epoch} {c : OscClass} {d : Declared} {obs : List Observation}

theorem census_payload (f : Frame) (hf : f = .census k e c d obs) : f.payloadBits ++ f.crcBits =
    bitsBE 3 d.timing.code ++ (bitsBE 2 c.val ++ (bitsBE 1 d.overBudget.toNat ++ (bitsBE 16 d.bound ++
      (bitsBE 16 d.mask.toNat ++ (bitsBE 4 obs.length ++ (obs.flatMap Observation.bits ++ f.crcBits)))))) := by
  have flag : bitsBE 1 d.overBudget.toNat = [d.overBudget] := by cases d.overBudget <;> rfl
  simp [hf, Frame.payloadBits, flag]

/-- The fields of a CENSUS from bit 39 on. -/
theorem census_fields (f : Frame) (hf : f = .census k e c d obs) (fits : f.fits) :
    f.bits.length = 97 + 24 * obs.length ∧ fieldOf f.bits 39 3 = d.timing.code ∧ fieldOf f.bits 42 2 = c.val ∧
    fieldOf f.bits 44 1 = d.overBudget.toNat ∧ fieldOf f.bits 45 16 = d.bound ∧
    fieldOf f.bits 61 16 = d.mask.toNat ∧ fieldOf f.bits 77 4 = obs.length ∧
    observationsOf f.bits 81 obs.length = obs := by
  have payload := census_payload f hf
  obtain ⟨bound, count, offsets⟩ : d.bound < 65536 ∧ obs.length ≤ 8 ∧ ∀ o ∈ obs, o.fits := by rwa [hf] at fits
  have flag : d.overBudget.toNat < 2 ^ 1 := Bool.toNat_lt d.overBudget
  have before : (f.payloadBits ++ f.crcBits).drop 42 = obs.flatMap Observation.bits ++ f.crcBits := by
    rw [payload]
    simp only [← List.append_assoc]
    rw [List.append_assoc (bs := obs.flatMap _)]
    exact List.drop_left' (by simp)
  refine ⟨by rw [length_bits]; simp [hf, Frame.payloadBits]; omega, ?_, ?_, ?_, ?_, ?_, ?_, ?_⟩
  · rw [show 39 = 39 + 0 from rfl, fieldOf_payload, payload, fieldOf_word _ (timing_code_lt _)]
  · rw [show 42 = 39 + 3 from rfl, fieldOf_payload, payload]
    simp [fieldOf_skip, fieldOf_word (w := 2) _ c.isLt]
  · rw [show 44 = 39 + 5 from rfl, fieldOf_payload, payload]
    simp [fieldOf_skip, fieldOf_word _ flag]
  · rw [show 45 = 39 + 6 from rfl, fieldOf_payload, payload]
    simp [fieldOf_skip, fieldOf_word (w := 16) _ bound]
  · rw [show 61 = 39 + 22 from rfl, fieldOf_payload, payload]
    simp [fieldOf_skip, fieldOf_word _ d.mask.isLt]
  · rw [show 77 = 39 + 38 from rfl, fieldOf_payload, payload]
    simp [fieldOf_skip, fieldOf_word (w := 4) _ (show obs.length < 2 ^ 4 by omega)]
  · rw [show 81 = 39 + (42 + 0) from rfl, ← observationsOf_drop, drop_header, ← observationsOf_drop, before,
      observationsOf_bits obs _ offsets]

end Census

section Join

variable {k : NodeId} {e : Epoch} {c : OscClass} {obs : List Observation}

/-- The fields of a JOIN from bit 39 on. -/
theorem join_fields (f : Frame) (hf : f = .join k e c obs) (fits : f.fits) :
    f.bits.length = 61 + 24 * obs.length ∧ fieldOf f.bits 39 2 = c.val ∧ fieldOf f.bits 41 4 = obs.length ∧
    observationsOf f.bits 45 obs.length = obs := by
  obtain ⟨count, offsets⟩ : obs.length ≤ 15 ∧ ∀ o ∈ obs, o.fits := by rwa [hf] at fits
  have payload : f.payloadBits ++ f.crcBits =
      bitsBE 2 c.val ++ (bitsBE 4 obs.length ++ (obs.flatMap Observation.bits ++ f.crcBits)) := by
    simp [hf, Frame.payloadBits]
  have before : (f.payloadBits ++ f.crcBits).drop 6 = obs.flatMap Observation.bits ++ f.crcBits := by
    rw [payload, ← List.append_assoc]
    exact List.drop_left' (by simp)
  refine ⟨by rw [length_bits]; simp [hf, Frame.payloadBits]; omega, ?_, ?_, ?_⟩
  · rw [show 39 = 39 + 0 from rfl, fieldOf_payload, payload, fieldOf_word (w := 2) _ c.isLt]
  · rw [show 41 = 39 + 2 from rfl, fieldOf_payload, payload]
    simp [fieldOf_skip, fieldOf_word (w := 4) _ (show obs.length < 2 ^ 4 by omega)]
  · rw [show 45 = 39 + (6 + 0) from rfl, ← observationsOf_drop, drop_header, ← observationsOf_drop, before,
      observationsOf_bits obs _ offsets]

end Join

theorem timing_ofCode (t : TimingState) : TimingState.ofCode t.code = some t := by cases t <;> rfl

theorem reason_ofCode (r : LeaveReason) : LeaveReason.ofCode r.code = some r := by cases r <;> rfl

/-- The frame read back from its bits (R195). -/
theorem frameOf_bits (f : Frame) (fits : f.fits) : frameOf f.bits = f := by
  rw [frameOf, fieldOf_kind, fieldOf_sender, fieldOf_epoch]
  cases f with
  | leave k e r =>
    obtain ⟨-, reason⟩ := leave_fields k e r
    simp [Frame.kind, FrameKind.code, Frame.sender, Frame.epoch, reason, reason_ofCode]
  | census k e c d obs =>
    obtain ⟨-, timing, cls, budget, bound, mask, count, observed⟩ := census_fields _ rfl fits
    simp [Frame.kind, FrameKind.code, Frame.sender, Frame.epoch, timing, timing_ofCode, cls, budget, bound, mask,
      count, observed]
  | join k e c obs =>
    obtain ⟨-, cls, count, observed⟩ := join_fields _ rfl fits
    simp [Frame.kind, FrameKind.code, Frame.sender, Frame.epoch, cls, count, observed]

/-! ## The checks on the bits taken so far (R63) -/

/-- Every field judged so far names its thing, so a frame is going until its last bit and complete with it. -/
theorem progressOf_take (f : Frame) (fits : f.fits) {n : Nat} (hn : n ≤ f.bits.length) :
    progressOf (f.bits.take n) = if n < f.bits.length then .going else .complete := by
  have length : (f.bits.take n).length = n := by simpa using hn
  have least : 57 ≤ f.bits.length := by
    cases f <;> simp [length_bits, Frame.payloadBits] <;> omega
  rw [progressOf, length]
  by_cases kind : n < 3
  · rw [if_pos kind, if_pos (by omega)]
  rw [if_neg kind, fieldOf_take _ (by omega), fieldOf_kind]
  cases f with
  | leave k e r =>
    obtain ⟨bits, reason⟩ := leave_fields k e r
    by_cases taken : n < 41
    · simp [Frame.kind, FrameKind.code, taken, bits, show n < 57 by omega]
    · simp only [Frame.kind, FrameKind.code, if_neg taken, fieldOf_take _ (show 39 + 2 ≤ n by omega), reason,
        reason_ofCode, lengthCheck, length, bits]
      simp
  | census k e c d obs =>
    obtain ⟨bits, timing, -, -, -, -, count, -⟩ := census_fields _ rfl fits
    obtain ⟨-, few, -⟩ := fits
    by_cases stated : n < 42
    · simp [Frame.kind, FrameKind.code, stated, bits, show n < 97 + 24 * obs.length by omega]
    by_cases counted : n < 81
    · simp only [Frame.kind, FrameKind.code, if_neg stated, if_pos counted, fieldOf_take _ (show 39 + 3 ≤ n by omega),
        timing, timing_ofCode, bits, if_pos (show n < 97 + 24 * obs.length by omega)]
      simp
    · simp only [Frame.kind, FrameKind.code, if_neg stated, if_neg counted,
        fieldOf_take _ (show 39 + 3 ≤ n by omega), fieldOf_take _ (show 77 + 4 ≤ n by omega), timing, timing_ofCode,
        count, bits, if_neg (Nat.not_lt.2 few), lengthCheck, length]
      simp
  | join k e c obs =>
    obtain ⟨bits, -, count, -⟩ := join_fields _ rfl fits
    by_cases counted : n < 45
    · simp [Frame.kind, FrameKind.code, counted, bits, show n < 61 + 24 * obs.length by omega]
    · simp only [Frame.kind, FrameKind.code, if_neg counted, fieldOf_take _ (show 41 + 4 ≤ n by omega), count, bits,
        lengthCheck, length]

/-! ## The receiver along the stuffed bits (R60, R61) -/

/-- A receiver inside a reception that is not the rest of the node's own: the bits taken and the run they end in. -/
structure FrameUnit.Taking (u : FrameUnit) (done : List Bool) (run : Nat) : Prop where
  rx : u.rx = .receiving
  bits : u.rxBits = done
  run : u.rxRun = run
  foreign : u.rxOwn = false
  nothing : u.receipt = none

/-- Along these bits a receiver holds nothing before the last, and with it the receipt. -/
structure FrameUnit.Ends (u : FrameUnit) (bits : List Bool) (what : Receipt) : Prop where
  receipt : (u.receive bits).receipt = some what
  rx : (u.receive bits).rx = .waitingIdle
  before : ∀ n, n < bits.length → (u.receive (bits.take n)).receipt = none

theorem ends_cons {u : FrameUnit} {b : Bool} {bs : List Bool} {what : Receipt} (h : u.receipt = none)
    (hs : (u.receiverSample (if b then .high else .low)).Ends bs what) : u.Ends (b :: bs) what where
  receipt := hs.receipt
  rx := hs.rx
  before
    | 0, _ => h
    | n + 1, hn => hs.before n (Nat.lt_of_succ_lt_succ hn)

section Taking

variable {f : Frame} {u : FrameUnit} {done rest : List Bool} {run : Nat} {b : Bool}

/-- Within a frame, the bits of which are `done`, `b` and then `rest`. -/
theorem progressOf_within (fits : f.fits) (within : f.bits = done ++ b :: rest) :
    progressOf (done ++ [b]) = if rest = [] then .complete else .going := by
  have taken : done ++ [b] = f.bits.take (done.length + 1) := by
    have split : f.bits = (done ++ [b]) ++ rest := by simp [within]
    rw [split, List.take_left' (by simp)]
  have length : f.bits.length = done.length + 1 + rest.length := by simp [within]; omega
  rw [taken, progressOf_take f fits (by omega)]
  cases rest with
  | nil => simp [length]
  | cons c cs => simp [length]

theorem level_recessive : recessive (if b then .high else .low) = b := by cases b <;> rfl

/-- A bit that is not the last joins those taken. -/
theorem taking_bit (fits : f.fits) (within : f.bits = done ++ b :: rest) (more : rest ≠ []) (h : u.Taking done run)
    (hr : run < 8) :
    (u.receiverSample (if b then .high else .low)).Taking (done ++ [b]) (if b then run + 1 else 0) := by
  have going : progressOf (u.rxBits ++ [b]) = .going := by rw [h.bits, progressOf_within fits within, if_neg more]
  rw [receiverSample_bit _ u h.rx (h.run ▸ hr), level_recessive, takeBit_going b u going]
  exact ⟨h.rx, congrArg (· ++ [b]) h.bits, by simp [FrameUnit.withBit, h.run], h.foreign, h.nothing⟩

/-- The last bit completes the frame. -/
theorem taking_last (fits : f.fits) (within : f.bits = done ++ [b]) (h : u.Taking done run) (hr : run < 8) :
    u.Ends [b] (.arrived f true) := by
  have complete : progressOf (u.rxBits ++ [b]) = .complete := by
    rw [h.bits, progressOf_within fits within, if_pos rfl]
  have arrives : u.receive [b] = (u.withBit b).stopped (.arrived f true) := by
    rw [FrameUnit.receive, FrameUnit.receive, receiverSample_bit _ u h.rx (h.run ▸ hr), level_recessive,
      takeBit_complete b u complete (.inl h.foreign), h.bits, ← within, frameOf_bits f fits, crcPasses_bits]
  refine ⟨by rw [arrives]; rfl, by rw [arrives]; rfl, fun n hn => ?_⟩
  obtain rfl : n = 0 := by simpa using hn
  exact h.nothing

/-- A stuff bit leaves the bits taken as they are, and the run begins again. -/
theorem taking_stuff (h : u.Taking done 8) : (u.receiverSample .low).Taking done 0 := by
  rw [receiverSample_stuff u h.rx (le_of_eq h.run.symm)]
  exact ⟨h.rx, h.bits, rfl, h.foreign, h.nothing⟩

end Taking

/-- The rest of a frame, stuffed, brings the receiver to the frame. -/
theorem taking_ends {f : Frame} (fits : f.fits) (rest : List Bool) (hne : rest ≠ []) {u : FrameUnit}
    {done : List Bool} {run : Nat} (within : f.bits = done ++ rest) (h : u.Taking done run) (hr : run < 8) :
    u.Ends (stuff run rest) (.arrived f true) := by
  induction rest generalizing u done run with
  | nil => exact absurd rfl hne
  | cons b bs ih =>
    have within' : f.bits = (done ++ [b]) ++ bs := by rw [within, List.append_cons]
    by_cases more : bs = []
    · subst more
      have last : stuff run [b] = [b] := by cases b <;> simp [stuff]
      rw [last]
      exact taking_last fits within h hr
    · have next := taking_bit fits within more h hr
      cases b with
      | false => exact ends_cons h.nothing (ih more within' next (by decide))
      | true =>
        by_cases full : 7 ≤ run
        · obtain rfl : run = 7 := by omega
          have stuffed : stuff 7 (true :: bs) = true :: false :: stuff 0 bs := if_pos ⟨le_refl 7, more⟩
          rw [stuffed]
          exact ends_cons h.nothing (ends_cons next.nothing (ih more within' (taking_stuff next) (by decide)))
        · have plain : stuff run (true :: bs) = true :: stuff (run + 1) bs := if_neg fun c => full c.1
          rw [plain]
          exact ends_cons h.nothing (ih more within' next (Nat.succ_lt_succ (Nat.not_le.1 full)))

/-- Settles O55: the start bit begins a reception, along whose stuffed bits the fields are read back. -/
theorem framesSurviveTheWire : Obligations.FramesSurviveTheWire := by
  unfold Obligations.FramesSurviveTheWire
  intro f u fits starting nothing
  have begun : (u.receiverSample .low).Taking [false] 0 := by
    rw [receiverSample_start u starting]
    exact ⟨rfl, rfl, rfl, rfl, nothing⟩
  have rest : f.body ++ f.crcBits ≠ [] := by simp [Frame.body, Frame.crcBits, bitsBE]
  have within : f.bits = [false] ++ (f.body ++ f.crcBits) := rfl
  have line : f.lineBits = false :: stuff 0 (f.body ++ f.crcBits) := by
    rw [Frame.lineBits, within, List.singleton_append, stuff]
  have ends := ends_cons (b := false) nothing (taking_ends fits _ rest within begun (by decide))
  rw [line]
  exact ⟨ends.receipt, ends.rx, begun.foreign, ends.before⟩

end Sys2Proof.Machine

/-! # Adoption of the ensemble's number (R85 to R88, R91, R104, R117) -/

namespace Sys2Proof.Machine

open Sys2Proof

/-! ## Notes in order of sender (R85, R91) -/

/-- A note placed in a record ascending by sender, in place of one of the same sender. -/
def placeBy {α : Type} (sender : α → NodeId) (n : α) : List α → List α
  | [] => [n]
  | x :: xs =>
    if sender n = sender x then n :: xs
    else if sender n < sender x then n :: x :: xs
    else x :: placeBy sender n xs

theorem placeAnswer_eq (n : JoinNote) (notes : List JoinNote) :
    placeAnswer n notes = placeBy JoinNote.sender n notes := by
  induction notes with
  | nil => rfl
  | cons x xs ih => simp only [placeAnswer, placeBy, ih]

theorem placeNote_eq (n : FrameNote) (notes : List FrameNote) :
    placeNote n notes = placeBy FrameNote.sender n notes := by
  induction notes with
  | nil => rfl
  | cons x xs ih => simp only [placeNote, placeBy, ih]

section Place

variable {α : Type} (sender : α → NodeId) (n : α)

theorem mem_placeBy (notes : List α) : n ∈ placeBy sender n notes := by
  induction notes with
  | nil => exact List.mem_singleton_self n
  | cons x xs ih =>
    unfold placeBy
    split
    · exact List.mem_cons_self
    split
    · exact List.mem_cons_self
    · exact List.mem_cons_of_mem _ ih

theorem mem_placeBy_of_ne {x : α} (h : sender x ≠ sender n) (notes : List α) :
    x ∈ placeBy sender n notes ↔ x ∈ notes := by
  have other : ∀ y, sender n = sender y → x ≠ y := fun y hy hxy => h (hxy ▸ hy.symm)
  induction notes with
  | nil => simpa [placeBy] using other n rfl
  | cons y ys ih =>
    unfold placeBy
    split
    next same => simp [other n rfl, other y same]
    next =>
      split
      · rw [List.mem_cons, or_iff_right (other n rfl)]
      · simp [ih]

theorem mem_of_mem_placeBy {x : α} {notes : List α} (h : x ∈ placeBy sender n notes) :
    sender x = sender n ∨ x ∈ notes := by
  by_cases hx : sender x = sender n
  · exact .inl hx
  · exact .inr ((mem_placeBy_of_ne sender n hx notes).1 h)

theorem placeBy_pairwise {notes : List α} (h : notes.Pairwise (fun a b => sender a < sender b)) :
    (placeBy sender n notes).Pairwise (fun a b => sender a < sender b) := by
  induction notes with
  | nil => simp [placeBy]
  | cons x xs ih =>
    obtain ⟨first, rest⟩ := List.pairwise_cons.1 h
    unfold placeBy
    split
    next same => exact List.pairwise_cons.2 ⟨fun y hy => same ▸ first y hy, rest⟩
    next other =>
      split
      next lt =>
        refine List.pairwise_cons.2 ⟨fun y hy => ?_, h⟩
        obtain rfl | hy := List.mem_cons.1 hy
        · exact lt
        · exact lt.trans (first y hy)
      next ge =>
        refine List.pairwise_cons.2 ⟨fun y hy => ?_, ih rest⟩
        obtain hy | hy := mem_of_mem_placeBy sender n hy
        · exact hy ▸ lt_of_le_of_ne (not_lt.1 ge) (Ne.symm other)
        · exact first y hy

end Place

/-! ## The converged history and the number to adopt (R86, R88) -/

theorem converged_iff (h : List Int) : converged h = true ↔ ∃ x y z, h = [x, y, z] ∧
    (fold (x - y)).natAbs ≤ ns 2000 ∧ (fold (y - z)).natAbs ≤ ns 2000 ∧ (fold (x - z)).natAbs ≤ ns 2000 := by
  match h with
  | [] | [_] | [_, _] | _ :: _ :: _ :: _ :: _ => simp [converged]
  | [a, b, c] => simp [converged, and_assoc]

theorem adoptionCandidate_anchored {closed : List FrameNote} {n : FrameNote}
    (h : closed.find? (fun x => x.anchored) = some n) : adoptionCandidate closed = some n.epoch := by
  simp only [adoptionCandidate, h]

theorem mostCarried_eq (notes : List FrameNote) : mostCarried notes =
    (notes.find? fun n => notes.all fun o => decide ((notes.filter (fun x => x.epoch = o.epoch)).length ≤
      (notes.filter (fun x => x.epoch = n.epoch)).length)).map (·.epoch) := rfl

theorem adoptionCandidate_carried {closed : List FrameNote} (h : closed.find? (fun x => x.anchored) = none) :
    adoptionCandidate closed = mostCarried (if closed.any (fun x => decide (x.kind = .census)) then
      closed.filter (fun x => x.kind = .census) else closed) := by
  unfold adoptionCandidate
  rw [h]
  cases hc : closed.filter (fun n => n.kind = .census) with
  | nil =>
    have without : closed.any (fun x => decide (x.kind = .census)) = false := by
      rw [List.any_eq_false]
      exact List.filter_eq_nil_iff.1 hc
    simp [without]
  | cons x xs =>
    have some_census : closed.any (fun x => decide (x.kind = .census)) = true := by
      obtain ⟨hx, hk⟩ := List.mem_filter.1 (show x ∈ closed.filter (fun n => n.kind = .census) by simp [hc])
      exact List.any_eq_true.2 ⟨x, hx, hk⟩
    simp [some_census]

theorem adoptEnsemble_nothing {s : State} {x : Epoch} {train : TrainStart}
    (hx : adoptionCandidate s.mem.closedRecord = some x) (ht : s.mem.newest = some train)
    (hn : adoptionNumber x train s.ts.epoch = s.ts.epoch) : s.adoptEnsemble = s := by
  simp only [State.adoptEnsemble, hx, ht, if_pos hn]

theorem adoptEnsemble_requests {s : State} {x : Epoch} {train : TrainStart}
    (hx : adoptionCandidate s.mem.closedRecord = some x) (ht : s.mem.newest = some train)
    (hn : adoptionNumber x train s.ts.epoch ≠ s.ts.epoch) : s.adoptEnsemble = { s with
      ts.pendAdopt := some (adoptionNumber x train s.ts.epoch), mem.adoptionOutstanding := true } := by
  simp only [State.adoptEnsemble, hx, ht, if_neg hn, State.requestAdoption]

/-! ## An adoption at the boundary (R88, R104, R117) -/

/-- The entries with their epoch numbers moved (R104). -/
def State.rebased (shift : Epoch) (s : State) : State :=
  { s with roster.entries := s.roster.entries.map (Entry.rebase shift) }

section Adopted

variable {s : State} {ev : BoundaryEvent}

theorem memberAdopted_none (h : ev.adoptedOver = none) : s.memberAdopted ev = s := by
  simp only [State.memberAdopted, h]

theorem rosterBoundary_none (h : ev.adoptedOver = none) : s.rosterBoundary ev = s := by
  simp only [State.rosterBoundary, h]

variable {other : Epoch} (h : ev.adoptedOver = some other)

include h

theorem memberAdopted_foreign (ho : s.mem.adoptionOutstanding = false) : s.memberAdopted ev = s := by
  simp [State.memberAdopted, h, ho]

theorem memberAdopted_own (ho : s.mem.adoptionOutstanding = true) : s.memberAdopted ev =
    { s with mem.adoptionOutstanding := false }.post .membership .epochAdopted none (some other) := by
  simp [State.memberAdopted, h, ho]

theorem memberAdopted_settled : (s.memberAdopted ev).mem.adoptionOutstanding = false := by
  cases ho : s.mem.adoptionOutstanding
  · rw [memberAdopted_foreign h ho, ho]
  · rw [memberAdopted_own h ho]
    rfl

theorem rosterBoundary_foreign (ho : s.roster.adoptionOutstanding = false) :
    s.rosterBoundary ev = s.rebased (s.ts.epoch - other) := by
  simp [State.rosterBoundary, State.rebased, h, ho]

theorem rosterBoundary_own (ho : s.roster.adoptionOutstanding = true) :
    s.rosterBoundary ev = (s.rebased (s.ts.epoch - other)).rosterAdopted other := by
  simp [State.rosterBoundary, State.rebased, h, ho]

theorem rosterBoundary_entries :
    (s.rosterBoundary ev).roster.entries = s.roster.entries.map (Entry.rebase (s.ts.epoch - other)) := by
  cases ho : s.roster.adoptionOutstanding
  · rw [rosterBoundary_foreign h ho]; rfl
  · rw [rosterBoundary_own h ho]; rfl

theorem rosterBoundary_settled : (s.rosterBoundary ev).roster.adoptionOutstanding = false := by
  cases ho : s.roster.adoptionOutstanding
  · rw [rosterBoundary_foreign h ho]; exact ho
  · rw [rosterBoundary_own h ho]; rfl

end Adopted

/-! ## An adoption at the boundary proper (R88, R104, R117) -/

/-- The judgement of an epoch leaves what the unit has asked for. -/
theorem memberJudged_outstanding (s : State) :
    s.memberJudged.mem.adoptionOutstanding = s.mem.adoptionOutstanding := by
  obtain e | e | e | e | ⟨quiet, e⟩ | e | e := memberJudged_cases s <;> rw [e]
  · rfl
  · rw [changeState_mem]; rfl
  · rw [enterJoining_eq]
  · rfl
  · rfl
  · rw [enterListen_mem]; rfl

theorem memberJudged_outbox_mono (s : State) {x : Posting} (hx : x ∈ s.port.outbox) :
    x ∈ s.memberJudged.port.outbox := by
  obtain e | e | e | e | ⟨quiet, e⟩ | e | e := memberJudged_cases s <;> rw [e]
  · exact hx
  · exact hx
  · rw [changeState_outbox]; exact List.mem_append_left _ hx
  · rw [enterJoining_eq]; exact List.mem_append_left _ hx
  · exact List.mem_append_left _ hx
  · exact hx
  · rw [enterListen_outbox]; exact List.mem_append_left _ (List.mem_append_left _ hx)

theorem afterJump_outstanding (s : State) (forward : Option Nat) :
    (s.afterJump forward).mem.adoptionOutstanding = s.mem.adoptionOutstanding := by
  obtain same | ⟨-, same⟩ := afterJump_cases s forward
  · rw [same.mem]
  · obtain ⟨a, b, judged | judged⟩ := judgeAligning_cases s
    · rw [same.mem, judged]; rfl
    · rw [same.mem, judged, enterListen_mem]; rfl

section Boundary

variable (s : State) (step : Option Int) (forward : Option Nat) (discarded : Bool)

theorem rosteredAt_posts {x : Posting} (hx : x ∈ (s.rosteredAt step forward discarded).port.outbox) :
    x ∈ (s.boundaryProper step forward discarded).port.outbox := by
  have marked : x ∈ (s.markedAt step forward discarded).port.outbox := markBoundary_outbox_mono _ _ hx
  have counted : x ∈ (s.countedAt step forward discarded).port.outbox :=
    snapshot_outbox_mono _ (by simpa [State.generatedAt] using marked)
  exact afterJump_outbox_mono _ _ counted

/-- Nothing after the membership unit's own work settles what it has asked for. -/
theorem boundaryProper_outstanding : (s.boundaryProper step forward discarded).mem.adoptionOutstanding =
    (s.judgedAt step forward discarded).mem.adoptionOutstanding := by
  by_cases h : (s.judgedAt step forward discarded).repeats
  · rw [boundaryProper_mem_repeats s step forward discarded h]
  obtain ⟨e, he, -⟩ := countedAt_notes s step forward discarded h
  have counted : (s.countedAt step forward discarded).mem.adoptionOutstanding =
      (s.judgedAt step forward discarded).mem.adoptionOutstanding := by rw [he]
  rw [boundaryProper_stages, afterJump_outstanding, counted]

theorem boundaryProper_rosterOutstanding : (s.boundaryProper step forward discarded).roster.adoptionOutstanding =
    (s.rosteredAt step forward discarded).roster.adoptionOutstanding := by
  simp [boundaryProper_stages, State.countedAt, State.generatedAt, State.markedAt]

variable {s} {n : Epoch} (h : s.ts.pendAdopt = some n)

include h

/-- The epoch that takes an adopted number opens after it (R5, R88). -/
theorem boundaryProper_adopts : (s.boundaryProper step forward discarded).ts.epoch = n + 1 ∧
    (s.boundaryProper step forward discarded).ts.pendAdopt = none := by
  rw [boundaryProper_ts]
  simp [Timescale.openEpoch, h]

theorem eventOf_adopted : (s.ts.eventOf step discarded).adoptedOver = some (s.ts.epoch + 1) := by
  simp [Timescale.eventOf, h]

theorem judgedAt_epoch : (s.judgedAt step forward discarded).ts.epoch = n + 1 := by
  rw [judgedAt_ts]
  simp [Timescale.openEpoch, h]

theorem boundaryProper_settles : (s.boundaryProper step forward discarded).mem.adoptionOutstanding = false ∧
    (s.boundaryProper step forward discarded).roster.adoptionOutstanding = false := by
  rw [boundaryProper_outstanding, boundaryProper_rosterOutstanding]
  have adopted := eventOf_adopted step discarded h
  refine ⟨?_, rosterBoundary_settled adopted⟩
  rw [State.judgedAt, memberBoundary_eq, memberJudged_outstanding]
  exact memberAdopted_settled adopted

theorem boundaryProper_posts_member (ho : s.mem.adoptionOutstanding = true) :
    (⟨.membership, n + 1, .epochAdopted, none, some (s.ts.epoch + 1), none⟩ : Posting) ∈
      (s.boundaryProper step forward discarded).port.outbox := by
  have adopted := memberAdopted_own (s := s.opened step forward) (eventOf_adopted step discarded h) ho
  have epoch : (s.opened step forward).ts.epoch = n + 1 := by simp [Timescale.openEpoch, h]
  refine boundaryProper_posts s step forward discarded ?_
  rw [State.judgedAt, memberBoundary_eq, ← epoch]
  refine memberJudged_outbox_mono _ ?_
  rw [State.evidenceMoved, adopted]
  exact List.mem_append_right _ (List.mem_singleton_self _)

theorem boundaryProper_posts_roster (ho : s.roster.adoptionOutstanding = true) :
    (⟨.roster, n + 1, .epochAdopted, none, some (s.ts.epoch + 1), none⟩ : Posting) ∈
      (s.boundaryProper step forward discarded).port.outbox := by
  have kept : (s.judgedAt step forward discarded).roster.adoptionOutstanding = true := by
    simpa [State.judgedAt, State.opened] using ho
  refine rosteredAt_posts s step forward discarded ?_
  rw [State.rosteredAt, rosterBoundary_own (eventOf_adopted step discarded h) kept,
    ← judgedAt_epoch step forward discarded h]
  exact List.mem_append_right _ (List.mem_singleton_self _)

/-- A MEMBER that stays one has its roster's numbers moved by the jump of the epoch number (R104). -/
theorem boundaryProper_rebases (hs : s.mem.state = .member)
    (ht : (s.boundaryProper step forward discarded).mem.state = .member) :
    (s.boundaryProper step forward discarded).roster.entries =
      s.roster.entries.map (Entry.rebase (n - s.ts.epoch)) := by
  have judged : s.judgedAt step forward discarded =
      (s.opened step forward).evidenceMoved (s.ts.eventOf step discarded) := by
    have member : ((s.opened step forward).evidenceMoved (s.ts.eventOf step discarded)).mem.state = .member := by
      simpa [State.opened] using hs
    rw [State.judgedAt, memberBoundary_eq, State.memberJudged]
    simp only [member]
  obtain ⟨out, ps, shape⟩ := evidenceMoved_shape (s.ts.eventOf step discarded) (s.opened step forward)
  have once : ¬ (s.judgedAt step forward discarded).repeats := fun again => by
    rw [boundaryProper_mem_repeats s step forward discarded again] at ht
    cases ht
  have still : (s.judgedAt step forward discarded).mem.state ≠ .aligning := by
    rw [judged, evidenceMoved_state]
    simp [State.opened, hs]
  obtain ⟨-, -, roster⟩ :=
    boundaryProper_mem_notes s step forward discarded once fun aligning => absurd aligning still
  have shift : n + 1 - (s.ts.epoch + 1) = n - s.ts.epoch := by bv_omega
  rw [roster, State.rosteredAt, rosterBoundary_entries (eventOf_adopted step discarded h),
    judgedAt_epoch step forward discarded h, shift, judged, shape]
  rfl

end Boundary

end Sys2Proof.Machine

/-! # Good frames outside MEMBER, and the alignment they decide (R65, R84 to R89, R91, R144) -/

namespace Sys2Proof.Machine

open Sys2Proof

/-! ## The timing state brought to FREE (R120, R144) -/

theorem refreshTimeValid_level (s : State) :
    s.refreshTimeValid.solver.timeValid = timeValidOf s.solver.timing s.solver.overBudget := by
  unfold State.refreshTimeValid
  dsimp only
  split
  next h => exact h.symm
  next => simp

/-- The entry to FREE posts its STATE_CHANGE, and time-valid goes low (R120, R126). -/
theorem enter_free (s : State) (g : Growth) :
    (s.enter none .free none g none).solver.timeValid = false ∧
    (s.enter none .free none g none).solver.validTime = s.solver.validTime ∧
    (s.enter none .free none g none).port.outbox =
      s.port.outbox ++ [⟨.solver, s.ts.epoch, .stateChange, none, some 0, none⟩] := by
  refine ⟨?_, ?_, ?_⟩
  · unfold State.enter
    dsimp only
    rw [refreshTimeValid_level]
    rfl
  · simp [State.enter, State.postAfter]
  · simp [State.enter, State.postAfter]
    rfl

/-- What the membership unit's request brings the solver to (R144). -/
theorem freeRequest_frees (s : State) (h : s.solver.timing = .free → s.solver.timeValid = false) :
    s.freeRequest.solver.timing = .free ∧ s.freeRequest.solver.timeValid = false ∧
    s.freeRequest.solver.validTime = false ∧ s.freeRequest.solver.overBudget = false ∧
    s.freeRequest.ts.pendC = some 0 ∧ s.freeRequest.port.outbox = s.port.outbox ++
      (if s.solver.timing = .free then [] else [⟨.solver, s.ts.epoch, .stateChange, none, some 0, none⟩]) := by
  have slew : clampInt (-32000) 32000 0 = 0 := by decide
  unfold State.freeRequest
  dsimp only
  split
  next hf => simp [State.handOver, hf, h hf, slew]
  next => simp [State.handOver, enter_free, slew]

/-! ## A converged history decides (R87, R88, R90) -/

/-- A frame noted in LISTEN or APART (R84, R85). -/
def State.noteHeard (f : Frame) (s : State) : State :=
  { s with mem := { s.mem with heard := true, frameRecord := placeNote f.note s.mem.frameRecord } }

/-- A listening node that enters ALIGNING changes nothing but its counts, its state and the posting (R82, R90). -/
theorem enterAligning_eq (s : State) (h : s.mem.state = .listen ∨ s.mem.state = .apart) : s.enterAligning = { s with
    mem := { s.mem with state := .aligning, aligningCount := 0, emptyCount := 0 }
    port.outbox := s.port.outbox ++ [s.changePosting .aligning] } := by
  obtain h | h := h <;>
    simp [State.enterAligning, State.changeState, MembershipState.clearsRoster, MarkUnit.stateChange,
      FrameUnit.stateChange, MembershipState.mode, MembershipState.active, State.changePosting, State.postInt,
      State.post, State.postAfter, h]

/-- A node in LISTEN that goes APART changes its state and posts the change (R82, R87). -/
theorem changeState_apart (s : State) (h : s.mem.state = .listen) : s.changeState .apart = { s with
    mem.state := .apart, port.outbox := s.port.outbox ++ [s.changePosting .apart] } := by
  simp [State.changeState, MembershipState.clearsRoster, MarkUnit.stateChange, FrameUnit.stateChange,
    MembershipState.mode, MembershipState.active, State.changePosting, State.postInt, State.post, State.postAfter, h]

/-- An adoption asked for moves the request and the flag (R88). -/
theorem adoptEnsemble_shape (s : State) : ∃ (adopt : Option Epoch) (out : Bool),
    s.adoptEnsemble = { s with ts.pendAdopt := adopt, mem.adoptionOutstanding := out } := by
  unfold State.adoptEnsemble
  split
  next x train hx ht =>
    dsimp only
    split
    · exact ⟨s.ts.pendAdopt, s.mem.adoptionOutstanding, rfl⟩
    · exact ⟨_, _, rfl⟩
  next => exact ⟨s.ts.pendAdopt, s.mem.adoptionOutstanding, rfl⟩

section Listening

variable {s : State} (f : Frame)

theorem memberDelivery_listening (h : s.mem.state = .listen ∨ s.mem.state = .apart) :
    s.memberDelivery f = s.listenDelivery f := by
  obtain h | h := h <;> simp only [State.memberDelivery, h]

theorem listenDelivery_open (h : converged s.mem.history = false) : s.listenDelivery f = s.noteHeard f := by
  simp [State.listenDelivery, State.noteHeard, h]

theorem listenDelivery_decides {a b d : Int} (hh : s.mem.history = [a, b, d]) (hc : converged [a, b, d] = true) :
    s.listenDelivery f = (s.noteHeard f).decideAlignment d := by
  simp [State.listenDelivery, State.noteHeard, hh, hc]

end Listening

section Decision

variable (s : State) {d : Int}

theorem decideAlignment_near (h : d.natAbs ≤ ns 25000) : s.decideAlignment d = s.adoptEnsemble.enterAligning := if_pos h

theorem decideAlignment_steps (h : ns 25000 < d.natAbs) (hr : s.ref.state ≠ .qualified) :
    s.decideAlignment d = ((s.freeRequest.requestStep (-d)).adoptEnsemble).enterAligning :=
  (if_neg (Nat.not_le.2 h)).trans (if_neg hr)

theorem decideAlignment_stays (h : ns 25000 < d.natAbs) (hr : s.ref.state = .qualified) (hs : s.mem.state = .apart) :
    s.decideAlignment d = s :=
  (if_neg (Nat.not_le.2 h)).trans ((if_pos hr).trans (if_neg (by simp [hs])))

theorem decideAlignment_parts (h : ns 25000 < d.natAbs) (hr : s.ref.state = .qualified) (hs : s.mem.state = .listen) :
    s.decideAlignment d = (s.postInt .membership .ensembleFar none (toNs d)).changeState .apart :=
  (if_neg (Nat.not_le.2 h)).trans ((if_pos hr).trans (if_pos hs))

end Decision

/-- The entry to ALIGNING that a decision ends in, after an adoption asked for (R87, R88, R90). -/
theorem adopts_aligning (w : State) (h : w.mem.state = .listen ∨ w.mem.state = .apart) :
    w.adoptEnsemble.enterAligning = { w.adoptEnsemble with
      mem := { w.adoptEnsemble.mem with state := .aligning, aligningCount := 0, emptyCount := 0 }
      port.outbox := w.adoptEnsemble.port.outbox ++ [w.changePosting .aligning] } := by
  obtain ⟨adopt, out, shape⟩ := adoptEnsemble_shape w
  rw [enterAligning_eq _ (by rw [shape]; exact h), shape]
  rfl

section Decided

variable {s : State} (f : Frame) (hl : s.mem.state = .listen ∨ s.mem.state = .apart) {a b d : Int}
  (hh : s.mem.history = [a, b, d]) (hc : converged [a, b, d] = true)

include hl hh hc

theorem memberDelivery_decides : s.memberDelivery f = (s.noteHeard f).decideAlignment d := by
  rw [memberDelivery_listening f hl, listenDelivery_decides f hh hc]

/-- Wherever the decision is to align, it ends in the entry to ALIGNING after an adoption asked for by a node whose
membership unit and epoch stand (R87, R88). -/
theorem memberDelivery_aligns (h : d.natAbs ≤ ns 25000 ∨ s.ref.state ≠ .qualified) :
    ∃ w : State, s.memberDelivery f = w.adoptEnsemble.enterAligning ∧ w.mem = (s.noteHeard f).mem ∧
      w.ts.epoch = s.ts.epoch ∧ w.ts.pendAdopt = s.ts.pendAdopt := by
  rw [memberDelivery_decides f hl hh hc]
  by_cases near : d.natAbs ≤ ns 25000
  · exact ⟨s.noteHeard f, decideAlignment_near _ near, rfl, rfl, rfl⟩
  · refine ⟨_, decideAlignment_steps _ (Nat.not_le.1 near) (h.resolve_left near), ?_, ?_, ?_⟩ <;>
      simp [State.noteHeard]

/-- The adoption that goes with it (R88). -/
theorem memberDelivery_adopts (h : d.natAbs ≤ ns 25000 ∨ s.ref.state ≠ .qualified) {x : Epoch} {train : TrainStart}
    (hx : adoptionCandidate s.mem.closedRecord = some x) (ht : s.mem.newest = some train) :
    (adoptionNumber x train s.ts.epoch = s.ts.epoch → (s.memberDelivery f).ts.pendAdopt = s.ts.pendAdopt ∧
      (s.memberDelivery f).mem.adoptionOutstanding = s.mem.adoptionOutstanding) ∧
    (adoptionNumber x train s.ts.epoch ≠ s.ts.epoch →
      (s.memberDelivery f).ts.pendAdopt = some (adoptionNumber x train s.ts.epoch) ∧
      (s.memberDelivery f).mem.adoptionOutstanding = true) := by
  obtain ⟨w, aligns, mem, epoch, adopt⟩ := memberDelivery_aligns f hl hh hc h
  have hx' : adoptionCandidate w.mem.closedRecord = some x := by rw [mem]; exact hx
  have ht' : w.mem.newest = some train := by rw [mem]; exact ht
  rw [aligns, ← epoch]
  refine ⟨fun hn => ?_, fun hn => ?_⟩
  · rw [adoptEnsemble_nothing hx' ht' hn]
    simp [adopt, mem, State.noteHeard]
  · rw [adoptEnsemble_requests hx' ht' hn]
    simp

/-- The far ensemble of a node without a QUALIFIED reference: FREE, the step, ALIGNING (R87, R89, R144). -/
theorem memberDelivery_steps (far : ns 25000 < d.natAbs) (hr : s.ref.state ≠ .qualified)
    (hv : s.solver.timing = .free → s.solver.timeValid = false) :
    let t := s.memberDelivery f
    t.mem.state = .aligning ∧ t.ts.pendStep = some (fold (-d)) ∧ t.solver.timing = .free ∧
    t.solver.timeValid = false ∧ t.solver.validTime = false ∧ t.solver.overBudget = false ∧ t.ts.pendC = some 0 ∧
    t.solver.steerF = s.solver.steerF ∧ t.port.outbox = s.port.outbox ++
      (if s.solver.timing = .free then [] else [⟨.solver, s.ts.epoch, .stateChange, none, some 0, none⟩]) ++
      [⟨.membership, s.ts.epoch, .membershipChange, none, some 3, none⟩] := by
  obtain ⟨timing, level, validTime, budget, slew, outbox⟩ := freeRequest_frees (s.noteHeard f) hv
  have taken : (s.noteHeard f).freeRequest.requestStep (-d) =
      { (s.noteHeard f).freeRequest with ts.pendStep := some (fold (-d)) } := if_neg (by simp [level])
  obtain ⟨adopt, out, shape⟩ := adoptEnsemble_shape ((s.noteHeard f).freeRequest.requestStep (-d))
  rw [taken] at shape
  intro t
  have decided : t = _ := (memberDelivery_decides f hl hh hc).trans (decideAlignment_steps _ far hr)
  rw [decided, taken, adopts_aligning _ (by simpa [State.noteHeard] using hl), shape]
  refine ⟨rfl, rfl, timing, level, validTime, budget, slew, ?_, ?_⟩
  · simp [State.noteHeard]
  · simp only [outbox, State.changePosting, freeRequest_keeps]
    rfl

end Decided

end Sys2Proof.Machine

/-! # A good frame outside MEMBER, taken by the roster and by the membership unit (R65, R66, R84, R85, R91, R100) -/

namespace Sys2Proof.Machine

open Sys2Proof

/-! ## What the membership unit takes of a frame (R91) -/

/-- The answers noted while JOINING, with that of a CENSUS (R91). -/
def Membership.answered (f : Frame) (m : Membership) : List JoinNote :=
  match f with
  | .census j _ _ d _ => placeAnswer ⟨j, maskHas d.mask m.nodeId⟩ m.joinSenders
  | .join _ _ _ _ | .leave _ _ _ => m.joinSenders

/-- The membership unit after a frame that it does not listen for: a JOINING one notes it (R91). -/
def Membership.noted (f : Frame) (m : Membership) : Membership :=
  if m.state = .joining then { m with joinHeard := true, joinSenders := m.answered f } else m

theorem joinDelivery_eq (f : Frame) (m : Membership) (hk : f.kind = .census ∨ f.kind = .join) :
    m.joinDelivery f = { m with joinHeard := true, joinSenders := m.answered f } := by
  cases f with
  | census | join => rfl
  | leave => exact absurd hk (by simp [Frame.kind])

theorem memberDelivery_notes (s : State) (f : Frame) (hk : f.kind = .census ∨ f.kind = .join)
    (hl : ¬ (s.mem.state = .listen ∨ s.mem.state = .apart)) :
    s.memberDelivery f = { s with mem := s.mem.noted f } := by
  by_cases hj : s.mem.state = .joining
  · simp only [State.memberDelivery, Membership.noted, hj, joinDelivery_eq f s.mem hk, if_true]
  · rw [Membership.noted, if_neg hj]
    cases hs : s.mem.state <;> simp_all [State.memberDelivery]

/-! ## What the roster takes of a frame outside MEMBER (R65, R66, R100, R102, R103) -/

/-- What reaches the other units of a good CENSUS or JOIN, in any state but MEMBER, whatever number it carries. -/
theorem exec_frame_delivered {s : State} {f : Frame} {c : Instr}
    (hr : s.frame.receipt = some (.arrived f true)) (ht : s.frame.tx = .quiet)
    (hc : (c = .censusReceived ∧ f.kind = .census) ∨ (c = .joinReceived ∧ f.kind = .join))
    (hk : f.sender ≠ s.mem.nodeId) (hm : s.mem.state ≠ .member) :
    exec c s = .next ((s.receiptTaken.rosterTakes f).memberDelivery f).settle := by
  obtain ⟨rfl, kind⟩ | ⟨rfl, kind⟩ := hc
  · rw [exec_censusReceived_arrived hr ht kind,
      censusArrives_good s.receiptTaken kind hk fun member => absurd member hm]
    rfl
  · rw [exec_joinReceived_arrived hr ht kind, joinArrives_good s.receiptTaken hk]
    rfl

/-- An entry made for a frame takes all that the frame says of its class. -/
theorem entryTakes_fresh (s : State) (f : Frame) (hk : f.kind = .census ∨ f.kind = .join) (cls : OscClass) :
    s.entryTakes f (.new f.sender f.cls s.ts.epoch) = s.entryTakes f (.new f.sender cls s.ts.epoch) := by
  rw [entryTakes_eq, entryTakes_eq]
  cases f with
  | census | join => rfl
  | leave => exact absurd hk (by simp [Frame.kind])

section Taken

variable (s : State) {f : Frame} (hm : s.mem.state ≠ .member)

include hm

theorem rosterTakes_known_unnumbered {e : Entry} (h : s.roster.find f.sender = some e) :
    s.rosterTakes f = { s with roster.entries := replaceEntry (s.entryTakes f e) s.roster.entries } := by
  rw [rosterTakes_known s h]
  exact noteFrame_other _ f (.inr hm)

theorem rosterTakes_unknown_unnumbered (h : s.roster.find f.sender = none) : s.rosterTakes f = s.offerEntry f := by
  rw [rosterTakes_unknown s h]
  exact noteFrame_other _ f (.inr (by rwa [offerEntry_mem]))

end Taken

/-- The roster's entries replaced, in a state that has noted the frame as the membership unit does. -/
def State.takenAs (f : Frame) (entries : List Entry) (s : State) : State :=
  { s.receiptTaken with mem := s.mem.noted f, roster.entries := entries }

section Delivered

variable {s : State} {f : Frame} {c : Instr} {entries : List Entry}
  (executed : exec c s = .next ((s.receiptTaken.rosterTakes f).memberDelivery f).settle)
  (hk : f.kind = .census ∨ f.kind = .join) (empty : s.port.outbox = [])
  (takes : s.receiptTaken.rosterTakes f = { s.receiptTaken with roster.entries := entries })

include executed hk empty takes

/-- A frame of which the roster posts nothing: what each kind of membership state makes of it. -/
theorem exec_frame_taken : (¬ (s.mem.state = .listen ∨ s.mem.state = .apart) → exec c s = .next (s.takenAs f entries)) ∧
    ((s.mem.state = .listen ∨ s.mem.state = .apart) →
      exec c s = .next ((s.takenAs f entries).memberDelivery f).settle) ∧
    ((s.mem.state = .listen ∨ s.mem.state = .apart) → converged s.mem.history = false →
      exec c s = .next { s.takenAs f entries with
        mem := { s.mem with heard := true, frameRecord := placeNote f.note s.mem.frameRecord } }) := by
  rw [executed, takes]
  have unnoted (h : s.mem.state = .listen ∨ s.mem.state = .apart) :
      ({ s.receiptTaken with roster.entries := entries } : State) = s.takenAs f entries := by
    have same : s.mem.noted f = s.mem := if_neg (by obtain h | h := h <;> simp [h])
    rw [State.takenAs, same]
    rfl
  refine ⟨fun h => ?_, fun h => ?_, fun h hc => ?_⟩
  · rw [memberDelivery_notes _ f hk (by exact h)]
    exact congrArg _ (settle_nil (s.takenAs f entries) empty)
  · rw [unnoted h]
  · rw [memberDelivery_listening f (by exact h), listenDelivery_open f (by exact hc)]
    exact congrArg _ (settle_nil _ empty)

end Delivered

/-- Settles O27: a frame outside MEMBER, the records it is noted in, the decision of a converged history, the number
adopted, and the boundary that applies an adoption. -/
theorem alignmentIsDecidedAndNumbered : Obligations.AlignmentIsDecidedAndNumbered := by
  unfold Obligations.AlignmentIsDecidedAndNumbered
  refine ⟨fun s f c hr ht hc hk hm empty => ?_, ⟨fun n x notes => ?_, fun n x notes => ?_,
    fun k e cls d obs => ⟨rfl, rfl⟩, converged_iff⟩, fun s f hl => ?_,
    ⟨fun closed n => adoptionCandidate_anchored,
      fun closed h => (adoptionCandidate_carried h).trans (mostCarried_eq _), fun x now train => rfl,
      fun s x train hx hn => ⟨adoptEnsemble_nothing hx hn, adoptEnsemble_requests hx hn⟩⟩,
    fun s step forward discarded n => ?_, fun s ev => ?_⟩
  · intro k listening senders v taken fresh full mayEnter
    have kind : f.kind = .census ∨ f.kind = .join := hc.imp And.right And.right
    have executed := exec_frame_delivered hr ht hc hk hm
    have takes (e : Entry) : s.receiptTaken.entryTakes f e = taken e := by
      rw [entryTakes_eq]
      cases f <;> rfl
    have unknown := rosterTakes_unknown_unnumbered s.receiptTaken (f := f) hm
    refine ⟨fun w hw => ?_, fun hn may room hp => ?_⟩
    · have entered : ∃ entries, s.receiptTaken.rosterTakes f = { s.receiptTaken with roster.entries := entries } ∧
          w = s.takenAs f entries := by
        obtain ⟨e, he, rfl⟩ | ⟨hn, ⟨barred, rfl⟩ | ⟨may, room, rfl⟩ | ⟨may, room, hp, rfl⟩⟩ := hw
        · refine ⟨replaceEntry (taken e) s.roster.entries, ?_, rfl⟩
          rw [rosterTakes_known_unnumbered s.receiptTaken hm he, takes]
          rfl
        · exact ⟨s.roster.entries, (unknown hn).trans (offerEntry_barred s.receiptTaken barred), rfl⟩
        · refine ⟨insertEntry (taken fresh) s.roster.entries, ?_, rfl⟩
          rw [unknown hn, offerEntry_enters s.receiptTaken may room, entryTakes_fresh s.receiptTaken f kind 0, takes]
          rfl
        · exact ⟨s.roster.entries, (unknown hn).trans (offerEntry_full_again s.receiptTaken may room hp), rfl⟩
      obtain ⟨entries, htakes, rfl⟩ := entered
      exact exec_frame_taken executed kind empty htakes
    · rw [executed, unknown hn, offerEntry_full_first s.receiptTaken may room hp]
      refine ⟨fun h => ?_, fun h => ?_⟩
      · rw [memberDelivery_notes _ f kind (by exact h)]
        exact congrArg _ (settle_post full _ _ _ _ empty)
      · have waiting : s.mem.state ≠ .joining := by obtain h | h := h <;> simp [h]
        simp only [full, v, if_neg waiting, State.post, State.postAfter, State.receiptTaken, empty, List.nil_append]
        rfl
  · rw [placeAnswer_eq]
    exact ⟨mem_placeBy _ n notes, fun h => mem_placeBy_of_ne _ n h notes, placeBy_pairwise _ n⟩
  · rw [placeNote_eq]
    exact ⟨mem_placeBy _ n notes, fun h => mem_placeBy_of_ne _ n h notes, placeBy_pairwise _ n⟩
  · intro heard aligned
    refine ⟨fun h => (memberDelivery_listening f hl).trans (listenDelivery_open f h), fun a b d hh hc => ?_⟩
    intro t
    have decided : t = heard.decideAlignment d := memberDelivery_decides f hl hh hc
    refine ⟨fun near => ?_, fun far hq hs => ?_, fun far hq hs => ?_, fun far hq => ?_, fun far hq hv => ?_,
      fun x train h hx ht => memberDelivery_adopts f hl hh hc h hx ht⟩
    · rw [decided, decideAlignment_near _ near, adopts_aligning heard hl]
      rfl
    · rw [decided, decideAlignment_stays heard far hq hs]
    · rw [decided, decideAlignment_parts heard far hq hs, changeState_apart _ (by exact hs)]
      simp only [State.postInt, State.post, State.postAfter, List.append_assoc, List.singleton_append]
      rfl
    · have epoch : (heard.freeRequest.requestStep (-d)).ts.epoch = s.ts.epoch := by simp [heard]
      rw [decided, decideAlignment_steps heard far hq, adopts_aligning _ (by simpa [heard] using hl)]
      simp only [State.changePosting, epoch]
      rfl
    · have low : s.solver.timing = .free → s.solver.timeValid = false := fun hf => by
        simpa [hf] using hv.1
      exact memberDelivery_steps f hl hh hc far hq low
  · intro t posted hn
    obtain ⟨epoch, adopt⟩ := boundaryProper_adopts step forward discarded hn
    obtain ⟨member, roster⟩ := boundaryProper_settles step forward discarded hn
    exact ⟨epoch, adopt, member, boundaryProper_posts_member step forward discarded hn, roster,
      boundaryProper_posts_roster step forward discarded hn, boundaryProper_rebases step forward discarded hn⟩
  · refine ⟨fun h => ⟨rosterBoundary_none h, memberAdopted_none h⟩, fun other h => ?_⟩
    exact ⟨rosterBoundary_foreign h, rosterBoundary_own h, memberAdopted_foreign h, memberAdopted_own h⟩

end Sys2Proof.Machine

/-! # Conflict evidence in two epochs running (R82, R92, R93) -/

namespace Sys2Proof.Machine

open Sys2Proof

/-! ## A report that is remembered (R92) -/

theorem report_listening (s : State) (c : Cause)
    (h : s.mem.state = .listen ∨ s.mem.state = .apart ∨ s.mem.state = .aligning) :
    s.report c = { s with mem.evidenceThis := true } := by
  obtain h | h | h := h <;> simp [State.report, h]

theorem report_first (s : State) (c : Cause) (ha : s.mem.state.active = true) (he : s.mem.evidenceLast = false) :
    s.report c = { s with mem.evidenceThis := true } := by
  refine report_windowed s c ?_ (by simp [he])
  obtain h | h := (active_iff _).1 ha <;> simp [h, MembershipState.mode]

/-! ## The LEAVE requested (R71) -/

section Requested

variable (s : State) (r : LeaveReason)

theorem requestLeave_leave : (s.requestLeave r).frame.leave = some r := by simp [State.requestLeave]

/-- A request lets a pending talk frame stand only while that frame is in flight (R71). -/
theorem requestLeave_talk : (s.requestLeave r).frame.talk =
    if s.withoutTalkStart.inFlight = some .talk then s.frame.talk else none := by
  simp [State.requestLeave, FrameUnit.discardTalk]

end Requested

/-! ## Entry to CONFLICT (R39, R40, R68, R93, R99) -/

section Entered

variable (s : State) (c : Cause)

/-- The roster is cleared (R99). -/
theorem enterConflict_entries : (s.enterConflict c).roster.entries = [] := by
  simp [State.enterConflict, changeState_entries _ .conflict rfl]

theorem enterConflict_leave : (s.enterConflict c).frame.leave = some .conflict := requestLeave_leave _ _

/-- The mark unit learns of the change, and of nothing else. -/
theorem enterConflict_mark : (s.enterConflict c).mark = s.mark.stateChange s.mem.state .conflict := by
  simp only [State.enterConflict, requestLeave_keeps, changeState_mark]
  rfl

variable (h : s.mem.state.active = true)

include h

/-- The own mark is released and the capture set closes (R39, R40). -/
theorem enterConflict_unmarked :
    (s.enterConflict c).mark.drive = none ∧ (s.enterConflict c).mark.capture = none := by
  rw [enterConflict_mark]
  refine ⟨(stateChange_drive _ _ _).trans (by rw [h]; rfl), stateChange_capture _ _ _ ?_ (by decide)⟩
  obtain h | h := (active_iff _).1 h <;> simp [h, MembershipState.mode]

/-- The talk frame goes, unless it is in flight (R68, R71). -/
theorem enterConflict_talk : (s.enterConflict c).frame.talk = none ∨
    s.frame.inFlight = some .talk ∧ (s.enterConflict c).frame.talk = s.frame.talk := by
  have left : ((s.postInt .membership .conflict none c.code).changeState .conflict).frame.talk =
      if s.frame.inFlight = some .talk then s.frame.talk else none := by
    have discarded : s.frame.stateChange s.mem.state .conflict = s.frame.discardTalk := by
      have inactive : MembershipState.conflict.active = false := rfl
      simp [FrameUnit.stateChange, h, inactive]
    rw [changeState_frame]
    exact congrArg FrameUnit.talk discarded
  rw [State.enterConflict, requestLeave_talk, left]
  by_cases flying : s.frame.inFlight = some .talk
  · rw [if_pos flying]
    split
    · exact .inr ⟨flying, rfl⟩
    · exact .inl rfl
  · rw [if_neg flying]
    exact .inl (ite_self _)

end Entered

/-- Settles O15: a report by membership state and by the evidence of the epoch before, and the entry to CONFLICT unit
by unit. -/
theorem evidenceInTwoEpochsIsConflict : Obligations.EvidenceInTwoEpochsIsConflict := by
  unfold Obligations.EvidenceInTwoEpochsIsConflict
  refine fun s c => ⟨report_idle s c, fun h => ?_, fun h again => ?_, rfl⟩
  · obtain h | h | h | ⟨active, first⟩ := h
    · exact report_listening s c (.inl h)
    · exact report_listening s c (.inr (.inl h))
    · exact report_listening s c (.inr (.inr h))
    · exact report_first s c ((active_iff _).2 active) first
  · have active : s.mem.state.active = true := (active_iff _).2 h
    rw [report_repeats s c active again]
    intro t
    obtain ⟨unmarked, closed⟩ := enterConflict_unmarked s c active
    exact ⟨congrArg Membership.state (enterConflict_mem s c), enterConflict_entries s c, unmarked, closed,
      enterConflict_leave s c, enterConflict_talk s c active, enterConflict_outbox s c, by simp [t], by simp [t],
      by simp [t], by simp [t]⟩

end Sys2Proof.Machine

/-! # The records of the local port, field by field (R196, R198, R199) -/

namespace Sys2Proof.Machine

open Sys2Proof

/-! ## Tables of fields -/

/-- The bytes of a table's fields, one after another. A field is its offset, its bytes and its value, as in the tables
of R199. -/
def tableBytes (table : List (Nat × Nat × Nat)) : List Byte := table.flatMap fun x => bytesBE x.2.1 x.2.2

/-- The fields of a table stand one after another from offset `a`, without a gap, and end at `b`. -/
def Adjoins (b : Nat) : (a : Nat) → List (Nat × Nat × Nat) → Prop
  | a, [] => a = b
  | a, x :: xs => x.1 = a ∧ Adjoins b (a + x.2.1) xs

theorem tableBytes_cons (x : Nat × Nat × Nat) (table : List (Nat × Nat × Nat)) :
    tableBytes (x :: table) = bytesBE x.2.1 x.2.2 ++ tableBytes table := rfl

/-- A field reads the number laid out at its offset, modulo what its bytes hold (R198). -/
theorem fieldIn_bytesBE (before after : List Byte) (n v : Nat) :
    fieldIn (before ++ (bytesBE n v ++ after)) before.length n = v % 256 ^ n := by
  rw [fieldIn, List.drop_left, List.take_left' (bytesBE_length n v), natBE_bytesBE]

/-- An offset counted from a later byte. -/
theorem fieldIn_drop (record : List Byte) (a b n : Nat) : fieldIn (record.drop a) b n = fieldIn record (a + b) n := by
  rw [fieldIn, fieldIn, List.drop_drop]

section Table

variable {table : List (Nat × Nat × Nat)} {a b : Nat}

theorem tableBytes_length (h : Adjoins b a table) : a + (tableBytes table).length = b := by
  induction table generalizing a with
  | nil => exact h
  | cons x xs ih =>
    obtain ⟨-, rest⟩ := h
    rw [tableBytes_cons, List.length_append, bytesBE_length, ← ih rest, Nat.add_assoc]

theorem fieldIn_tableBytes (h : Adjoins b a table) (before after : List Byte) (start : before.length = a) :
    ∀ x ∈ table, fieldIn (before ++ (tableBytes table ++ after)) x.1 x.2.1 = x.2.2 % 256 ^ x.2.1 := by
  induction table generalizing a before with
  | nil => exact fun x hx => nomatch hx
  | cons x xs ih =>
    obtain ⟨offset, rest⟩ := h
    rw [tableBytes_cons, List.append_assoc, List.forall_mem_cons]
    constructor
    · rw [offset, ← start]
      exact fieldIn_bytesBE before _ _ _
    · rw [← List.append_assoc before]
      exact ih rest _ (by rw [List.length_append, start, bytesBE_length])

variable {record : List Byte} (h : Adjoins b 0 table)

include h

/-- A record that begins with a table's bytes reads its fields. -/
theorem fields_read (after : List Byte) (laid : record = tableBytes table ++ after) :
    ∀ x ∈ table, fieldIn record x.1 x.2.1 = x.2.2 % 256 ^ x.2.1 := by
  rw [laid]
  exact fieldIn_tableBytes h [] after rfl

/-- A record that is a table's bytes has the table's length and reads its fields. -/
theorem record_read (laid : record = tableBytes table) :
    record.length = b ∧ ∀ x ∈ table, fieldIn record x.1 x.2.1 = x.2.2 % 256 ^ x.2.1 := by
  refine ⟨?_, fields_read h [] (by rw [laid, List.append_nil])⟩
  rw [laid, ← tableBytes_length h, Nat.zero_add]

end Table

/-! ## Blocks of one length -/

section Blocks

variable {α : Type} {f : α → List Byte} {n : Nat} (h : ∀ x, (f x).length = n)

include h

theorem flatMap_length_of_uniform (xs : List α) : (xs.flatMap f).length = n * xs.length := by
  induction xs with
  | nil => simp
  | cons x xs ih => rw [List.flatMap_cons, List.length_append, h, ih, List.length_cons, Nat.mul_succ, Nat.add_comm]

/-- Past `i` blocks of one length stands the block of the item `i`. -/
theorem drop_flatMap_of_uniform {xs : List α} {i : Nat} {x : α} (hx : xs[i]? = some x) :
    ∃ after, (xs.flatMap f).drop (n * i) = f x ++ after := by
  induction xs generalizing i with
  | nil => exact nomatch hx
  | cons y ys ih =>
    cases i with
    | zero =>
      obtain rfl : y = x := by simpa using hx
      exact ⟨ys.flatMap f, rfl⟩
    | succ i =>
      obtain ⟨after, rest⟩ := ih (i := i) (by simpa using hx)
      refine ⟨after, ?_⟩
      rw [List.flatMap_cons, Nat.mul_succ, Nat.add_comm, ← List.drop_drop, List.drop_left' (h y), rest]

end Blocks

/-! ## Quantities as they are reported (R196) -/

theorem toNat_mod_field (x : BitVec 32) : x.toNat % 256 ^ 4 = x.toNat := Nat.mod_eq_of_lt x.isLt

/-- The error bound in units of 4 ns, rounded up and saturating (R196). -/
theorem reportBound_eq (b : Nat) : reportBound b = min 65535 ((b + 3999999) / 4000000) := by
  unfold reportBound ceilDiv
  omega

/-! ## Entries -/

/-- The declared fields, present or absent (R196). -/
theorem declaredBytes_eq (e : Entry) : e.declaredBytes =
    bytesBE 1 (match e.declared with | some d => d.timing.code | none => 0) ++
    bytesBE 2 (match e.declared with | some d => d.bound | none => 0) ++
    bytesBE 2 (match e.declared with | some d => d.mask.toNat | none => 0) := by
  unfold Entry.declaredBytes
  cases e.declared <;> rfl

/-- The newest sample, present or absent (R196). -/
theorem newestBytes_eq (e : Entry) : e.newestBytes =
    bytesBE 4 (match e.ring.getLast? with | some x => x.epoch.toNat | none => 0) ++
    bytesBE 4 (match e.ring.getLast? with | some x => (BitVec.ofInt 32 x.offset).toNat | none => 0) ++
    bytesBE 1 (match e.ring.getLast? with
      | some ⟨_, _, .oneWay⟩ => 1
      | some ⟨_, _, .twoWay⟩ => 0
      | none => 0) := by
  unfold Entry.newestBytes
  obtain _ | ⟨_, _, _ | _⟩ := e.ring.getLast? <;> rfl

theorem suspectByte_eq (c : Option SuspectCause) : suspectByte c =
    match c with | some .censusMiss => 0 | some .markMiss => 1 | some .deviation => 2 | none => 255 := by
  obtain _ | _ | _ | _ := c <;> rfl

theorem entryFlags_eq (e : Entry) : e.flags =
    weight e.declared.isSome 1 + weight e.delay.isSome 2 + weight e.mismatchPosted 4 +
      weight (match e.declared with | some d => d.overBudget | none => false) 8 := by
  unfold Entry.flags
  cases e.declared <;> rfl

theorem entry_bytes_length (e : Entry) : e.bytes.length = 35 := by
  simp [Entry.bytes, declaredBytes_eq, newestBytes_eq, bytesS32, bytesBE_length]

/-! ## The roster record -/

theorem roster_reads (r : Roster) : r.record.length = 3 + 35 * r.entries.length ∧
    fieldIn r.record 0 2 = r.ownMask.toNat ∧ fieldIn r.record 2 1 = r.entries.length % 256 ∧
    ∀ i e, r.entries[i]? = some e → (r.record.drop (3 + 35 * i)).take 35 = e.bytes := by
  have adjoins : Adjoins 3 0 [(0, 2, r.ownMask.toNat), (2, 1, r.entries.length)] := by and_intros <;> rfl
  have header : r.record = tableBytes [(0, 2, r.ownMask.toNat), (2, 1, r.entries.length)] ++
      r.entries.flatMap Entry.bytes := rfl
  have fields := fields_read adjoins _ header
  simp only [List.forall_mem_cons] at fields
  obtain ⟨mask, count, -⟩ := fields
  refine ⟨?_, mask.trans (Nat.mod_eq_of_lt r.ownMask.isLt), count.trans (by rw [Nat.pow_one]), fun i e he => ?_⟩
  · rw [header, List.length_append, flatMap_length_of_uniform entry_bytes_length]
    rfl
  · obtain ⟨after, rest⟩ := drop_flatMap_of_uniform entry_bytes_length he
    have entry : r.record.drop (3 + 35 * i) = e.bytes ++ after := by
      rw [← rest, ← List.drop_drop]
      rfl
    rw [entry, List.take_left' (entry_bytes_length e)]

/-! ## Table pages -/

theorem binBytes_eq (t : TempUnit) (n i : Nat) :
    t.binBytes n i = (List.range' i n).flatMap fun k => (t.bin k).bytes := by
  induction n generalizing i with
  | zero => rfl
  | succ n ih => rw [TempUnit.binBytes, ih, List.range'_succ, List.flatMap_cons]

/-- The fields of a bin: its value and its count (R198). -/
def TempBin.table (b : TempBin) : List (Nat × Nat × Nat) :=
  [(0, 4, (BitVec.ofInt 32 b.value).toNat), (4, 1, b.count)]

theorem tempBin_bytes_eq (b : TempBin) : b.bytes = tableBytes b.table := rfl

theorem tempBin_table_adjoins (b : TempBin) : Adjoins 5 0 b.table := by and_intros <;> rfl

theorem tempBin_bytes_length (b : TempBin) : b.bytes.length = 5 :=
  (record_read (tempBin_table_adjoins b) (tempBin_bytes_eq b)).1

theorem page_length (t : TempUnit) (p : Nat) : (t.page p).length = 81 := by
  rw [TempUnit.page, binBytes_eq, List.length_append, bytesBE_length,
    flatMap_length_of_uniform fun k => tempBin_bytes_length (t.bin k), List.length_range']

theorem page_number (t : TempUnit) (p : Nat) : fieldIn (t.page p) 0 1 = p % 256 :=
  fieldIn_bytesBE [] _ 1 p

/-- The bins of a page stand in their order behind its number (R158, R198). -/
theorem page_bin (t : TempUnit) (p : Nat) {i : Nat} (hi : i < 16) :
    fieldIn (t.page p) (1 + 5 * i) 4 = (BitVec.ofInt 32 (t.bin (16 * p + i)).value).toNat ∧
    fieldIn (t.page p) (5 + 5 * i) 1 = (t.bin (16 * p + i)).count % 256 := by
  have place : (List.range' (16 * p) 16)[i]? = some (16 * p + i) := by simp [hi]
  obtain ⟨after, rest⟩ := drop_flatMap_of_uniform (fun k => tempBin_bytes_length (t.bin k)) place
  have bin : (t.page p).drop (1 + 5 * i) = tableBytes (t.bin (16 * p + i)).table ++ after := by
    rw [← tempBin_bytes_eq, ← rest, ← binBytes_eq, ← List.drop_drop]
    rfl
  have fields := fields_read (tempBin_table_adjoins _) after bin
  simp only [TempBin.table, List.forall_mem_cons, fieldIn_drop] at fields
  obtain ⟨value, count, -⟩ := fields
  refine ⟨value.trans (toNat_mod_field _), ?_⟩
  rw [show 5 + 5 * i = 1 + 5 * i + 4 by omega, count, Nat.pow_one]

/-- Settles O52: each record is its table's bytes, so its fields read; the entries and the bins stand one after another;
and the codes. -/
theorem recordsAreLaidOutInBytes : Obligations.RecordsAreLaidOutInBytes := by
  unfold Obligations.RecordsAreLaidOutInBytes
  refine ⟨fun s => record_read (by and_intros <;> rfl) ?_, roster_reads,
    fun e => record_read (by and_intros <;> rfl) ?_, fun r => record_read (by and_intros <;> rfl) ?_,
    fun t p => ⟨page_length t p, page_number t p, fun i => page_bin t p⟩, by and_intros <;> rfl⟩
  · rw [← reportBound_eq]
    unfold State.statusRecord
    simp only [Membership.reasonByte, State.statusFlags, TempUnit.binByte, toNs, bytesS32,
      tableBytes, List.flatMap_cons, List.flatMap_nil, List.append_nil, List.append_assoc]
    cases s.solver.target <;> rfl
  · simp only [Entry.bytes, suspectByte_eq, entryFlags_eq, declaredBytes_eq, newestBytes_eq, Entry.epochFlags,
      bytesS32, tableBytes, List.flatMap_cons, List.flatMap_nil, List.append_nil, List.append_assoc]
    cases e.received <;> rfl
  · simp only [EventRecord.bytes, EventRecord.flags, tableBytes, List.flatMap_cons, List.flatMap_nil, List.append_nil,
      List.append_assoc]
    cases r.subject <;> cases r.value <;> rfl

end Sys2Proof.Machine

/-! # The solve-point exchange of the roster (R101, R105 to R109, R113, R115, R116, R143) -/

namespace Sys2Proof.Machine

open Sys2Proof

/-! ## Verdicts and marks (R105, R109) -/

/-- A verdict leaves the ID of an entry. -/
@[simp] theorem applyVerdict_id (v : Verdict) (e : Entry) : (e.applyVerdict v).id = e.id := by
  unfold Entry.applyVerdict
  split
  case h_5 => split <;> rfl
  all_goals rfl

theorem deviant_iff (e : Entry) : e.deviant = true ↔ e.state = .suspect ∧ e.cause = some .deviation := by
  simp [Entry.deviant]

theorem notJudged_deviant {e : Entry} (h : e.state = .suspect) (hc : e.cause = some .deviation) :
    e.applyVerdict .notJudged = { e with restore := 0 } := if_pos ((deviant_iff e).2 ⟨h, hc⟩)

theorem notJudged_other {e : Entry} (h : e.state ≠ .suspect ∨ e.cause ≠ some .deviation) :
    e.applyVerdict .notJudged = e :=
  if_neg fun hd => by
    obtain ⟨hs, hc⟩ := (deviant_iff e).1 hd
    exact h.elim (· hs) (· hc)

theorem rosterMarks_eq (s : State) : s.rosterMarks = { s with
    roster.entries := s.roster.entries.map (fun e => { e with marked := e.marked || (s.readSlot e.id).isOne }) } := by
  have each (e : Entry) : (if (s.readSlot e.id).isOne then { e with marked := true } else e) =
      { e with marked := e.marked || (s.readSlot e.id).isOne } := by
    cases (s.readSlot e.id).isOne <;> simp
  simp only [State.rosterMarks, each]

/-! ## Ageing (R106 to R108) -/

theorem framed_iff (e : Entry) : e.framed = true ↔ e.received ≠ .none := by simp [Entry.framed]

theorem not_framed_iff (e : Entry) : e.framed = false ↔ e.received = .none := by simp [Entry.framed]

/-- The frame and the mark of a good epoch (R106, R108). -/
theorem good_iff (e : Entry) : (e.framed && e.marked) = true ↔ e.received ≠ .none ∧ e.marked = true := by
  rw [Bool.and_eq_true, framed_iff]

/-- The epochs without a frame, after this one (R107, R108). -/
def Entry.silentRun (e : Entry) : Nat := if e.received = .none then e.censusMiss + 1 else 0

/-- The framed epochs without a mark, after this one (R107). -/
def Entry.unmarkedRun (e : Entry) : Nat :=
  if e.marked then 0 else if e.received = .none then e.markMiss else min 3 (e.markMiss + 1)

/-- The good epochs of a SUSPECT entry, after this one (R108). -/
def Entry.goodRunAfter (e : Entry) : Nat :=
  if e.cause = some .deviation then e.goodRun
  else if e.received ≠ .none ∧ e.marked = true then e.goodRun + 1 else 0

section Heard

variable {e : Entry} (h : e.state = .heard)
include h

theorem age_heard : e.age = e.ageHeard := by simp only [Entry.age, h]

theorem age_heard_good (hg : e.received ≠ .none ∧ e.marked = true) (hn : e.goodRun < 3) :
    e.age = ⟨some { e with goodRun := e.goodRun + 1, censusMiss := 0 }, none⟩ := by
  rw [age_heard h, Entry.ageHeard, if_pos ((good_iff e).2 hg)]
  exact if_neg (show ¬ 4 ≤ e.goodRun + 1 by omega)

theorem age_heard_admitted (hg : e.received ≠ .none ∧ e.marked = true) (hn : 3 ≤ e.goodRun) :
    e.age = ⟨some { e with
      state := .admitted, goodRun := 0, censusMiss := 0, markMiss := 0, deviation := 0, restore := 0
      mismatch := 0 }, some (.peerAdmitted, none)⟩ := by
  rw [age_heard h, Entry.ageHeard, if_pos ((good_iff e).2 hg)]
  exact if_pos (show 4 ≤ e.goodRun + 1 by omega)

theorem age_heard_missed (hg : ¬ (e.received ≠ .none ∧ e.marked = true)) (hn : e.censusMiss < 3) :
    e.age = ⟨some { e with goodRun := 0, censusMiss := e.censusMiss + 1 }, none⟩ := by
  rw [age_heard h, Entry.ageHeard, if_neg (mt (good_iff e).1 hg)]
  exact if_neg (show ¬ 4 ≤ e.censusMiss + 1 by omega)

theorem age_heard_removed (hg : ¬ (e.received ≠ .none ∧ e.marked = true)) (hn : 3 ≤ e.censusMiss) :
    e.age = ⟨none, some (.peerRemoved, some 0)⟩ := by
  rw [age_heard h, Entry.ageHeard, if_neg (mt (good_iff e).1 hg)]
  exact if_pos (show 4 ≤ e.censusMiss + 1 by omega)

end Heard

theorem countMisses_eq (e : Entry) :
    e.countMisses = { e with censusMiss := e.silentRun, markMiss := e.unmarkedRun } := by
  unfold Entry.countMisses Entry.silentRun Entry.unmarkedRun
  cases hf : e.framed with
  | true =>
    have hr := (framed_iff e).1 hf
    cases e.marked <;> simp [hr, satAdd]
  | false =>
    have hr := (not_framed_iff e).1 hf
    cases e.marked <;> simp [hr]

section Admitted

variable {e : Entry} (h : e.state = .admitted)
include h

/-- What an ADMITTED entry becomes turns on the cause that its counts give, if they give one. -/
theorem age_admitted : e.age =
    match ({ e with censusMiss := e.silentRun, markMiss := e.unmarkedRun } : Entry).suspicion with
    | some c => ⟨some { e with
        censusMiss := e.silentRun, markMiss := e.unmarkedRun
        state := .suspect, cause := some c, goodRun := 0, restore := 0 }, some (.peerSuspect, some c.code)⟩
    | none => ⟨some { e with censusMiss := e.silentRun, markMiss := e.unmarkedRun }, none⟩ := by
  simp only [Entry.age, h, Entry.ageAdmitted, countMisses_eq]
  rfl

theorem age_admitted_silent (hs : 3 ≤ e.silentRun) : e.age = ⟨some { e with
    censusMiss := e.silentRun, markMiss := e.unmarkedRun
    state := .suspect, cause := some .censusMiss, goodRun := 0, restore := 0 }, some (.peerSuspect, some 0)⟩ := by
  rw [age_admitted h, Entry.suspicion, if_pos hs]
  rfl

theorem age_admitted_unmarked (hs : e.silentRun < 3) (hu : 3 ≤ e.unmarkedRun) : e.age = ⟨some { e with
    censusMiss := e.silentRun, markMiss := e.unmarkedRun
    state := .suspect, cause := some .markMiss, goodRun := 0, restore := 0 }, some (.peerSuspect, some 1)⟩ := by
  rw [age_admitted h, Entry.suspicion, if_neg (Nat.not_le.2 hs), if_pos hu]
  rfl

theorem age_admitted_deviant (hs : e.silentRun < 3) (hu : e.unmarkedRun < 3) (hd : 8 ≤ e.deviation) :
    e.age = ⟨some { e with
      censusMiss := e.silentRun, markMiss := e.unmarkedRun
      state := .suspect, cause := some .deviation, goodRun := 0, restore := 0 }, some (.peerSuspect, some 2)⟩ := by
  rw [age_admitted h, Entry.suspicion, if_neg (Nat.not_le.2 hs), if_neg (Nat.not_le.2 hu), if_pos hd]
  rfl

theorem age_admitted_stays (hs : e.silentRun < 3) (hu : e.unmarkedRun < 3) (hd : e.deviation < 8) :
    e.age = ⟨some { e with censusMiss := e.silentRun, markMiss := e.unmarkedRun }, none⟩ := by
  rw [age_admitted h, Entry.suspicion, if_neg (Nat.not_le.2 hs), if_neg (Nat.not_le.2 hu), if_neg (Nat.not_le.2 hd)]

end Admitted

/-- Whether the evidence of its own kind restores a SUSPECT entry (R108). -/
@[reducible] def Entry.restored (e : Entry) : Prop :=
  if e.cause = some .deviation then 8 ≤ e.restore else 2 ≤ e.goodRunAfter

section Suspect

variable {e : Entry}

/-- A SUSPECT entry with the counts of this epoch (R108). -/
theorem countGood_eq (e : Entry) (n : Nat) :
    Entry.countGood { e with censusMiss := n } = { e with censusMiss := n, goodRun := e.goodRunAfter } := by
  have framed : ({ e with censusMiss := n } : Entry).framed = e.framed := rfl
  unfold Entry.countGood Entry.goodRunAfter
  rw [framed]
  dsimp only
  split
  next => rfl
  next =>
    by_cases hg : e.received ≠ .none ∧ e.marked = true
    · rw [if_pos ((good_iff e).2 hg), if_pos hg]
    · rw [if_neg (mt (good_iff e).1 hg), if_neg hg]

theorem cleared_iff (e : Entry) (n : Nat) :
    Entry.cleared { e with censusMiss := n, goodRun := e.goodRunAfter } = true ↔ e.restored := by
  unfold Entry.cleared Entry.restored
  dsimp only
  split <;> exact decide_eq_true_iff

variable (h : e.state = .suspect)
include h

theorem age_suspect : e.age =
    if 8 ≤ e.silentRun then ⟨none, some (.peerRemoved, some 0)⟩
    else if e.restored then ⟨some { e with
      state := .admitted, cause := none, goodRun := 0, censusMiss := 0, markMiss := 0, deviation := 0
      restore := 0 }, some (.peerRestored, none)⟩
    else ⟨some { e with censusMiss := e.silentRun, goodRun := e.goodRunAfter }, none⟩ := by
  have silent : (if e.framed then 0 else e.censusMiss + 1) = e.silentRun := by
    unfold Entry.silentRun
    cases hf : e.framed with
    | true => simp [(framed_iff e).1 hf]
    | false => simp [(not_framed_iff e).1 hf]
  have aged : e.age = e.ageSuspect := by simp only [Entry.age, h]
  rw [aged, Entry.ageSuspect, silent]
  dsimp only
  rw [countGood_eq]
  simp only [cleared_iff]
  rfl

theorem age_suspect_removed (hs : 8 ≤ e.silentRun) : e.age = ⟨none, some (.peerRemoved, some 0)⟩ := by
  rw [age_suspect h, if_pos hs]

theorem age_suspect_restored (hs : e.silentRun < 8) (hr : e.restored) : e.age = ⟨some { e with
    state := .admitted, cause := none, goodRun := 0, censusMiss := 0, markMiss := 0, deviation := 0
    restore := 0 }, some (.peerRestored, none)⟩ := by
  rw [age_suspect h, if_neg (Nat.not_le.2 hs), if_pos hr]

theorem age_suspect_stays (hs : e.silentRun < 8) (hr : ¬ e.restored) :
    e.age = ⟨some { e with censusMiss := e.silentRun, goodRun := e.goodRunAfter }, none⟩ := by
  rw [age_suspect h, if_neg (Nat.not_le.2 hs), if_neg hr]

end Suspect

/-- An entry that stays keeps its ID. -/
theorem age_id {e x : Entry} (h : e.age.entry = some x) : x.id = e.id := by
  cases hs : e.state with
  | heard =>
    by_cases hg : e.received ≠ .none ∧ e.marked = true
    · obtain hn | hn := Nat.lt_or_ge e.goodRun 3
      · rw [age_heard_good hs hg hn] at h; cases h; rfl
      · rw [age_heard_admitted hs hg hn] at h; cases h; rfl
    · obtain hn | hn := Nat.lt_or_ge e.censusMiss 3
      · rw [age_heard_missed hs hg hn] at h; cases h; rfl
      · rw [age_heard_removed hs hg hn] at h; cases h
  | admitted =>
    rw [age_admitted hs] at h
    split at h <;> (cases h; rfl)
  | suspect =>
    rw [age_suspect hs] at h
    split at h
    · cases h
    · split at h <;> (cases h; rfl)

/-! ## Masks (R113) -/

theorem maskHas_maskOf_pair (a b k : NodeId) : maskHas (maskOf [a, b]) k = (decide (k = a) || decide (k = b)) := by
  revert a b k
  decide

/-- Two masks agree where they hold the same IDs, both nodes' own apart. -/
theorem masksAgree_iff (own k : NodeId) (x y : Mask) :
    masksAgree own k x y = true ↔ ∀ j : NodeId, j ≠ own → j ≠ k → maskHas x j = maskHas y j := by
  have bit (z : Mask) (j : NodeId) :
      (z ||| maskOf [own, k]).getLsbD j.val = (maskHas z j || (decide (j = own) || decide (j = k))) := by
    rw [BitVec.getLsbD_or]
    exact congrArg _ (maskHas_maskOf_pair own k j)
  rw [masksAgree, decide_eq_true_iff]
  constructor
  · intro h j hown hk
    have same := congrArg (fun z : Mask => z.getLsbD j.val) h
    rw [bit, bit] at same
    simpa only [hown, hk, decide_false, Bool.or_false] using same
  · intro h
    refine BitVec.eq_of_getLsbD_eq fun i hi => ?_
    rw [bit x ⟨i, hi⟩, bit y ⟨i, hi⟩]
    by_cases hown : (⟨i, hi⟩ : NodeId) = own
    · simp [hown]
    · by_cases hk : (⟨i, hi⟩ : NodeId) = k
      · simp [hk]
      · rw [h _ hown hk]

section Compare

variable {own : NodeId} {e : Entry}

theorem compareMasks_passed {opening : Option Mask}
    (h : opening = none ∨ e.state ≠ .admitted ∨ e.received ≠ .census) : e.compareMasks own opening = (e, none) := by
  have absent (hc : e.comparable = none) : e.compareMasks own opening = (e, none) := by
    unfold Entry.compareMasks
    rw [hc]
    cases opening <;> rfl
  obtain rfl | h := h
  · rfl
  · refine absent (if_neg fun hc => ?_)
    exact h.elim (· hc.1) (· hc.2)

variable {x : Mask} {d : Declared} (hs : e.state = .admitted) (hr : e.received = .census) (hd : e.declared = some d)
include hs hr hd

theorem compareMasks_declared : e.compareMasks own (some x) =
    if masksAgree own e.id x d.mask then ({ e with mismatch := 0, mismatchPosted := false }, none)
    else if 8 ≤ min 8 (e.mismatch + 1) ∧ e.mismatchPosted = false then
      ({ e with mismatch := min 8 (e.mismatch + 1), mismatchPosted := true },
        some (BitVec.ofNat 32 (x.toNat * 65536 + d.mask.toNat)))
    else ({ e with mismatch := min 8 (e.mismatch + 1) }, none) := by
  have comparable : e.comparable = some d.mask := by simp [Entry.comparable, hs, hr, hd]
  unfold Entry.compareMasks
  rw [comparable]
  rfl

theorem compareMasks_agree (h : ∀ k : NodeId, k ≠ own → k ≠ e.id → maskHas x k = maskHas d.mask k) :
    e.compareMasks own (some x) = ({ e with mismatch := 0, mismatchPosted := false }, none) := by
  rw [compareMasks_declared hs hr hd, if_pos ((masksAgree_iff own e.id x d.mask).2 h)]

variable (h : ¬ ∀ k : NodeId, k ≠ own → k ≠ e.id → maskHas x k = maskHas d.mask k)
include h

theorem compareMasks_counted (hn : e.mismatch < 7 ∨ e.mismatchPosted = true) :
    e.compareMasks own (some x) = ({ e with mismatch := min 8 (e.mismatch + 1) }, none) := by
  rw [compareMasks_declared hs hr hd, if_neg (mt (masksAgree_iff own e.id x d.mask).1 h), if_neg]
  rintro ⟨full, unposted⟩
  obtain hn | hn := hn
  · omega
  · simp [hn] at unposted

theorem compareMasks_posted (hn : 7 ≤ e.mismatch) (hp : e.mismatchPosted = false) :
    e.compareMasks own (some x) = ({ e with mismatch := 8, mismatchPosted := true },
      some (BitVec.ofNat 32 (x.toNat * 65536 + d.mask.toNat))) := by
  have eighth : min 8 (e.mismatch + 1) = 8 := by omega
  rw [compareMasks_declared hs hr hd, if_neg (mt (masksAgree_iff own e.id x d.mask).1 h), eighth,
    if_pos ⟨Nat.le_refl 8, hp⟩]

end Compare

@[simp] theorem compareMasks_id (own : NodeId) (opening : Option Mask) (e : Entry) :
    (e.compareMasks own opening).1.id = e.id := by
  unfold Entry.compareMasks
  split
  · split
    · rfl
    · dsimp only
      split <;> rfl
  · rfl

/-! ## One entry in the roster (R101, R105, R143) -/

/-- An entry after its ageing and its comparison, with the value of its mismatch event, where it stays (R106 to R108,
R113). -/
def State.comparedEntry (s : State) (e : Entry) : Option (Entry × Option (BitVec 32)) :=
  e.age.entry.map (fun x => x.compareMasks s.mem.nodeId s.roster.openingMask)

/-- The events of an entry, its state event before its mismatch event (R105). -/
def State.entryPostings (s : State) (e : Entry) : List Posting :=
  (match e.age.event with
    | some (kind, v) => [(⟨.roster, s.ts.epoch, kind, some e.id, v.map signed32, none⟩ : Posting)]
    | none => []) ++
  (match (s.comparedEntry e).bind (·.2) with
    | some m => [⟨.roster, s.ts.epoch, .rosterMismatch, some e.id, some m, none⟩]
    | none => [])

/-- Whether the ageing of some of the entries removes an ID. -/
def agedOut (entries : List Entry) (k : NodeId) : Bool := entries.any (fun e => e.id == k && e.age.entry.isNone)

/-- The state after entries have been aged and compared, `left` standing in the roster (R101, R105, R143). -/
def State.exchanged (left aged : List Entry) (s : State) : State :=
  { s with
    roster := { s.roster with
      entries := left
      fullPosted := if aged.any (fun e => e.age.entry.isNone) then [] else s.roster.fullPosted }
    solver := { s.solver with
      lastC := s.solver.lastC.filter (fun k => !agedOut aged k)
      lastA := s.solver.lastA.filter (fun k => !agedOut aged k) }
    port.outbox := s.port.outbox ++ aged.flatMap s.entryPostings }

theorem postAged_eq (s : State) (k : NodeId) (x : Option (EventKind × Option Int)) : s.postAged k x = { s with
    port.outbox := s.port.outbox ++ (match x with
      | some (kind, v) => [(⟨.roster, s.ts.epoch, kind, some k, v.map signed32, none⟩ : Posting)]
      | none => []) } := by
  obtain _ | ⟨kind, v⟩ := x
  · simp [State.postAged]
  · rfl

theorem postMismatch_eq (s : State) (k : NodeId) (x : Option (BitVec 32)) : s.postMismatch k x = { s with
    port.outbox := s.port.outbox ++ (match x with
      | some m => [(⟨.roster, s.ts.epoch, .rosterMismatch, some k, some m, none⟩ : Posting)]
      | none => []) } := by
  cases x with
  | none => simp [State.postMismatch]
  | some m => rfl

/-- Entries of other IDs stand as they were when one is replaced or removed. -/
theorem replaceEntry_others {e : Entry} {entries : List Entry} (h : ∀ x ∈ entries, x.id ≠ e.id) :
    replaceEntry e entries = entries := by
  rw [replaceEntry, List.map_congr_left fun x hx => if_neg (h x hx)]
  exact List.map_id' _

theorem filter_others {k : NodeId} {entries : List Entry} (h : ∀ x ∈ entries, x.id ≠ k) :
    entries.filter (fun e => e.id ≠ k) = entries :=
  List.filter_eq_self.2 fun x hx => decide_eq_true (h x hx)

/-- An entry aged and compared, in its place among the others. -/
theorem ageEntry_eq {s : State} {e : Entry} {before after : List Entry}
    (hs : s.roster.entries = before ++ e :: after) (hb : ∀ x ∈ before, x.id ≠ e.id) (ha : ∀ x ∈ after, x.id ≠ e.id) :
    s.ageEntry e = s.exchanged (before ++ ((s.comparedEntry e).map (·.1)).toList ++ after) [e] := by
  cases he : e.age.entry with
  | none =>
    have left : s.roster.entries.filter (fun x => x.id ≠ e.id) = before ++ after := by
      rw [hs, List.filter_append, filter_others hb, List.filter_cons_of_neg (by simp), filter_others ha]
    have gone : agedOut [e] = fun k => decide (k = e.id) := by
      funext k
      simp [agedOut, he, beq_eq_decide, eq_comm]
    simp only [State.ageEntry, he, postAged_eq, State.dropEntry, left, Solver.forget, State.exchanged, gone,
      List.flatMap_singleton, State.entryPostings, State.comparedEntry]
    simp [he]
  | some x =>
    have id : (x.compareMasks s.mem.nodeId s.roster.openingMask).1.id = e.id := by rw [compareMasks_id, age_id he]
    have left : replaceEntry (x.compareMasks s.mem.nodeId s.roster.openingMask).1 s.roster.entries =
        before ++ (x.compareMasks s.mem.nodeId s.roster.openingMask).1 :: after := by
      rw [hs, replaceEntry, List.map_append, List.map_cons, ← replaceEntry, ← replaceEntry,
        replaceEntry_others (by rwa [id]), replaceEntry_others (by rwa [id]), if_pos id.symm]
    have gone : agedOut [e] = fun _ => false := by
      funext k
      simp [agedOut, he]
    simp only [State.ageEntry, he, postAged_eq, postMismatch_eq, left, State.exchanged, gone,
      List.flatMap_singleton, State.entryPostings, State.comparedEntry]
    simp [he]

/-! ## The whole roster (R105) -/

theorem comparedEntry_id {s : State} {e x : Entry} (h : (s.comparedEntry e).map (·.1) = some x) : x.id = e.id := by
  rw [State.comparedEntry, Option.map_map] at h
  obtain ⟨y, hy, rfl⟩ := Option.map_eq_some_iff.1 h
  exact (compareMasks_id _ _ y).trans (age_id hy)

/-- The entries that stay are of those aged. -/
theorem comparedEntries_ids (s : State) (aged : List Entry) :
    ((aged.filterMap (fun e => (s.comparedEntry e).map (·.1))).map Entry.id).Sublist (aged.map Entry.id) := by
  induction aged with
  | nil => exact List.Sublist.refl _
  | cons e rest ih =>
    rw [List.filterMap_cons]
    split
    next => exact ih.cons _
    next x hx =>
      rw [List.map_cons, List.map_cons, comparedEntry_id hx]
      exact ih.cons_cons _

/-- What has been aged, and what is aged next, make up what is aged in all. -/
theorem exchanged_exchanged (s : State) (left left' aged aged' : List Entry) :
    (s.exchanged left aged).exchanged left' aged' = s.exchanged left' (aged ++ aged') := by
  have gone (k : NodeId) : agedOut (aged ++ aged') k = (agedOut aged k || agedOut aged' k) := by simp [agedOut]
  have postings : (s.exchanged left aged).entryPostings = s.entryPostings := rfl
  have emptied (p q : Bool) (xs : List NodeId) :
      (if q = true then [] else if p = true then [] else xs) = if (p || q) = true then [] else xs := by
    cases p <;> cases q <;> rfl
  rw [State.exchanged, postings]
  simp only [State.exchanged, gone, emptied, List.any_append, List.flatMap_append, List.append_assoc,
    List.filter_filter, Bool.not_or, Bool.and_comm]

/-- Entries aged and compared one after another, those done standing before them. -/
theorem foldl_ageEntry_eq (aged : List Entry) {s : State} {done : List Entry}
    (hs : s.roster.entries = done ++ aged) (hd : ((done ++ aged).map Entry.id).Nodup) :
    aged.foldl (fun s e => s.ageEntry e) s =
      s.exchanged (done ++ aged.filterMap (fun e => (s.comparedEntry e).map (·.1))) aged := by
  induction aged generalizing s done with
  | nil => simp [State.exchanged, agedOut, ← hs]
  | cons e rest ih =>
    have left : ((s.comparedEntry e).map (·.1)).toList.map Entry.id |>.Sublist [e.id] := by
      cases he : (s.comparedEntry e).map (·.1) with
      | none => simp
      | some x => simp [comparedEntry_id he]
    have apart : (done.map Entry.id ++ ([e.id] ++ rest.map Entry.id)).Nodup := by simpa using hd
    have next : (done ++ ((s.comparedEntry e).map (·.1)).toList ++ rest).map Entry.id |>.Nodup := by
      simp only [List.map_append, List.append_assoc]
      exact apart.sublist ((List.Sublist.refl _).append (left.append (List.Sublist.refl _)))
    have joined : done ++ ((s.comparedEntry e).map (·.1)).toList ++
        rest.filterMap (fun e => (s.comparedEntry e).map (·.1)) =
          done ++ (e :: rest).filterMap (fun e => (s.comparedEntry e).map (·.1)) := by
      rw [List.append_assoc, List.filterMap_cons]
      cases (s.comparedEntry e).map (·.1) <;> rfl
    obtain ⟨-, tail, apartFrom⟩ := List.nodup_append.1 apart
    have before : ∀ x ∈ done, x.id ≠ e.id := fun x hx => apartFrom _ (List.mem_map_of_mem hx) _ (by simp)
    have after : ∀ x ∈ rest, x.id ≠ e.id := fun x hx same =>
      (List.nodup_cons.1 tail).1 (same ▸ List.mem_map_of_mem hx)
    rw [List.foldl_cons, ageEntry_eq hs before after]
    exact (ih rfl next).trans ((exchanged_exchanged s _ _ [e] rest).trans (by rw [← joined]; rfl))

/-- Steps 4 to 6 of the exchange: each entry by itself (R105). -/
theorem rosterAge_eq (s : State) (verdicts : NodeId → Verdict) (h : ascending s.roster.entries) :
    let judged := s.roster.entries.map (fun e => e.applyVerdict (verdicts e.id))
    s.rosterAge verdicts = s.exchanged (judged.filterMap (fun e => (s.comparedEntry e).map (·.1))) judged := by
  intro judged
  have ids : judged.map Entry.id = s.roster.entries.map Entry.id := by simp [judged]
  have apart : (([] ++ judged).map Entry.id).Nodup := by
    rw [List.nil_append, ids]
    exact (List.pairwise_map.2 ((ascending_iff_pairwise _).1 h)).imp ne_of_lt
  exact foldl_ageEntry_eq judged (s := { s with roster.entries := judged }) rfl apart


/-! ## Epoch numbers (R115, R116) -/

section Run

variable {r : DiffRow}

theorem run_unheard (h : r.now = none) : r.run = { r with runCount := 0 } := by simp only [DiffRow.run, h]

variable {c : DiffColumns} (h : r.now = some c)
include h

theorem run_heard : r.run =
    if c.diff = 0 then { r with runCount := 0 }
    else if c.diff = r.runDiff ∧ 1 ≤ r.runCount then { r with runCount := min 3 (r.runCount + 1) }
    else { r with runDiff := c.diff, runCount := 1 } := by
  simp only [DiffRow.run, h]
  rfl

theorem run_ends (hd : c.diff = 0) : r.run = { r with runCount := 0 } := by rw [run_heard h, if_pos hd]

theorem run_lasts (hd : c.diff ≠ 0) (hr : c.diff = r.runDiff) (hn : 1 ≤ r.runCount) :
    r.run = { r with runCount := min 3 (r.runCount + 1) } := by
  rw [run_heard h, if_neg hd, if_pos ⟨hr, hn⟩]

theorem run_begins (hd : c.diff ≠ 0) (hn : c.diff ≠ r.runDiff ∨ r.runCount = 0) :
    r.run = { r with runDiff := c.diff, runCount := 1 } := by
  rw [run_heard h, if_neg hd, if_neg]
  rintro ⟨hr, hn'⟩
  obtain hn | hn := hn
  · exact hn hr
  · omega

end Run

/-- The row whose difference a node adopts (R116): that of the lowest-ID anchored sender, or, where none declared
ANCHORED, that of the lowest-ID sender below the own ID. -/
def adoptsRow (own : NodeId) (rows : List DiffRow) (r : DiffRow) : Prop :=
  r.runCount = 3 ∧
    (rows.find? (·.anchored) = some r ∨
      (rows.find? (·.anchored) = none ∧ rows.find? (fun x => x.now.isSome) = some r ∧ r.id < own))

theorem adoptedDifference_of_adoptsRow {own : NodeId} {rows : List DiffRow} {r : DiffRow}
    (h : adoptsRow own rows r) : adoptedDifference own rows = some r.runDiff := by
  obtain ⟨lasts, ha | ⟨ha, hf, hid⟩⟩ := h
  · simp [adoptedDifference, ha, lasts]
  · simp [adoptedDifference, ha, hf, hid, lasts]

theorem adoptedDifference_none {own : NodeId} {rows : List DiffRow} (h : ∀ r, ¬ adoptsRow own rows r) :
    adoptedDifference own rows = none := by
  unfold adoptedDifference
  split
  next r ha => exact if_neg fun lasts => h r ⟨lasts, .inl ha⟩
  next ha =>
    split
    next r hf => exact if_neg fun hn => h r ⟨hn.2, .inr ⟨ha, hf, hn.1⟩⟩
    next => rfl

section Numbers

variable {s : State}

theorem rosterNumbers_outside (h : s.mem.state ≠ .member) : s.rosterNumbers = s := if_neg h

variable (h : s.mem.state = .member)
include h

theorem rosterNumbers_passed (hn : s.roster.adoptionOutstanding = true ∨ s.solver.timing = .anchored ∨
      ∀ r, ¬ adoptsRow s.mem.nodeId (s.roster.diffs.map DiffRow.run) r) :
    s.rosterNumbers = { s with roster.diffs := s.roster.diffs.map DiffRow.run } := by
  refine (if_pos h).trans ?_
  dsimp only
  split
  next => rfl
  next free =>
    have none_adopted := hn.resolve_left (fun ho => free (.inl ho)) |>.resolve_left (fun ht => free (.inr ht))
    rw [adoptedDifference_none none_adopted]

theorem rosterNumbers_adopts {r : DiffRow} (ho : s.roster.adoptionOutstanding = false)
    (ht : s.solver.timing ≠ .anchored) (ha : adoptsRow s.mem.nodeId (s.roster.diffs.map DiffRow.run) r) :
    s.rosterNumbers = { s with
      roster.diffs := s.roster.diffs.map DiffRow.run
      ts.pendAdopt := some (s.ts.epoch + r.runDiff)
      roster.adoptionOutstanding := true } := by
  refine (if_pos h).trans ?_
  dsimp only
  rw [if_neg (by simp [ho, ht]), adoptedDifference_of_adoptsRow ha]
  rfl

end Numbers

/-- Settles O29: the marks, the whole roster by `rosterAge_eq`, verdicts, ageing state by state, masks, runs, and the
number adopted. -/
theorem solvePointExchangeAgesTheRoster : Obligations.SolvePointExchangeAgesTheRoster := by
  unfold Obligations.SolvePointExchangeAgesTheRoster
  refine ⟨fun s verdicts h => ?_, fun e => ⟨rfl, rfl, rfl, rfl, notJudged_deviant, notJudged_other⟩, fun e => ?_,
    fun own opening e => ⟨compareMasks_passed, ?_⟩, fun r => ⟨run_unheard, fun c h => ⟨run_ends h, run_lasts h,
      run_begins h⟩⟩, fun s => ?_⟩
  · intro aged compared gone posted t
    refine ⟨rosterMarks_eq s, ?_, rfl⟩
    have removed : agedOut (s.roster.entries.map (fun e => e.applyVerdict (verdicts e.id))) = gone := by
      funext k
      simp only [agedOut, List.any_map, Function.comp_def, applyVerdict_id, gone, aged]
    have postings (e : Entry) : s.entryPostings (e.applyVerdict (verdicts e.id)) = posted e := by
      rw [State.entryPostings, applyVerdict_id]
      rfl
    rw [rosterAge_eq s verdicts h, State.exchanged, removed, List.filterMap_map, List.any_map, List.flatMap_map]
    simp only [postings]
    rfl
  · intro good
    refine ⟨fun h => ⟨age_heard_good h, age_heard_admitted h, age_heard_missed h, age_heard_removed h⟩, fun h => ?_,
      fun h => ?_⟩
    · exact ⟨age_admitted_silent h, age_admitted_unmarked h, age_admitted_deviant h, age_admitted_stays h⟩
    · exact ⟨age_suspect_removed h, age_suspect_restored h, age_suspect_stays h⟩
  · rintro x d rfl hs hr hd
    exact ⟨compareMasks_agree hs hr hd, compareMasks_counted hs hr hd, compareMasks_posted hs hr hd⟩
  · intro rows v adopts
    exact ⟨rosterNumbers_outside, rosterNumbers_passed, fun r h => rosterNumbers_adopts h⟩

end Sys2Proof.Machine

/-! # The roster keeps its form (R99, R100) -/

namespace Sys2Proof.Machine

open Sys2Proof

/-! ## Entries that may stand in the roster (R100) -/

/-- Entries as a node of an ID, with an admission mask, may hold them. -/
def Seated (own : NodeId) (admission : Mask) (entries : List Entry) : Prop :=
  entries.length ≤ 8 ∧ ascending entries ∧ ∀ e ∈ entries, e.id ≠ own ∧ maskHas admission e.id = true

theorem rosterForm_iff (s : State) : RosterForm s ↔
    Seated s.mem.nodeId s.cfg.admission s.roster.entries ∧
    (s.begun = false → s.mark.capture = none ∧ s.roster.entries = []) ∧
    (s.pins.resetHeld = true → s.begun = false ∧ s.port.transaction = none) := by
  simp only [RosterForm, Seated, and_assoc]

theorem seated_nil (own : NodeId) (admission : Mask) : Seated own admission [] :=
  ⟨Nat.zero_le 8, trivial, List.forall_mem_nil _⟩

/-- Whether entries may stand is a matter of their IDs. -/
theorem seated_iff_ids (own : NodeId) (admission : Mask) (entries : List Entry) :
    Seated own admission entries ↔
      (entries.map Entry.id).length ≤ 8 ∧ (entries.map Entry.id).Pairwise (· < ·) ∧
        ∀ k ∈ entries.map Entry.id, k ≠ own ∧ maskHas admission k = true := by
  simp [Seated, ascending_iff_pairwise, List.pairwise_map]

/-- Entries that are removed, or written in place, leave the others as they may stand. -/
theorem Seated.of_ids {own : NodeId} {admission : Mask} {entries left : List Entry} (h : Seated own admission entries)
    (ids : (left.map Entry.id).Sublist (entries.map Entry.id)) : Seated own admission left := by
  rw [seated_iff_ids] at h ⊢
  obtain ⟨few, rise, each⟩ := h
  exact ⟨ids.length_le.trans few, rise.sublist ids, fun k hk => each k (ids.subset hk)⟩

theorem replaceEntry_ids (e : Entry) (entries : List Entry) :
    (replaceEntry e entries).map Entry.id = entries.map Entry.id := by
  rw [replaceEntry, List.map_map]
  refine List.map_congr_left fun x _ => ?_
  simp only [Function.comp]
  split
  next h => exact h.symm
  next => rfl

/-! ## What keeps the form -/

/-- The roster keeps its form where its entries are removed or written in place, and the node ID, the record, and the
beginning and the reset of the part are left alone; before BEGIN no capture set is opened and no transaction begun. -/
theorem RosterForm.of_kept {s t : State} (h : RosterForm s) (held : t.pins.resetHeld = s.pins.resetHeld)
    (nodeId : t.mem.nodeId = s.mem.nodeId) (record : t.port.record = s.port.record)
    (ids : (t.roster.entries.map Entry.id).Sublist (s.roster.entries.map Entry.id)) (begun : t.begun = s.begun)
    (before : s.begun = false →
      (s.mark.capture = none → t.mark.capture = none) ∧ t.port.transaction = s.port.transaction) : RosterForm t := by
  rw [rosterForm_iff] at h ⊢
  obtain ⟨seated, inert, reset⟩ := h
  refine ⟨?_, fun hb => ?_, fun hr => ?_⟩
  · rw [nodeId, State.cfg, record]
    exact seated.of_ids ids
  · rw [begun] at hb
    obtain ⟨closed, empty⟩ := inert hb
    rw [empty] at ids
    exact ⟨(before hb).1 closed, by simpa using ids⟩
  · obtain ⟨unbegun, none⟩ := reset (held.symm.trans hr)
    exact ⟨begun.trans unbegun, (before unbegun).2.trans none⟩

/-- Work that moves nothing of all that. -/
theorem RosterForm.of_same {s t : State} (h : RosterForm s)
    (same : t.pins.resetHeld = s.pins.resetHeld ∧ t.mem = s.mem ∧ t.mark = s.mark ∧ t.roster = s.roster ∧
      t.port.record = s.port.record ∧ t.port.transaction = s.port.transaction) : RosterForm t := by
  obtain ⟨held, mem, mark, roster, record, transaction⟩ := same
  exact h.of_kept held (by rw [mem]) record (by rw [roster]) (by rw [State.begun, mem]; rfl)
    fun _ => ⟨by rw [mark]; exact id, transaction⟩

/-- Work on the roster, the solver and the event queue has the entries' own rule to meet. -/
theorem RosterForm.of_ids {s t : State} (h : RosterForm s)
    (ids : (t.roster.entries.map Entry.id).Sublist (s.roster.entries.map Entry.id))
    (same : t.pins = s.pins ∧ t.mem = s.mem ∧ t.mark = s.mark ∧ t.port.record = s.port.record ∧
      t.port.transaction = s.port.transaction) : RosterForm t := by
  obtain ⟨pins, mem, mark, record, transaction⟩ := same
  exact h.of_kept (by rw [pins]) (by rw [mem]) record ids (by rw [State.begun, mem]; rfl)
    fun _ => ⟨by rw [mark]; exact id, transaction⟩

/-- A capture set is open from BEGIN on alone (R39, R99). -/
theorem RosterForm.begun_of_capture {s : State} (h : RosterForm s) (hc : s.mark.capture ≠ none) : s.begun = true := by
  obtain ⟨-, inert, -⟩ := (rosterForm_iff s).1 h
  by_contra hb
  exact hc (inert (Bool.eq_false_iff.2 hb)).1

/-- A slot that reads ONE is another node's, in an open set (R54). -/
theorem readSlot_isOne {s : State} {k : NodeId} (h : (s.readSlot k).isOne = true) :
    k ≠ s.mem.nodeId ∧ s.mark.capture ≠ none := by
  unfold State.readSlot at h
  split at h
  next c hc =>
    split at h
    next => simp [SlotReading.isOne] at h
    next hk => exact ⟨hk, by simp [hc]⟩
  next => simp [SlotReading.isOne] at h

section Time

variable {s : State} (h : RosterForm s)
include h

theorem runTo_rosterForm (p : Nat) : RosterForm (s.runTo p) := h

theorem raise_rosterForm (p : PhasePoint) : RosterForm (s.raise p) := h

theorem runToEnd_rosterForm : RosterForm s.runToEnd := h

theorem advance_rosterForm (d : Nat) : RosterForm (s.advance d) := by
  unfold State.advance
  split <;> exact h

theorem settle_rosterForm : RosterForm s.settle := h.of_same (by simp)

end Time

/-! ## The generators and the temperature unit (R148 to R173) -/

section Generators

variable {s : State} (h : RosterForm s)
include h

theorem startPulse_rosterForm (i : Fin 4) : RosterForm (s.startPulse i) := by
  unfold State.startPulse
  split <;> exact h

theorem filteredBecomes_rosterForm (level : Bool) : RosterForm (s.filteredBecomes level) := by
  unfold State.filteredBecomes
  dsimp only
  repeat' split
  all_goals exact h

theorem inhibitTaken_rosterForm (a : Bool) : RosterForm (s.inhibitTaken a) := by
  unfold State.inhibitTaken
  dsimp only
  repeat' split
  all_goals exact h

theorem clearInhibit_rosterForm : RosterForm s.clearInhibit := by
  unfold State.clearInhibit
  split <;> exact h

theorem takeSample_rosterForm (die : Int) : RosterForm (s.takeSample die) := by
  unfold State.takeSample State.judgeRange
  dsimp only
  repeat' split
  all_goals exact h

end Generators

/-! ## The reference qualifier and the solver (R19 to R36, R122 to R146) -/

section Solver

variable {s : State} (h : RosterForm s)
include h

theorem acceptEdge_rosterForm (c : RefCandidate) : RosterForm (s.acceptEdge c) := h.of_same (by simp)

theorem candidateAccepted_rosterForm : RosterForm s.candidateAccepted := by
  unfold State.candidateAccepted
  split
  · exact acceptEdge_rosterForm h _
  · exact h

theorem selectedTransition_rosterForm : RosterForm s.selectedTransition := by
  unfold State.selectedTransition
  dsimp only
  split
  · exact h
  · split
    · exact acceptEdge_rosterForm h _
    · exact h

theorem refinTaken_rosterForm (l : Level) : RosterForm (s.refinTaken l) := by
  unfold State.refinTaken
  dsimp only
  split
  · exact h
  · split
    · exact h
    · split
      · exact selectedTransition_rosterForm (by exact h)
      · exact h

theorem refvalidTaken_rosterForm (a : Bool) : RosterForm (s.refvalidTaken a) := by
  have lost (u : State) (hu : RosterForm u) : RosterForm u.refvalidLost := by
    unfold State.refvalidLost
    split
    · exact hu
    · exact hu.of_same (by simp)
  unfold State.refvalidTaken
  dsimp only
  split
  · exact h
  · split
    · exact lost _ (by exact h)
    · exact h

theorem refvalidPinBecomes_rosterForm (d : Nat) (a : Bool) : RosterForm (s.refvalidPinBecomes d a) := by
  have advanced := advance_rosterForm h d
  rw [refvalidPinBecomes_eq]
  split
  · exact refvalidTaken_rosterForm (by exact advanced) _
  · exact advanced

theorem referenceTaken_rosterForm : RosterForm s.referenceTaken := by
  have chosen : RosterForm (s.choose false [true]).2 := by exact h
  unfold State.referenceTaken
  dsimp only
  split
  · split
    · exact refinTaken_rosterForm (refvalidTaken_rosterForm chosen _) _
    · exact refvalidTaken_rosterForm (refinTaken_rosterForm chosen _) _
  · exact refvalidTaken_rosterForm (refinTaken_rosterForm h _) _

theorem solveOpens_rosterForm (v : SolveView) : RosterForm (s.solveOpens v) := by
  rw [solveOpens_eq]
  exact h

theorem applySource_rosterForm (v : SolveView) : RosterForm (s.applySource v) := by
  unfold State.applySource
  exact h.of_same (by simp)

theorem endDispute_rosterForm : RosterForm s.endDispute := by
  unfold State.endDispute State.requestUndisputed
  split <;> exact h

theorem countUndispute_rosterForm : RosterForm s.countUndispute := by
  have ended := endDispute_rosterForm h
  unfold State.countUndispute
  dsimp only
  split
  · exact ended
  · exact h

theorem judgeUndispute_rosterForm (v : SolveView) : RosterForm (s.judgeUndispute v) := by
  have ended := endDispute_rosterForm h
  have counted := countUndispute_rosterForm h
  unfold State.judgeUndispute
  repeat' split
  case _ => exact ended
  case _ => exact counted
  case _ => exact h
  case _ => exact h
  case _ => exact h

theorem judgeSplit_rosterForm (v : SolveView) : RosterForm (s.judgeSplit v) := by
  unfold State.judgeSplit
  repeat' split
  all_goals exact h

theorem dispute_rosterForm (v : SolveView) : RosterForm (s.dispute v) := by
  by_cases hq : s.ref.state = .qualified
  · rw [dispute_qualified hq]
    exact applySource_rosterForm (by exact h) v
  · rw [dispute_refused hq]
    exact applySource_rosterForm (by exact h) v

theorem judgeDispute_rosterForm (v : SolveView) : RosterForm (s.judgeDispute v) := by
  have disputed := dispute_rosterForm h v
  unfold State.judgeDispute
  repeat' split
  case _ => exact h
  case _ => exact h
  case _ => exact disputed
  case _ => exact h
  case _ => exact h

theorem settleSource_rosterForm (v : SolveView) : RosterForm (s.settleSource v) := by
  have sourced := applySource_rosterForm (judgeUndispute_rosterForm h v) v
  unfold State.settleSource State.judgeAnchors
  split
  · exact judgeDispute_rosterForm (judgeSplit_rosterForm sourced v) v
  · exact sourced

theorem judgeSelf_rosterForm (p : PhaseError) : RosterForm (s.judgeSelf p) := by
  unfold State.judgeSelf
  repeat' split
  all_goals exact h

theorem judgeLock_rosterForm (v : SolveView) (e : Int) : RosterForm (s.judgeLock v e) := by
  have lock (u : State) (hu : RosterForm u) : RosterForm (u.lock v) := by
    unfold State.lock
    split
    · exact hu.of_same (by simp)
    · exact hu
  unfold State.judgeLock
  dsimp only
  split
  · split
    · exact lock _ (by exact h)
    · exact h
  · exact h

theorem correctF_rosterForm (e : Int) : RosterForm (s.correctF e) := by
  unfold State.correctF
  dsimp only
  split <;> exact h

theorem steer_rosterForm (v : SolveView) (p : PhaseError) : RosterForm (s.steer v p).2 := by
  unfold State.steer
  dsimp only
  split
  · split <;> exact h
  · split
    · exact RosterForm.of_same (s := s) h (by simp)
    · dsimp only
      split
      · exact judgeLock_rosterForm (correctF_rosterForm (by exact h) _) v _
      · exact correctF_rosterForm (by exact h) _

theorem updateBound_rosterForm (v : SolveView) (p : PhaseError) : RosterForm (s.updateBound v p) := by
  unfold State.updateBound State.setBound
  split
  · exact h.of_same (by simp)
  · split <;> exact h.of_same ⟨rfl, rfl, rfl, rfl, rfl, rfl⟩

end Solver

/-! ## The roster's own work (R100 to R110, R114, R117) -/

@[simp] theorem entryTakes_id (s : State) (f : Frame) (e : Entry) : (s.entryTakes f e).id = e.id := by
  have recorded : (e.record f s.ts.epoch).id = e.id := by cases f <;> rfl
  rw [entryTakes_eq]
  unfold Entry.sampledBy
  split <;> exact recorded

section Roster

variable {s : State} (h : RosterForm s)
include h

theorem noteDifference_rosterForm (k : NodeId) (e : Epoch) (t : TimingState) :
    RosterForm (s.noteDifference k e t) := by
  unfold State.noteDifference
  split <;> exact h

theorem noteFrame_rosterForm (f : Frame) : RosterForm (s.noteFrame f) := by
  cases f with
  | census k e cls d obs => exact noteDifference_rosterForm h k e d.timing
  | join | leave => exact h

theorem replaced_rosterForm (e : Entry) :
    RosterForm { s with roster.entries := replaceEntry e s.roster.entries } :=
  h.of_ids (by rw [replaceEntry_ids]) ⟨rfl, rfl, rfl, rfl, rfl⟩

/-- A new entry is another node's, permitted and unseated so far, and finds a place free (R100). -/
theorem entered_rosterForm {e : Entry} (entering : s.mayEnter e.id) (unseated : ∀ x ∈ s.roster.entries, x.id ≠ e.id)
    (room : s.roster.entries.length < 8) :
    RosterForm { s with roster.entries := insertEntry e s.roster.entries } := by
  obtain ⟨admitted, one⟩ := entering
  obtain ⟨other, opened⟩ := readSlot_isOne one
  have begun := h.begun_of_capture opened
  obtain ⟨⟨-, rise, each⟩, -, reset⟩ := (rosterForm_iff s).1 h
  refine (rosterForm_iff _).2 ⟨⟨?_, insertEntry_ascending unseated rise, fun x hx => ?_⟩, fun hb => ?_, reset⟩
  · rw [insertEntry_length]
    exact room
  · obtain rfl | hx := (mem_insertEntry e x s.roster.entries).1 hx
    · exact ⟨other, admitted⟩
    · exact each x hx
  · exact absurd begun (by rw [show s.begun = false from hb]; decide)

theorem offerEntry_rosterForm {f : Frame} (unseated : ∀ x ∈ s.roster.entries, x.id ≠ f.sender) :
    RosterForm (s.offerEntry f) := by
  by_cases entering : s.mayEnter f.sender
  · by_cases room : s.roster.entries.length < 8
    · have taken : (s.entryTakes f (.new f.sender f.cls s.ts.epoch)).id = f.sender := entryTakes_id s f _
      rw [offerEntry_enters s entering room]
      exact entered_rosterForm h (by rwa [taken]) (by rwa [taken]) room
    · by_cases posted : f.sender ∈ s.roster.fullPosted
      · rwa [offerEntry_full_again s entering (Nat.not_lt.1 room) posted]
      · rw [offerEntry_full_first s entering (Nat.not_lt.1 room) posted]
        exact h
  · rwa [offerEntry_barred s entering]

theorem rosterTakes_rosterForm (f : Frame) : RosterForm (s.rosterTakes f) := by
  cases hf : s.roster.find f.sender with
  | some e =>
    rw [rosterTakes_known s hf]
    exact noteFrame_rosterForm (replaced_rosterForm h _) f
  | none =>
    have unseated : ∀ x ∈ s.roster.entries, x.id ≠ f.sender := by simpa [Roster.find] using hf
    rw [rosterTakes_unknown s hf]
    exact noteFrame_rosterForm (offerEntry_rosterForm h unseated) f

theorem rosterLeave_rosterForm (k : NodeId) (r : LeaveReason) : RosterForm (s.rosterLeave k r) := by
  unfold State.rosterLeave
  split
  · exact h.of_ids (List.filter_sublist.map _) ⟨rfl, rfl, rfl, rfl, rfl⟩
  · exact h

theorem rosterNotice_rosterForm (k : NodeId) (e : Epoch) (t : TimingState) : RosterForm (s.rosterNotice k e t) := by
  unfold State.rosterNotice
  dsimp only
  split
  · exact noteDifference_rosterForm (replaced_rosterForm h _) _ _ _
  · exact noteDifference_rosterForm h _ _ _

theorem rosterBoundary_rosterForm (ev : BoundaryEvent) : RosterForm (s.rosterBoundary ev) := by
  have rebased (shift : Epoch) : RosterForm { s with roster.entries := s.roster.entries.map (Entry.rebase shift) } :=
    h.of_ids (by rw [List.map_map]; exact List.Sublist.refl _) ⟨rfl, rfl, rfl, rfl, rfl⟩
  unfold State.rosterBoundary
  split
  · exact h
  · dsimp only
    split <;> exact rebased _

theorem rosterMarks_rosterForm : RosterForm s.rosterMarks := by
  rw [rosterMarks_eq]
  exact h.of_ids (by rw [List.map_map]; exact List.Sublist.refl _) ⟨rfl, rfl, rfl, rfl, rfl⟩

theorem rosterAge_rosterForm (verdicts : NodeId → Verdict) : RosterForm (s.rosterAge verdicts) := by
  obtain ⟨⟨-, rise, -⟩, -⟩ := (rosterForm_iff s).1 h
  rw [rosterAge_eq s verdicts rise]
  refine h.of_ids ?_ ⟨rfl, rfl, rfl, rfl, rfl⟩
  refine (comparedEntries_ids s (s.roster.entries.map (fun e => e.applyVerdict (verdicts e.id)))).trans ?_
  simp only [List.map_map, Function.comp_def, applyVerdict_id]
  exact List.Sublist.refl _

theorem rosterComplete_rosterForm (verdicts : NodeId → Verdict) : RosterForm (s.rosterComplete verdicts) := by
  have aged := rosterAge_rosterForm h verdicts
  obtain ⟨diffs, out, adopt, numbered⟩ := rosterNumbers_shape (s.rosterAge verdicts)
  unfold State.rosterComplete
  rw [numbered]
  exact aged.of_ids (by simp [Roster.clearEpoch, Function.comp_def]) ⟨rfl, rfl, rfl, rfl, rfl⟩

theorem handResults_rosterForm (c : Int) (verdicts : NodeId → Verdict) : RosterForm (s.handResults c verdicts) := by
  have completed := rosterComplete_rosterForm (s := s.handed c) h verdicts
  rw [handResults_shape]
  exact completed

theorem solvePoint_rosterForm : RosterForm s.solvePoint := by
  have closed : RosterForm s.closeInterval.2 := h.of_same (by simp)
  unfold State.solvePoint State.solve
  exact handResults_rosterForm (updateBound_rosterForm (steer_rosterForm (judgeSelf_rosterForm (settleSource_rosterForm
    (solveOpens_rosterForm (rosterMarks_rosterForm closed) _) _) _) _ _) _ _) _ _

end Roster

/-! ## The membership unit (R82 to R96) -/

/-- A state in which the membership unit works is one from BEGIN on. -/
theorem begun_of_state {s : State} {x : MembershipState} (h : s.mem.state = x) (hx : x ≠ .unconfigured) :
    s.begun = true := by
  simpa [State.begun, h] using hx

/-- BEGIN opens with an empty roster and no capture set (R84, R99, R185). -/
theorem begin_rosterForm {s : State} (held : s.pins.resetHeld = false) : RosterForm s.begin := by
  obtain ⟨-, -, -, -, -, -, empty⟩ := begin_rest s
  have begun : s.begin.begun = true := begun_of_state (x := .listen) (by rw [begin_mem]) nofun
  have pins : s.begin.pins = s.pins := by simp [begin_eq, State.blocksBegun]
  refine (rosterForm_iff _).2 ⟨?_, fun hb => ?_, fun hr => ?_⟩
  · rw [empty]
    exact seated_nil _ _
  · simp [begun] at hb
  · rw [pins, held] at hr
    cases hr

section Members

variable {s : State} (h : RosterForm s)
include h

/-- A change of state leaves every entry where it is, or clears the roster (R82, R99). -/
theorem changeState_rosterForm (hb : s.begun = true) (new : MembershipState) (hn : new ≠ .unconfigured) :
    RosterForm (s.changeState new) := by
  refine h.of_kept (by simp) (by simp) (by simp) ?_ ?_ fun hf => absurd hb (by simp [hf])
  · unfold State.changeState
    dsimp only
    split
    · simp [State.clearRoster]
    · exact List.Sublist.refl _
  · rw [hb]
    exact begun_of_state (by rw [changeState_mem]) hn

theorem enterListen_rosterForm (hb : s.begun = true) : RosterForm s.enterListen :=
  changeState_rosterForm (by exact h) (by exact hb) .listen nofun

theorem enterAligning_rosterForm (hb : s.begun = true) : RosterForm s.enterAligning :=
  changeState_rosterForm (by exact h) (by exact hb) .aligning nofun

theorem requestLeave_rosterForm (r : LeaveReason) : RosterForm (s.requestLeave r) := h.of_same (by simp)

theorem enterConflict_rosterForm (hb : s.begun = true) (c : Cause) : RosterForm (s.enterConflict c) :=
  requestLeave_rosterForm (changeState_rosterForm (by exact h) (by exact hb) .conflict nofun) _

theorem enterWithdrawn_rosterForm (hb : s.begun = true) (r : LeaveReason) : RosterForm (s.enterWithdrawn r) := by
  have changed := changeState_rosterForm h hb .withdrawn nofun
  unfold State.enterWithdrawn
  dsimp only
  split
  · exact requestLeave_rosterForm changed r
  · exact changed

theorem report_rosterForm (c : Cause) : RosterForm (s.report c) := by
  by_cases hc : s.mem.state.active = true ∧ s.mem.evidenceLast = true
  · rw [report_repeats s c hc.1 hc.2]
    exact enterConflict_rosterForm h (begun_of_active hc.1) c
  · obtain ⟨e, he⟩ := report_notes s c hc
    rw [he]
    exact h

theorem reportOwnId_rosterForm : RosterForm s.reportOwnId := by
  unfold State.reportOwnId
  dsimp only
  split
  · exact report_rosterForm (by exact h) _
  · exact report_rosterForm h _

/-- An adoption that R88 calls for is followed by the entry to ALIGNING (R87, R90). -/
theorem adopted_rosterForm (hb : s.begun = true) : RosterForm s.adoptEnsemble.enterAligning := by
  obtain ⟨adopt, out, adopted⟩ := adoptEnsemble_shape s
  rw [adopted]
  exact enterAligning_rosterForm (by exact h) (by exact hb)

theorem decideAlignment_rosterForm (hb : s.begun = true) (delta : Int) : RosterForm (s.decideAlignment delta) := by
  unfold State.decideAlignment
  split
  · exact adopted_rosterForm h hb
  · split
    · split
      · exact changeState_rosterForm (by exact h) (by exact hb) .apart nofun
      · exact h
    · have stepped : RosterForm (s.freeRequest.requestStep (-delta)) := h.of_same (by simp)
      exact adopted_rosterForm stepped (by simpa [State.begun] using hb)

theorem listenDelivery_rosterForm (hb : s.begun = true) (f : Frame) : RosterForm (s.listenDelivery f) := by
  unfold State.listenDelivery
  dsimp only
  split
  · exact decideAlignment_rosterForm (by exact h) (by exact hb) _
  · exact h

theorem memberDelivery_rosterForm (f : Frame) : RosterForm (s.memberDelivery f) := by
  unfold State.memberDelivery
  split
  case h_1 hs | h_2 hs => exact listenDelivery_rosterForm h (begun_of_state hs nofun) f
  case h_3 => cases f <;> exact h
  all_goals exact h

theorem memberLeave_rosterForm : RosterForm s.memberLeave := by
  rw [memberLeave_eq]
  exact h

theorem reasonsChecked_rosterForm : RosterForm s.reasonsChecked := by
  unfold State.reasonsChecked
  split
  next hs => exact enterListen_rosterForm h (begun_of_state hs.1 nofun)
  next => exact h

theorem supplyFell_rosterForm : RosterForm s.supplyFell := by
  unfold State.supplyFell
  dsimp only
  split
  case h_1 hs | h_2 hs | h_3 hs | h_4 hs | h_5 hs =>
    exact enterWithdrawn_rosterForm (by exact h) (by exact begun_of_state hs nofun) _
  all_goals exact h

theorem supplyRose_rosterForm : RosterForm s.supplyRose := reasonsChecked_rosterForm (by exact h)

theorem withdraw_rosterForm : RosterForm s.withdraw := by
  unfold State.withdraw
  split
  case h_1 hs | h_2 hs | h_3 hs | h_4 hs | h_5 hs =>
    have withdrawn : RosterForm ({ s with mem.reasonCommand := true }.enterWithdrawn .command) :=
      enterWithdrawn_rosterForm (by exact h) (by exact begun_of_state hs nofun) _
    exact withdrawn
  all_goals exact h

theorem resume_rosterForm : RosterForm s.resume := by
  have resumed : RosterForm { s with mem.reasonCommand := false }.reasonsChecked :=
    reasonsChecked_rosterForm (by exact h)
  unfold State.resume
  split
  · exact resumed
  · exact h

theorem takeBegin_rosterForm (held : s.pins.resetHeld = false) : RosterForm s.takeBegin := by
  have begun := begin_rosterForm held
  unfold State.takeBegin
  split
  · exact h
  · exact begun

end Members

/-! ## The frames that arrive, and the WORD line (R58 to R78) -/

section Word

variable {s : State} (h : RosterForm s)
include h

theorem frameFault_rosterForm (k : ErrorKind) (j : Option NodeId) : RosterForm (s.frameFault k j) := h.of_same (by simp)

theorem deliver_rosterForm (f : Frame) : RosterForm (s.deliver f) :=
  memberDelivery_rosterForm (rosterTakes_rosterForm h f) f

theorem censusArrives_rosterForm (f : Frame) : RosterForm (s.censusArrives f) := by
  unfold State.censusArrives
  split
  · exact reportOwnId_rosterForm h
  · split
    · split
      · exact rosterNotice_rosterForm (frameFault_rosterForm h _ _) _ _ _
      · exact deliver_rosterForm h _
    · exact h
    · exact h

theorem joinArrives_rosterForm (f : Frame) : RosterForm (s.joinArrives f) := by
  unfold State.joinArrives
  split
  · exact reportOwnId_rosterForm h
  · exact deliver_rosterForm h f

theorem leaveArrives_rosterForm (f : Frame) : RosterForm (s.leaveArrives f) := by
  unfold State.leaveArrives
  split
  · exact reportOwnId_rosterForm h
  · split
    · exact memberLeave_rosterForm (rosterLeave_rosterForm h _ _)
    · exact h
    · exact h

theorem tryStart_rosterForm : RosterForm s.tryStart := h.of_same (by simp)

theorem wordFallSeen_rosterForm : RosterForm s.wordFallSeen := by
  unfold State.wordFallSeen
  dsimp only
  split
  · split <;> exact h.of_same (by simp)
  · exact h.of_same (by simp)

theorem wordRises_rosterForm : RosterForm s.wordRises := by
  unfold State.wordRises
  dsimp only
  split
  · exact report_rosterForm (by exact h) _
  · exact h

theorem driveBit_rosterForm : RosterForm s.driveBit := by
  unfold State.driveBit
  dsimp only
  split
  · exact h
  · exact RosterForm.of_same (s := s) h (by simp)

theorem bitEnds_rosterForm : RosterForm s.bitEnds := by
  have driven := driveBit_rosterForm h
  unfold State.bitEnds
  split
  · exact h
  all_goals split
  case h_2.isFalse | h_3.isFalse => exact driven
  all_goals exact h

theorem lineIdle_rosterForm : RosterForm s.lineIdle := by
  unfold State.lineIdle
  split
  · exact h
  · split
    · exact h
    all_goals exact tryStart_rosterForm (by exact h)

theorem dropInFlight_rosterForm : RosterForm s.dropInFlight := by
  unfold State.dropInFlight
  split <;> exact h

theorem openTalk_rosterForm : RosterForm s.openTalk := by
  unfold State.openTalk
  dsimp only
  split <;> exact tryStart_rosterForm (by exact h)

theorem closeTalk_rosterForm : RosterForm s.closeTalk := by
  unfold State.closeTalk
  dsimp only
  split
  · split <;> exact h
  · exact h

theorem returnTalk_rosterForm : RosterForm s.returnTalk := by
  unfold State.returnTalk
  dsimp only
  repeat' split
  all_goals exact h

theorem wordStuck_rosterForm : RosterForm s.wordStuck := by
  unfold State.wordStuck
  dsimp only
  split
  · exact h
  · exact returnTalk_rosterForm (by exact h)

theorem wordRecovered_rosterForm : RosterForm s.wordRecovered := tryStart_rosterForm (by exact h)

end Word

/-! ## The MARK line (R40 to R53) -/

/-- Work on the mark unit opens no capture set where none is open. -/
def MarkUnit.OpensNone (m n : MarkUnit) : Prop := m.capture = none → n.capture = none

theorem find_capture (c : Cause) (m : MarkUnit) : (m.find c).capture = m.capture := by rw [find_eq]

theorem fillEcho_capture (line : Level) (x : Stamp) (m : MarkUnit) : (m.fillEcho line x).capture = m.capture := by
  unfold MarkUnit.fillEcho
  repeat' split
  all_goals rfl

theorem heldLowTest_capture (line : Level) (m : MarkUnit) : (m.heldLowTest line).capture = m.capture := by
  unfold MarkUnit.heldLowTest
  dsimp only
  split
  · exact find_capture _ _
  · rfl

theorem takeEarly_capture (own : NodeId) (p : Nat) (m : MarkUnit) : (m.takeEarly own p).capture = m.capture := by
  unfold MarkUnit.takeEarly MarkUnit.countContest
  repeat' split
  all_goals rfl

theorem takeSlot_opensNone (own k : NodeId) (x : Int) (m : MarkUnit) : m.OpensNone (m.takeSlot own k x) := by
  intro closed
  unfold MarkUnit.takeSlot
  split
  · rw [find_capture, closed]
  · rw [closed]
    exact closed

theorem stuck_opensNone (m : MarkUnit) : m.OpensNone m.stuck := by
  intro closed
  simp [MarkUnit.stuck, closed]

section Mark

variable {s : State} (h : RosterForm s)
include h

theorem mark_rosterForm {m : MarkUnit} (opens : s.mark.OpensNone m) : RosterForm { s with mark := m } :=
  h.of_kept rfl rfl rfl (List.Sublist.refl _) rfl fun _ => ⟨opens, rfl⟩

theorem markFalls_rosterForm : RosterForm s.markFalls := by
  unfold State.markFalls
  dsimp only
  split <;> exact h

theorem assertMark_rosterForm : RosterForm s.assertMark := by
  have driving : RosterForm { s with
      mark := { s.mark.fillEcho s.pins.mark s.stampNow with drive := some (ns 8000) } } :=
    mark_rosterForm h fun closed => (fillEcho_capture _ _ _).trans closed
  unfold State.assertMark
  dsimp only
  split
  · exact markFalls_rosterForm driving
  · exact mark_rosterForm driving fun closed => (find_capture _ _).trans closed

theorem slotTime_rosterForm (k : NodeId) : RosterForm (s.slotTime k) := by
  have asserted := assertMark_rosterForm h
  unfold State.slotTime
  split
  · exact asserted
  · exact h

theorem strayEdge_rosterForm (p : Nat) : RosterForm (s.strayEdge p) := by
  unfold State.strayEdge
  dsimp only
  split <;> exact h

theorem takeTrainEdge_rosterForm (x : Stamp) (high : Nat) : RosterForm { s with mem := s.mem.takeEdge x high } := by
  have kept : (s.mem.takeEdge x high).nodeId = s.mem.nodeId ∧ (s.mem.takeEdge x high).state = s.mem.state := by
    unfold Membership.takeEdge Membership.takeTrainStart
    dsimp only
    repeat' split
    all_goals exact ⟨rfl, rfl⟩
  obtain ⟨nodeId, state⟩ := kept
  exact h.of_kept rfl nodeId rfl (List.Sublist.refl _) (by simp [State.begun, state]) fun _ => ⟨id, rfl⟩

theorem acceptMark_rosterForm (c : MarkCandidate) : RosterForm (s.acceptMark c) := by
  have taken : RosterForm s.edgeTaken := h
  exact acceptMark_of c h taken (takeTrainEdge_rosterForm taken _ _)
    (fun _ _ => mark_rosterForm taken (takeSlot_opensNone _ _ _ _))
    (fun _ => mark_rosterForm taken fun closed => (takeEarly_capture _ _ _).trans closed)
    (fun _ => strayEdge_rosterForm taken _)

theorem acceptHeld_rosterForm : RosterForm s.acceptHeld := by
  unfold State.acceptHeld
  split
  · exact acceptMark_rosterForm h _
  · exact h

theorem candidateAtRise_rosterForm : RosterForm s.candidateAtRise := by
  unfold State.candidateAtRise
  split
  · split
    · exact acceptMark_rosterForm h _
    · exact h
  · exact h

theorem confirmEvidence_rosterForm : RosterForm s.confirmEvidence := by
  unfold State.confirmEvidence
  split
  case h_1 => exact h
  case h_2 c cs _ =>
    split
    · exact h
    · obtain ⟨n, chosen⟩ := choose_shape c cs s
      generalize s.choose c cs = x at chosen
      obtain ⟨cause, t⟩ := x
      subst chosen
      exact report_rosterForm (by exact h) cause

theorem markRises_rosterForm : RosterForm s.markRises := by
  have risen := candidateAtRise_rosterForm h
  unfold State.markRises
  dsimp only
  split
  · exact confirmEvidence_rosterForm (by exact risen)
  · exact risen

theorem markStuck_rosterForm : RosterForm s.markStuck := by
  have stuck := mark_rosterForm h (stuck_opensNone s.mark)
  unfold State.markStuck
  dsimp only
  split
  · exact h
  · split <;> exact stuck

/-! ## The boundary (R4, R5) -/

theorem memberJudged_rosterForm : RosterForm s.memberJudged := by
  by_cases hs : s.mem.state = .unconfigured
  · rwa [memberJudged_idle s (by rw [hs]; rfl)]
  have hb : s.begun = true := begun_of_state rfl hs
  obtain e | e | e | e | ⟨quiet, e⟩ | e | e := memberJudged_cases s
  all_goals rw [e]
  · exact h
  · exact h
  · exact changeState_rosterForm (by exact h) (by exact hb) .member nofun
  · exact changeState_rosterForm (by exact h) (by exact hb) .joining nofun
  · exact h.of_kept rfl rfl rfl (List.Sublist.refl _) hb.symm fun hf => absurd hb (by simp [hf])
  · exact h
  · exact enterListen_rosterForm (by exact h) (by exact hb)

theorem memberBoundary_rosterForm (ev : BoundaryEvent) : RosterForm (s.memberBoundary ev) := by
  obtain ⟨out, ps, moved⟩ := evidenceMoved_shape ev s
  have evidence : RosterForm (s.evidenceMoved ev) := by rw [moved]; exact h
  rw [memberBoundary_eq]
  exact memberJudged_rosterForm evidence

/-- A set opens at a boundary in WINDOWED alone, and so not before BEGIN (R39, R43). -/
theorem markBoundary_rosterForm (forward : Bool) : RosterForm (s.markBoundary forward) := by
  have opened : RosterForm { s with mark := s.mark.boundary s.mem.state.mode s.ts.epoch forward } := by
    refine h.of_kept rfl rfl rfl (List.Sublist.refl _) rfl fun hb => ⟨fun closed => ?_, rfl⟩
    have unconfigured : s.mem.state = .unconfigured := by simpa [State.begun] using hb
    rw [unconfigured]
    exact closed
  unfold State.markBoundary State.reportEarly
  split
  · exact report_rosterForm (by exact opened) _
  · exact opened

theorem judgeAligning_rosterForm (hb : s.begun = true) : RosterForm s.judgeAligning := by
  obtain ⟨a, e, judged | judged⟩ := judgeAligning_cases s
  · rw [judged]
    exact h
  · rw [judged]
    exact enterListen_rosterForm (by exact h) (by exact hb)

theorem endOfMark_rosterForm : RosterForm s.endOfMark := by
  unfold State.endOfMark
  dsimp only
  split
  next hs => exact tryStart_rosterForm (judgeAligning_rosterForm h (begun_of_state hs.1 nofun))
  next => exact tryStart_rosterForm h

theorem afterJump_rosterForm (forward : Option Nat) : RosterForm (s.afterJump forward) := by
  unfold State.afterJump
  split
  · exact h
  · split
    · exact endOfMark_rosterForm h
    · exact tryStart_rosterForm h

theorem boundaryProper_rosterForm (step : Option Int) (forward : Option Nat) (discarded : Bool) :
    RosterForm (s.boundaryProper step forward discarded) := by
  have marked : RosterForm (s.markedAt step forward discarded) :=
    markBoundary_rosterForm (rosterBoundary_rosterForm (memberBoundary_rosterForm (by exact h) _) _) _
  have counted : RosterForm (s.countedAt step forward discarded) := by
    unfold State.countedAt State.generatedAt
    exact marked.of_same (by simp)
  rw [boundaryProper_stages]
  exact afterJump_rosterForm counted forward

theorem decideStep_rosterForm : RosterForm s.decideStep := by
  unfold State.decideStep
  split
  · exact boundaryProper_rosterForm h _ _ _
  · split
    · exact boundaryProper_rosterForm (by exact h) _ _ _
    · split
      · exact boundaryProper_rosterForm (by exact h) _ _ _
      · exact h

end Mark

/-! ## The resets and the local port (R18, R81, R177 to R194) -/

/-- While a reset is held the roster is empty, no set is open and no transaction is in progress (R18, R56, R119,
R194). -/
theorem held_rosterForm (table : Vector TempBin 80) (s : State) : RosterForm (s.held table) :=
  (rosterForm_iff _).2 ⟨seated_nil _ _, fun _ => ⟨rfl, rfl⟩, fun _ => ⟨rfl, rfl⟩⟩

section Port

variable {s : State} (h : RosterForm s)
include h

/-- The end of a transaction is none of the roster's concern (R194). -/
theorem transactionEnded_rosterForm (sdo : Option (List Byte)) :
    RosterForm { s with port.transaction := none, port.sdo := sdo } := by
  obtain ⟨seated, inert, reset⟩ := (rosterForm_iff s).1 h
  exact (rosterForm_iff _).2 ⟨seated, inert, fun hr => ⟨(reset hr).1, rfl⟩⟩

/-- While a transaction is in progress no reset is held (R194). -/
theorem atRise_rosterForm {f : State → State} (d : Nat)
    (hf : ∀ {u : State}, RosterForm u → u.pins.resetHeld = false → RosterForm (f u)) : RosterForm (s.atRise d f) := by
  have advanced := advance_rosterForm h d
  obtain ⟨-, e⟩ | ⟨started, e⟩ := atRise_cases d f s
  · rwa [e]
  · rw [e]
    refine hf (transactionEnded_rosterForm advanced _) (Bool.eq_false_iff.2 fun hr => ?_)
    obtain ⟨-, -, reset⟩ := (rosterForm_iff s).1 h
    have held : s.pins.resetHeld = true := by simpa using hr
    simp [(reset held).2] at started

/-- A record is taken before BEGIN alone, while the roster is empty (R181). -/
theorem setup_rosterForm (p : List Byte) : RosterForm (s.setup p) := by
  unfold State.setup
  split
  next => exact h
  next hb =>
    split
    · exact h
    · obtain ⟨-, inert, reset⟩ := (rosterForm_iff s).1 h
      obtain ⟨-, empty⟩ := inert (Bool.eq_false_iff.2 hb)
      refine (rosterForm_iff _).2 ⟨?_, inert, reset⟩
      show Seated _ _ s.roster.entries
      rw [empty]
      exact seated_nil _ _

theorem loadPage_rosterForm (p : List Byte) : RosterForm (s.loadPage p) := by
  unfold State.loadPage
  repeat' split
  all_goals exact h

theorem readPage_rosterForm (p : List Byte) : RosterForm (s.readPage p) := by
  unfold State.readPage
  split <;> exact h

theorem takeEvents_rosterForm (p : List Byte) : RosterForm (s.takeEvents p) := by
  unfold State.takeEvents
  split <;> exact h

theorem trim_rosterForm (p : List Byte) : RosterForm (s.trim p) := by
  unfold State.trim
  repeat' split
  all_goals exact h

end Port

/-! ## The commands -/

section Commands

variable {s : State} (h : RosterForm s)
include h

theorem atExpiry_rosterForm {f : State → State} (r : Option Nat) (hf : ∀ {u : State}, RosterForm u → RosterForm (f u)) :
    RosterForm (s.atExpiry r f) :=
  atExpiry_of r h fun p => hf (runTo_rosterForm h p)

theorem atPoint_rosterForm {f : State → State} (p : PhasePoint) (hf : ∀ {u : State}, RosterForm u → RosterForm (f u)) :
    RosterForm (s.atPoint p f) :=
  atPoint_of p h (hf (raise_rosterForm h p))

theorem execEndOfEpoch_rosterForm : NextHolds RosterForm (execEndOfEpoch s) := by
  unfold execEndOfEpoch
  split
  · exact nextHolds_next (settle_rosterForm (decideStep_rosterForm (runToEnd_rosterForm h)))
  · exact nextHolds_next h

theorem execReplayEnd_rosterForm : NextHolds RosterForm (execReplayEnd s) := by
  unfold execReplayEnd
  split
  · exact nextHolds_next (settle_rosterForm (boundaryProper_rosterForm (runToEnd_rosterForm h) _ _ _))
  · exact nextHolds_next h

/-- The straps are sampled at the release of a reset, while the roster is empty (R81). -/
theorem execResetRelease_rosterForm (straps : NodeId) : NextHolds RosterForm (execResetRelease straps s) := by
  unfold execResetRelease
  split
  next held =>
    obtain ⟨-, inert, reset⟩ := (rosterForm_iff s).1 h
    obtain ⟨-, empty⟩ := inert (reset held).1
    refine nextHolds_next ((rosterForm_iff _).2 ⟨?_, inert, nofun⟩)
    show Seated _ _ s.roster.entries
    rw [empty]
    exact seated_nil _ _
  next => exact nextHolds_next h

theorem execRefinTransition_rosterForm (dt : Nat) (rising : Bool) :
    NextHolds RosterForm (execRefinTransition dt rising s) := by
  have advanced := advance_rosterForm h dt
  rw [execRefinTransition_eq]
  refine nextHolds_next (settle_rosterForm ?_)
  split
  · exact refinTaken_rosterForm (by exact advanced) _
  · exact advanced

theorem execMarkFall_rosterForm (dt : Nat) : NextHolds RosterForm (execMarkFall dt s) := by
  have advanced := advance_rosterForm h dt
  unfold execMarkFall
  dsimp only
  split
  · exact nextHolds_next (markFalls_rosterForm advanced)
  · exact nextHolds_next advanced

theorem execMarkRise_rosterForm (dt : Nat) : NextHolds RosterForm (execMarkRise dt s) := by
  have advanced := advance_rosterForm h dt
  unfold execMarkRise
  dsimp only
  split
  · split
    · exact nextHolds_next (settle_rosterForm (markRises_rosterForm advanced))
    · exact nextHolds_next advanced
  · exact nextHolds_next advanced

theorem execWordFall_rosterForm (dt : Nat) : NextHolds RosterForm (execWordFall dt s) := by
  have advanced := advance_rosterForm h dt
  unfold execWordFall
  dsimp only
  split
  · exact nextHolds_next (wordFallSeen_rosterForm advanced)
  · exact nextHolds_next advanced

theorem execWordRise_rosterForm (dt : Nat) : NextHolds RosterForm (execWordRise dt s) := by
  have advanced := advance_rosterForm h dt
  unfold execWordRise
  dsimp only
  split
  · split
    · exact nextHolds_next (settle_rosterForm (wordRises_rosterForm advanced))
    · exact nextHolds_next advanced
  · exact nextHolds_next advanced

theorem execArbitrationLoss_rosterForm : NextHolds RosterForm (execArbitrationLoss s) := by
  unfold execArbitrationLoss
  split <;> exact nextHolds_next h

theorem execPayloadCollision_rosterForm : NextHolds RosterForm (execPayloadCollision s) := by
  have dropped := dropInFlight_rosterForm h
  unfold execPayloadCollision
  split
  · exact nextHolds_next dropped
  · exact nextHolds_next h

theorem execFrameSent_rosterForm : NextHolds RosterForm (execFrameSent s) := by
  unfold execFrameSent
  split <;> exact nextHolds_next h

theorem execFrameError_rosterForm : NextHolds RosterForm (execFrameError s) := by
  unfold execFrameError
  split
  case h_1 | h_2 => exact nextHolds_next (settle_rosterForm (frameFault_rosterForm (by exact h) _ _))
  case h_3 | h_4 => exact nextHolds_next h

theorem execCensusReceived_rosterForm : NextHolds RosterForm (execCensusReceived s) := by
  unfold execCensusReceived
  split
  · exact nextHolds_next (settle_rosterForm (censusArrives_rosterForm (by exact h) _))
  · exact nextHolds_next h

theorem execJoinReceived_rosterForm : NextHolds RosterForm (execJoinReceived s) := by
  unfold execJoinReceived
  split
  · exact nextHolds_next (settle_rosterForm (joinArrives_rosterForm (by exact h) _))
  · exact nextHolds_next h

theorem execLeaveReceived_rosterForm : NextHolds RosterForm (execLeaveReceived s) := by
  unfold execLeaveReceived
  split
  · exact nextHolds_next (settle_rosterForm (leaveArrives_rosterForm (by exact h) _))
  · exact nextHolds_next h

theorem execSupplySenseCrossing_rosterForm (dt mV : Nat) : NextHolds RosterForm (execSupplySenseCrossing dt mV s) := by
  have advanced := advance_rosterForm h dt
  unfold execSupplySenseCrossing
  dsimp only
  split <;> exact nextHolds_next advanced

theorem execInhibitPinChange_rosterForm (dt : Nat) (a : Bool) : NextHolds RosterForm (execInhibitPinChange dt a s) := by
  have advanced := advance_rosterForm h dt
  rw [execInhibitPinChange_eq]
  refine nextHolds_next ?_
  split
  · exact inhibitTaken_rosterForm (by exact advanced) _
  · exact advanced

theorem execOscinReturn_rosterForm : NextHolds RosterForm (execOscinReturn s) :=
  nextHolds_next (settle_rosterForm (referenceTaken_rosterForm (inhibitTaken_rosterForm (by exact h) _)))

/-- No transaction starts while a reset is held (R194). -/
theorem execTransactionStart_rosterForm (dt : Nat) : NextHolds RosterForm (execTransactionStart dt s) := by
  have advanced := advance_rosterForm h dt
  unfold execTransactionStart
  dsimp only
  split
  next => exact nextHolds_next advanced
  next hn =>
    obtain ⟨seated, inert, -⟩ := (rosterForm_iff _).1 advanced
    refine nextHolds_next ((rosterForm_iff _).2 ⟨seated, inert, fun hr => absurd ?_ hn⟩)
    rw [Bool.or_eq_true]
    exact .inl hr

theorem execReadResponse_rosterForm (dt count : Nat) : NextHolds RosterForm (execReadResponse dt count s) := by
  unfold execReadResponse
  split <;> exact nextHolds_next (atRise_rosterForm h dt fun hu _ => by exact hu)

theorem execUnknownCommand_rosterForm (dt : Nat) (code : Byte) :
    NextHolds RosterForm (execUnknownCommand dt code s) := by
  unfold execUnknownCommand
  split
  · exact nextHolds_next h
  · exact nextHolds_next (atRise_rosterForm h dt fun hu _ => by exact hu)

theorem execResponseCompletion_rosterForm (dt : Nat) : NextHolds RosterForm (execResponseCompletion dt s) := by
  have advanced := advance_rosterForm h dt
  unfold execResponseCompletion
  dsimp only
  split <;> exact nextHolds_next advanced

/-- The roster keeps its form at every command. -/
theorem exec_rosterForm (i : Instr) : NextHolds RosterForm (exec i s) := by
  match i with
  | .powerOnReset | .resetPin => exact nextHolds_next (held_rosterForm _ s)
  | .resetRelease straps => exact execResetRelease_rosterForm h straps
  | .endOfEpoch => exact execEndOfEpoch_rosterForm h
  | .replayEnd => exact execReplayEnd_rosterForm h
  | .slotTime k => exact nextHolds_next (atPoint_rosterForm h _ (slotTime_rosterForm · k))
  | .markRelease => exact nextHolds_next (atExpiry_rosterForm h _ (mark_rosterForm · id))
  | .heldLowTest =>
    exact nextHolds_next <| atExpiry_rosterForm h _ fun hu =>
      mark_rosterForm hu fun closed => (heldLowTest_capture _ _).trans closed
  | .endOfMarkRegion => exact nextHolds_next (settle_rosterForm (atPoint_rosterForm h _ endOfMark_rosterForm))
  | .temperatureSample die =>
    exact nextHolds_next (settle_rosterForm (atPoint_rosterForm h _ (takeSample_rosterForm · die)))
  | .talkWindowOpening =>
    refine nextHolds_next (atPoint_rosterForm h _ fun hu => ?_)
    split
    · exact openTalk_rosterForm hu
    · exact hu
  | .talkWindowClosing => exact nextHolds_next (settle_rosterForm (atPoint_rosterForm h _ closeTalk_rosterForm))
  | .solvePoint =>
    refine nextHolds_next (settle_rosterForm (atPoint_rosterForm h _ fun hu => ?_))
    split
    · exact solvePoint_rosterForm hu
    · exact hu
  | .refinTransition dt rising => exact execRefinTransition_rosterForm h dt rising
  | .refinEdgeAccepted =>
    exact nextHolds_next (settle_rosterForm (atExpiry_rosterForm h _ candidateAccepted_rosterForm))
  | .blankingEnd => exact nextHolds_next (atExpiry_rosterForm h _ fun hu => by exact hu)
  | .refvalidDeassert dt => exact nextHolds_next (settle_rosterForm (refvalidPinBecomes_rosterForm h dt false))
  | .refvalidAssert dt => exact nextHolds_next (settle_rosterForm (refvalidPinBecomes_rosterForm h dt true))
  | .markFall dt => exact execMarkFall_rosterForm h dt
  | .markEdgeAccept => exact nextHolds_next (settle_rosterForm (atExpiry_rosterForm h _ acceptHeld_rosterForm))
  | .markRise dt => exact execMarkRise_rosterForm h dt
  | .markStuck => exact nextHolds_next (settle_rosterForm (atExpiry_rosterForm h _ markStuck_rosterForm))
  | .markRecovery => exact nextHolds_next (atExpiry_rosterForm h _ (mark_rosterForm · id))
  | .wordFall dt => exact execWordFall_rosterForm h dt
  | .wordRise dt => exact execWordRise_rosterForm h dt
  | .lineIdle => exact nextHolds_next (atExpiry_rosterForm h _ lineIdle_rosterForm)
  | .arbitrationLoss => exact execArbitrationLoss_rosterForm h
  | .payloadCollision => exact execPayloadCollision_rosterForm h
  | .frameSent => exact execFrameSent_rosterForm h
  | .frameError => exact execFrameError_rosterForm h
  | .censusReceived => exact execCensusReceived_rosterForm h
  | .joinReceived => exact execJoinReceived_rosterForm h
  | .leaveReceived => exact execLeaveReceived_rosterForm h
  | .wordStuck => exact nextHolds_next (settle_rosterForm (atExpiry_rosterForm h _ wordStuck_rosterForm))
  | .wordRecovery => exact nextHolds_next (atExpiry_rosterForm h _ wordRecovered_rosterForm)
  | .supplySenseCrossing dt mV => exact execSupplySenseCrossing_rosterForm h dt mV
  | .supplyLow => exact nextHolds_next (settle_rosterForm (atExpiry_rosterForm h _ supplyFell_rosterForm))
  | .supplyRestored => exact nextHolds_next (settle_rosterForm (atExpiry_rosterForm h _ supplyRose_rosterForm))
  | .generatorStart g => exact nextHolds_next (atExpiry_rosterForm h _ (startPulse_rosterForm · g))
  | .pulseEnd g => exact nextHolds_next (atExpiry_rosterForm h _ fun hu => by exact hu)
  | .inhibitPinChange dt a => exact execInhibitPinChange_rosterForm h dt a
  | .filteredLevelChange =>
    exact nextHolds_next (settle_rosterForm (atExpiry_rosterForm h _ (filteredBecomes_rosterForm · _)))
  | .transactionStart dt => exact execTransactionStart_rosterForm h dt
  | .shortTransaction dt bits => exact nextHolds_next (atRise_rosterForm h dt fun hu _ => hu)
  | .readResponse dt count => exact execReadResponse_rosterForm h dt count
  | .setup dt payload => exact nextHolds_next (atRise_rosterForm h dt fun hu _ => setup_rosterForm hu payload)
  | .loadTablePage dt payload =>
    exact nextHolds_next (atRise_rosterForm h dt fun hu _ => loadPage_rosterForm hu payload)
  | .begin dt => exact nextHolds_next (settle_rosterForm (atRise_rosterForm h dt takeBegin_rosterForm))
  | .status dt => exact nextHolds_next (atRise_rosterForm h dt fun hu _ => by exact hu)
  | .roster dt => exact nextHolds_next (atRise_rosterForm h dt fun hu _ => by exact hu)
  | .tablePage dt payload => exact nextHolds_next (atRise_rosterForm h dt fun hu _ => readPage_rosterForm hu payload)
  | .events dt payload => exact nextHolds_next (atRise_rosterForm h dt fun hu _ => takeEvents_rosterForm hu payload)
  | .withdraw dt => exact nextHolds_next (settle_rosterForm (atRise_rosterForm h dt fun hu _ => withdraw_rosterForm hu))
  | .resume dt => exact nextHolds_next (settle_rosterForm (atRise_rosterForm h dt fun hu _ => resume_rosterForm hu))
  | .trimGroup dt payload => exact nextHolds_next (atRise_rosterForm h dt fun hu _ => trim_rosterForm hu payload)
  | .clearInhibit dt =>
    exact nextHolds_next (settle_rosterForm (atRise_rosterForm h dt fun hu _ => clearInhibit_rosterForm hu))
  | .unknownCommand dt code => exact execUnknownCommand_rosterForm h dt code
  | .responseCompletion dt => exact execResponseCompletion_rosterForm h dt
  | .wordSamplePoint => exact nextHolds_next (atExpiry_rosterForm h _ fun hu => by exact hu)
  | .wordBitStart => exact nextHolds_next (atExpiry_rosterForm h _ bitEnds_rosterForm)
  | .oscinStop dt => exact nextHolds_next (advance_rosterForm h dt)
  | .oscinReturn => exact execOscinReturn_rosterForm h

end Commands

/-- Settles O58: `exec_rosterForm`, command by command. -/
theorem stepKeepsTheRosterForm : Obligations.StepKeepsTheRosterForm := by
  unfold Obligations.StepKeepsTheRosterForm
  intro s t h e
  unfold step at e
  split at e
  · rwa [← Host.Outcome.next.inj e]
  · exact exec_rosterForm (by exact h) _ _ e

end Sys2Proof.Machine

/-! # Time-valid and what it moves in the generators (R120, R166, R169) -/

namespace Sys2Proof.Machine

open Sys2Proof

/-! ## The level of time-valid (R120) -/

theorem holdover_iff (t : TimingState) : t.holdover = true ↔ t = .coasting ∨ t = .alone := by
  cases t <;> simp [TimingState.holdover]

theorem timeValidOf_iff (t : TimingState) (overBudget : Bool) : timeValidOf t overBudget = true ↔
    t = .anchored ∨ t = .borrowing ∨ ((t = .coasting ∨ t = .alone) ∧ overBudget = false) := by
  cases t <;> simp [timeValidOf]

section Level

variable {s : State}

theorem refreshTimeValid_same (h : s.solver.timeValid = timeValidOf s.solver.timing s.solver.overBudget) :
    s.refreshTimeValid = s :=
  if_pos h.symm

theorem refreshTimeValid_moves (h : s.solver.timeValid ≠ timeValidOf s.solver.timing s.solver.overBudget) :
    s.refreshTimeValid = { s with solver.timeValid := timeValidOf s.solver.timing s.solver.overBudget }.genTimeValid
      (timeValidOf s.solver.timing s.solver.overBudget) :=
  if_neg (Ne.symm h)

/-! ## The generator unit at a change of level (R169) -/

theorem genTimeValid_unbegun (h : s.begun = false) (level : Bool) : s.genTimeValid level = s := by
  simp [State.genTimeValid, h]

theorem genTimeValid_rise (h : s.begun = true) : s.genTimeValid true = { s with
    gen := { s.gen with
      timeValid := true
      gens := (takenBits s.freeNat.1).zip3Map (Generator.rise s.ts) s.cfg.gens s.gen.gens }
    freeCount := s.freeCount + 1 } := by
  simp only [State.genTimeValid, h]
  rfl

theorem genTimeValid_fall (h : s.begun = true) : s.genTimeValid false = { s with
    gen := { s.gen with
      timeValid := false
      gens := s.cfg.gens.zipMap Generator.fall s.gen.gens } } := by
  simp only [State.genTimeValid, h]
  rfl

end Level

section OneGenerator

variable {g : Generator} {set : GenSettings} {t : Timescale} {taken : Bool}

theorem rise_started (h : g.run = .holding) (hs : set.skip = 0) :
    g.rise t taken set = { g with
      run := .running, skip := 0, next := some (searchStart t set (onGrid t set && taken)) } := by
  simp [Generator.rise, h, hs, Generator.becomeRunning]

theorem rise_skips (h : g.run = .holding) (hs : set.skip ≠ 0) :
    g.rise t taken set = { g with run := .skipping, skip := set.skip } := by
  simp [Generator.rise, h, hs]

theorem rise_other (h : g.run ≠ .holding) : g.rise t taken set = g := by
  unfold Generator.rise
  split
  · contradiction
  all_goals rfl

theorem fall_skipping (h : g.run = .skipping) : g.fall set = { g with run := .holding, skip := 0 } := by
  simp [Generator.fall, h]

theorem fall_stopped (h : g.run = .running) (hi : set.invalid ≠ .run) :
    g.fall set = { g with run := .holding, next := none, pulse := none } := by
  simp only [Generator.fall, h]
  split
  · contradiction
  all_goals rfl

theorem fall_other (h : g.run = .disabled ∨ g.run = .holding ∨ (g.run = .running ∧ set.invalid = .run)) :
    g.fall set = g := by
  obtain h | h | ⟨h, hi⟩ := h
  · simp [Generator.fall, h]
  · simp [Generator.fall, h]
  · simp [Generator.fall, h, hi]

/-- Of the two searches a rise makes the one after the present instant only where that is a grid phase (R169). -/
theorem rise_searches (h : g.run = .holding) (hs : set.skip = 0) :
    g.rise t taken set = { g with run := .running, skip := 0, next := some (searchStart t set false) } ∨
      (onGrid t set = true ∧
        g.rise t taken set = { g with run := .running, skip := 0, next := some (searchStart t set true) }) := by
  rw [rise_started h hs]
  cases hg : onGrid t set with
  | false => exact .inl rfl
  | true =>
    cases taken with
    | false => exact .inl rfl
    | true => exact .inr ⟨rfl, rfl⟩

end OneGenerator

/-! ## The grid (R166) -/

theorem mul_ceilDiv_eq_iff (d : Nat) {period : Nat} (h : 0 < period) : period * ceilDiv d period = d ↔ d % period = 0 := by
  refine ⟨fun e => ?_, fun e => ?_⟩
  · rw [← e, Nat.mul_mod_right]
  · obtain ⟨k, rfl⟩ := Nat.dvd_of_mod_eq_zero e
    have count : ceilDiv (period * k) period = k := by
      rw [ceilDiv, Nat.add_sub_assoc h, Nat.mul_add_div h, Nat.div_eq_of_lt (by omega), Nat.add_zero]
    rw [count]

/-- The first grid phase not below `least` is `least` itself just where that is on the grid. -/
theorem gridFrom_eq_iff (g : GenSettings) (offset : Int) (least : Nat) (h : 1 ≤ g.period) :
    g.gridFrom offset least = least ↔ ((least : Int) - (g.offset + offset)) % (1000 * (g.period : Int)) = 0 := by
  obtain ⟨period, hp⟩ : ∃ period : Nat, 1000 * (g.period : Int) = period := ⟨1000 * g.period, by push_cast; rfl⟩
  have positive : 0 < period := by omega
  have congruent : ((least : Int) - (g.offset + offset)) % period = (least - (g.offset + offset) % period) % period := by
    simp [Int.sub_emod]
  have first_lo := Int.emod_nonneg (g.offset + offset) (b := period) (by omega)
  have first_hi := Int.emod_lt_of_pos (g.offset + offset) (b := period) (by omega)
  simp only [GenSettings.gridFrom, GenSettings.firstGrid, GenSettings.periodNs, hp, congruent, Int.toNat_natCast]
  generalize ((g.offset : Int) + offset) % period = first at first_lo first_hi
  obtain ahead | behind := lt_or_ge (least : Int) first
  · have none : (least - first).toNat = 0 := by omega
    rw [none, ceilDiv, Nat.zero_add, Nat.div_eq_of_lt (by omega)]
    refine iff_of_false (by simp; omega) fun e => ?_
    have := Int.eq_zero_of_dvd_of_natAbs_lt_natAbs (Int.dvd_of_emod_eq_zero e) (by omega)
    omega
  · obtain ⟨d, hd⟩ := Int.eq_ofNat_of_zero_le (Int.sub_nonneg_of_le behind)
    rw [hd, Int.toNat_natCast, ← Int.natCast_mod, Int.natCast_eq_zero, ← mul_ceilDiv_eq_iff d positive]
    omega

theorem onGrid_iff (t : Timescale) (g : GenSettings) (h : 1 ≤ g.period) : onGrid t g = true ↔
    t.sitePhase % 16 = 0 ∧
      (((t.sitePhase / 16 : Nat) : Int) - (g.offset + (t.groupOffset g.group).current)) %
        (1000 * (g.period : Int)) = 0 := by
  rw [← gridFrom_eq_iff g _ _ h]
  simp [onGrid]

/-! ## The statement -/

/-- Settles O46: the level by `refreshTimeValid_same` and `refreshTimeValid_moves`, its rise and fall generator by
generator. -/
theorem timeValidMovesTheGenerators : Obligations.TimeValidMovesTheGenerators := by
  refine ⟨fun s => ?_, fun s level h => genTimeValid_unbegun h level, fun s h => ?_, fun s h => ?_, onGrid_iff⟩
  · intro level
    have meaning : timeValidOf s.solver.timing s.solver.overBudget = level :=
      Bool.eq_iff_iff.2 ((timeValidOf_iff _ _).trans decide_eq_true_iff.symm)
    rw [← meaning]
    exact ⟨refreshTimeValid_same, refreshTimeValid_moves⟩
  · intro t
    have risen : t = _ := genTimeValid_rise h
    refine ⟨by rw [risen], fun i => ?_⟩
    intro g g' set
    have one : g' = g.rise s.ts ((takenBits s.freeNat.1).get i) set := by
      rw [show g' = t.gen.gens.get i from rfl, risen]
      exact quad_get_zip3Map _ _ _ _ i
    rw [one]
    exact ⟨rise_searches, rise_skips, rise_other⟩
  · intro t
    have fallen : t = _ := genTimeValid_fall h
    refine ⟨by rw [fallen], fun i => ?_⟩
    intro g g' set
    have one : g' = g.fall set := by
      rw [show g' = t.gen.gens.get i from rfl, fallen]
      exact quad_get_zipMap _ _ _ i
    rw [one]
    exact ⟨fall_skipping, fall_stopped, fall_other⟩

end Sys2Proof.Machine

/-! # Entries to a timing state, the source priority and the transition rule (R120, R125, R126, R137 to R139) -/

namespace Sys2Proof.Machine

open Sys2Proof

/-! ## What an entry is made of -/

/-- Time-valid takes its level, and only the generators and the count of free values move with it (R120, R169). -/
theorem refreshTimeValid_shape (s : State) : ∃ gen n, s.refreshTimeValid = { s with
    solver.timeValid := timeValidOf s.solver.timing s.solver.overBudget, gen := gen, freeCount := n } := by
  have writes (u : State) (level : Bool) : ∃ gen n, u.genTimeValid level = { u with gen := gen, freeCount := n } := by
    cases hb : u.begun with
    | false => exact ⟨u.gen, u.freeCount, genTimeValid_unbegun hb level⟩
    | true =>
      cases level with
      | true => exact ⟨_, _, genTimeValid_rise hb⟩
      | false => exact ⟨_, u.freeCount, genTimeValid_fall hb⟩
  by_cases h : s.solver.timeValid = timeValidOf s.solver.timing s.solver.overBudget
  · exact ⟨s.gen, s.freeCount, by rw [refreshTimeValid_same h, ← h]⟩
  · rw [refreshTimeValid_moves h]
    exact writes _ _

theorem exceedsBudget_iff (s : State) : s.exceedsBudget = true ↔
    s.solver.overBudget = false ∧ s.cfg.budget * 1000000 < s.solver.bound := by
  simp [State.exceedsBudget]

/-- The over-budget flag after an entry to holdover (R139). -/
theorem judgeBudgetAtEntry_shape (s : State) : ∃ o n, s.judgeBudgetAtEntry = { s with
    solver.overBudget := s.solver.overBudget || decide (s.cfg.budget * 1000000 < s.solver.bound)
    port.outbox := o, freeCount := n } := by
  unfold State.judgeBudgetAtEntry
  split
  next h =>
    obtain ⟨-, exceeds⟩ := (exceedsBudget_iff s).1 h
    obtain ⟨o, n, either⟩ := eitherOrder_shape s.setOverBudget
    exact ⟨o, n, by rw [either]; simp [State.setOverBudget, State.postInt, State.post, State.postAfter, exceeds]⟩
  next h =>
    have same : (s.solver.overBudget || decide (s.cfg.budget * 1000000 < s.solver.bound)) = s.solver.overBudget := by
      rw [exceedsBudget_iff] at h
      cases hf : s.solver.overBudget with
      | true => rfl
      | false => simpa [hf] using h
    exact ⟨s.port.outbox, s.freeCount, by rw [same]⟩

/-- The temperature unit at an entry to holdover: the first freezes its prediction (R155). -/
def State.tempHeld (old : TimingState) (s : State) : TempUnit :=
  if old.holdover then s.temp else (s.holdoverBegins s.solver.steerF).temp

/-- The items that an entry to holdover sets afresh, the over-budget flag among them (R137 to R139). -/
def State.heldSolver (old : TimingState) (g : Growth) (bound : Nat) (s : State) : Solver :=
  { s.solver with
    anchorH := s.solver.steerF - (s.tempHeld old).predict.1
    trim := 0
    rate := rate0 g.cls * ensembleFactor g.n
    growthClass := g.cls
    growthN := g.n
    bound := bound
    overBudget := s.solver.overBudget || decide (s.cfg.budget * 1000000 < bound) }

theorem enterHoldover_shape (s : State) (old : TimingState) (g : Growth) (start : Option Nat) :
    ∃ o n, s.enterHoldover old g start = { s with
      temp := s.tempHeld old
      solver := s.heldSolver old g (start.getD s.solver.bound)
      port.outbox := o, freeCount := n } := by
  unfold State.enterHoldover State.heldSolver State.tempHeld
  dsimp only
  split <;> exact judgeBudgetAtEntry_shape _

/-- The entry actions of holdover, with time-valid formed again (R120). -/
theorem enterHoldover_refreshed (s : State) (old : TimingState) (g : Growth) (start : Option Nat) :
    ∃ gen o n, (s.enterHoldover old g start).refreshTimeValid = { s with
      temp := s.tempHeld old
      solver := { s.heldSolver old g (start.getD s.solver.bound) with
        timeValid := timeValidOf s.solver.timing (s.heldSolver old g (start.getD s.solver.bound)).overBudget }
      gen := gen, port.outbox := o, freeCount := n } := by
  obtain ⟨o, n, held⟩ := enterHoldover_shape s old g start
  obtain ⟨gen, m, refreshed⟩ := refreshTimeValid_shape (s.enterHoldover old g start)
  refine ⟨gen, o, m, ?_⟩
  rw [refreshed, held]
  rfl

/-! ## An entry, state by state (R120, R126, R137 to R139) -/

/-- STATE_CHANGE, as an entry posts it (R120). -/
def State.entryPosting (after : Option Lane) (new : TimingState) (target : Option Target) (s : State) : Posting :=
  ⟨.solver, s.ts.epoch, .stateChange, none, some (signed32 (stateChangeValue new target)), after⟩

/-- The state and target changed, before the entry actions: the over-budget flag stands within holdover alone (R126,
R139). -/
def State.changing (after : Option Lane) (new : TimingState) (target : Option Target) (s : State) : State :=
  { s with
    solver := { s.solver with
      timing := new
      target := target
      stateHeld := 0
      overBudget := s.solver.overBudget && s.solver.timing.holdover && new.holdover }
    port.outbox := s.port.outbox ++ [s.entryPosting after new target] }

section Enter

variable (s : State) (after : Option Lane) (new : TimingState) (target : Option Target) (g : Growth) (start : Option Nat)

theorem enter_untimed (h : new = .free ∨ new = .acquiring) : ∃ gen n, s.enter after new target g start =
    { s.changing after new target with
      solver := { (s.changing after new target).solver with
        overBudget := false, bound := 1000000000000000, lockCount := 0, timeValid := false }
      gen := gen, freeCount := n } := by
  obtain ⟨gen, n, refreshed⟩ := refreshTimeValid_shape { s.changing after new target with
    solver := { (s.changing after new target).solver with bound := boundCeiling, lockCount := 0 } }
  refine ⟨gen, n, ?_⟩
  obtain rfl | rfl := h
  all_goals
    refine refreshed.trans ?_
    simp [State.changing, timeValidOf, TimingState.holdover, boundCeiling]

theorem enter_referenced (h : new = .anchored ∨ new = .borrowing) : ∃ gen n, s.enter after new target g start =
    { s.changing after new target with
      solver := { (s.changing after new target).solver with
        overBudget := false, validTime := true, timeValid := true }
      gen := gen, freeCount := n } := by
  obtain ⟨gen, n, refreshed⟩ := refreshTimeValid_shape { s.changing after new target with solver.validTime := true }
  refine ⟨gen, n, ?_⟩
  obtain rfl | rfl := h
  all_goals
    refine refreshed.trans ?_
    simp [State.changing, timeValidOf, TimingState.holdover]

/-- The valid-time flag of an entry to holdover: COASTING sets it and ALONE keeps it (R126). -/
def State.entryValid (new : TimingState) (s : State) : Bool := decide (new = .coasting) || s.solver.validTime

/-- The growth of an entry to holdover: COASTING has that of its set, ALONE the node's own (R137). -/
def State.entryGrowth (new : TimingState) (g : Growth) (s : State) : Growth :=
  if new = .coasting then g else ⟨s.cfg.cls, 1⟩

/-- The bound of an entry to holdover: COASTING may be given a starting one, ALONE keeps its own (R138). -/
def State.entryBound (new : TimingState) (start : Option Nat) (s : State) : Nat :=
  if new = .coasting then start.getD s.solver.bound else s.solver.bound

theorem enter_holdover (h : new = .coasting ∨ new = .alone) : ∃ gen o n, s.enter after new target g start =
    { s.changing after new target with
      temp := s.tempHeld s.solver.timing
      solver := { (s.changing after new target).heldSolver s.solver.timing (s.entryGrowth new g)
          (s.entryBound new start) with
        validTime := s.entryValid new
        timeValid := !((s.changing after new target).heldSolver s.solver.timing (s.entryGrowth new g)
          (s.entryBound new start)).overBudget }
      gen := gen, port.outbox := o, freeCount := n } := by
  obtain rfl | rfl := h
  · exact enterHoldover_refreshed { s.changing after .coasting target with solver.validTime := true } s.solver.timing
      g start
  · exact enterHoldover_refreshed (s.changing after .alone target) s.solver.timing ⟨s.cfg.cls, 1⟩ none

/-- An entry leaves a timing state without a bound, one with a reference, or one of holdover. -/
theorem timing_kinds (x : TimingState) : (x = .free ∨ x = .acquiring) ∨ (x = .anchored ∨ x = .borrowing) ∨
    (x = .coasting ∨ x = .alone) := by
  cases x <;> simp

/-! ## What an entry sets, and what it leaves (R120, R126) -/

theorem enter_changes : (s.enter after new target g start).solver.timing = new ∧
    (s.enter after new target g start).solver.target = target ∧
    (s.enter after new target g start).solver.stateHeld = 0 ∧
    (s.enter after new target g start).solver.steerF = s.solver.steerF ∧
    (s.enter after new target g start).solver.lastE = s.solver.lastE := by
  obtain h | h | h := timing_kinds new
  · obtain ⟨gen, n, entered⟩ := enter_untimed s after new target g start h
    rw [entered]
    exact ⟨rfl, rfl, rfl, rfl, rfl⟩
  · obtain ⟨gen, n, entered⟩ := enter_referenced s after new target g start h
    rw [entered]
    exact ⟨rfl, rfl, rfl, rfl, rfl⟩
  · obtain ⟨gen, o, n, entered⟩ := enter_holdover s after new target g start h
    rw [entered]
    exact ⟨rfl, rfl, rfl, rfl, rfl⟩

/-- STATE_CHANGE is posted at every entry (R120). -/
theorem entryPosting_posted : s.entryPosting after new target ∈ (s.enter after new target g start).port.outbox := by
  have posted (u : State) (h : u.port.outbox = (s.changing after new target).port.outbox) :
      s.entryPosting after new target ∈ u.port.outbox := by
    rw [h]
    simp [State.changing]
  have held (u : State) (old : TimingState) (w : Growth) (b : Option Nat)
      (h : u.port.outbox = (s.changing after new target).port.outbox) :
      s.entryPosting after new target ∈ (u.enterHoldover old w b).refreshTimeValid.port.outbox := by
    have kept := (enterHoldover_posts u old w b).mem (posted u h)
    simpa using kept
  obtain h | h | h := timing_kinds new
  · obtain ⟨gen, n, entered⟩ := enter_untimed s after new target g start h
    exact posted _ (by rw [entered])
  · obtain ⟨gen, n, entered⟩ := enter_referenced s after new target g start h
    exact posted _ (by rw [entered])
  · obtain rfl | rfl := h
    · exact held { s.changing after .coasting target with solver.validTime := true } _ _ _ rfl
    · exact held (s.changing after .alone target) _ _ _ rfl

theorem enter_timeValid : (s.enter after new target g start).solver.timeValid =
    timeValidOf new (s.enter after new target g start).solver.overBudget := by
  obtain h | h | h := timing_kinds new
  · obtain ⟨gen, n, entered⟩ := enter_untimed s after new target g start h
    rw [entered]
    obtain rfl | rfl := h <;> rfl
  · obtain ⟨gen, n, entered⟩ := enter_referenced s after new target g start h
    rw [entered]
    obtain rfl | rfl := h <;> rfl
  · obtain ⟨gen, o, n, entered⟩ := enter_holdover s after new target g start h
    rw [entered]
    obtain rfl | rfl := h <;> rfl

/-- The over-budget flag of an entry: it stands within holdover, and is set there where the bound is beyond the budget
(R126, R139). -/
theorem enter_overBudget : (s.enter after new target g start).solver.overBudget = true ↔ new.holdover = true ∧
    ((s.solver.timing.holdover = true ∧ s.solver.overBudget = true) ∨
      s.cfg.budget * 1000000 < (s.enter after new target g start).solver.bound) := by
  obtain h | h | h := timing_kinds new
  · obtain ⟨gen, n, entered⟩ := enter_untimed s after new target g start h
    rw [entered]
    obtain rfl | rfl := h <;> simp [TimingState.holdover]
  · obtain ⟨gen, n, entered⟩ := enter_referenced s after new target g start h
    rw [entered]
    obtain rfl | rfl := h <;> simp [TimingState.holdover]
  · obtain ⟨gen, o, n, entered⟩ := enter_holdover s after new target g start h
    have holds : new.holdover = true := (holdover_iff new).2 h
    rw [entered]
    simp [State.heldSolver, State.changing, holds, State.cfg, and_comm]

theorem enter_posts_change_alone (h : new.holdover = false) :
    (s.enter after new target g start).port.outbox = s.port.outbox ++ [s.entryPosting after new target] ∧
    (s.enter after new target g start).temp = s.temp := by
  have other : (new = .free ∨ new = .acquiring) ∨ (new = .anchored ∨ new = .borrowing) := by
    obtain hk | hk | hk := timing_kinds new
    · exact .inl hk
    · exact .inr hk
    · exact absurd ((holdover_iff new).2 hk) (by simp [h])
  obtain hk | hk := other
  · obtain ⟨gen, n, entered⟩ := enter_untimed s after new target g start hk
    rw [entered]
    exact ⟨rfl, rfl⟩
  · obtain ⟨gen, n, entered⟩ := enter_referenced s after new target g start hk
    rw [entered]
    exact ⟨rfl, rfl⟩

theorem enter_untimed_sets (h : new = .free ∨ new = .acquiring) :
    (s.enter after new target g start).solver.bound = 1000000000000000 ∧
    (s.enter after new target g start).solver.lockCount = 0 ∧
    (s.enter after new target g start).solver.validTime = s.solver.validTime := by
  obtain ⟨gen, n, entered⟩ := enter_untimed s after new target g start h
  rw [entered]
  exact ⟨rfl, rfl, rfl⟩

theorem enter_referenced_sets (h : new = .anchored ∨ new = .borrowing) :
    (s.enter after new target g start).solver.bound = s.solver.bound ∧
    (s.enter after new target g start).solver.validTime = true := by
  obtain ⟨gen, n, entered⟩ := enter_referenced s after new target g start h
  rw [entered]
  exact ⟨rfl, rfl⟩

/-- H, trim and R of an entry to holdover, and what the temperature unit freezes (R126, R137, R155). -/
theorem enter_holdover_sets (h : new = .coasting ∨ new = .alone) :
    let t := s.enter after new target g start
    t.solver.anchorH = s.solver.steerF - t.temp.predict.1 ∧ t.solver.trim = 0 ∧
    t.solver.rate = rate0 t.solver.growthClass * ensembleFactor t.solver.growthN ∧
    t.temp = s.tempHeld s.solver.timing := by
  intro t
  obtain ⟨gen, o, n, entered⟩ := enter_holdover s after new target g start h
  rw [show t = _ from entered]
  exact ⟨rfl, rfl, rfl, rfl⟩

theorem enter_coasting_sets :
    let t := s.enter after .coasting target g start
    t.solver.validTime = true ∧ t.solver.growthClass = g.cls ∧ t.solver.growthN = g.n ∧
    t.solver.bound = start.getD s.solver.bound := by
  intro t
  obtain ⟨gen, o, n, entered⟩ := enter_holdover s after .coasting target g start (.inl rfl)
  rw [show t = _ from entered]
  exact ⟨rfl, rfl, rfl, rfl⟩

theorem enter_alone_sets :
    let t := s.enter after .alone target g start
    t.solver.validTime = s.solver.validTime ∧ t.solver.growthClass = s.cfg.cls ∧ t.solver.growthN = 1 ∧
    t.solver.bound = s.solver.bound := by
  intro t
  obtain ⟨gen, o, n, entered⟩ := enter_holdover s after .alone target g start (.inr rfl)
  rw [show t = _ from entered]
  exact ⟨rfl, rfl, rfl, rfl⟩

end Enter

/-! ## The transition rule, case by case (R126) -/

section Transition

variable {s : State} (after : Option Lane) (g : Growth)

theorem transition_unsourced_stays (h : s.solver.timing = .free ∨ s.solver.timing = .alone) :
    s.transition after none g = s := by
  obtain h | h := h <;> simp only [State.transition, h]

theorem transition_free (h : s.solver.timing = .free) (x : Target) :
    s.transition after (some x) g = s.enter after .acquiring (some x) g none := by
  simp only [State.transition, h]

theorem transition_acquiring (h : s.solver.timing = .acquiring) (x : Target) : s.transition after (some x) g =
    if s.solver.target = some x then s else s.enter after .acquiring (some x) g none := by
  simp only [State.transition, h]

theorem transition_acquiring_unsourced (h : s.solver.timing = .acquiring) : s.transition after none g =
    if s.solver.validTime then s.enter after .alone none g none else s.enter after .free none g none := by
  simp only [State.transition, h]

theorem transition_unsourced (h : s.solver.timing = .anchored ∨ s.solver.timing = .borrowing ∨
    s.solver.timing = .coasting) : s.transition after none g = s.enter after .alone none g none := by
  obtain h | h | h := h <;> simp only [State.transition, h]

theorem transition_timed (h : s.solver.timing = .anchored ∨ s.solver.timing = .borrowing ∨
    s.solver.timing = .coasting ∨ s.solver.timing = .alone) (x : Target) : s.transition after (some x) g =
    if s.solver.timing = x.state then s
    else if s.solver.timeValid then s.enter after x.state none g none
    else s.enter after .acquiring (some x) g none := by
  obtain h | h | h | h := h <;> simp only [State.transition, h]

end Transition

/-! ## The growth of a set (R137) -/

theorem maxClass_spec (c : OscClass) (ds : List OscClass) :
    c ≤ maxClass c ds ∧ (∀ d ∈ ds, d ≤ maxClass c ds) ∧ (maxClass c ds = c ∨ maxClass c ds ∈ ds) := by
  induction ds generalizing c with
  | nil => exact ⟨le_refl c, nofun, .inl rfl⟩
  | cons d ds ih =>
    obtain ⟨least, all, attained⟩ := ih (max c d)
    rw [maxClass]
    refine ⟨(le_max_left c d).trans least, List.forall_mem_cons.2 ⟨(le_max_right c d).trans least, all⟩, ?_⟩
    obtain reached | inside := attained
    · obtain first | second := max_choice c d
      · exact .inl (reached.trans first)
      · exact .inr (by rw [reached, second]; exact List.mem_cons_self)
    · exact .inr (List.mem_cons_of_mem d inside)

/-- The growth of a set: its number of members, and the highest class among them. -/
theorem growthOf_spec (member : Bool) (own : OscClass) (classes : List OscClass) :
    let g := growthOf member own classes
    g.n = classes.length + (if member then 1 else 0) ∧ (∀ c ∈ classes, c ≤ g.cls) ∧ (member = true → own ≤ g.cls) ∧
    (g.cls ∈ classes ∨ (g.cls = own ∧ (member = true ∨ classes = []))) := by
  cases member with
  | true =>
    obtain ⟨least, all, attained⟩ := maxClass_spec own classes
    exact ⟨rfl, all, fun _ => least, attained.symm.imp_right fun h => ⟨h, .inl rfl⟩⟩
  | false =>
    cases classes with
    | nil => exact ⟨rfl, nofun, nofun, .inr ⟨rfl, .inr rfl⟩⟩
    | cons c cs =>
      obtain ⟨least, all, attained⟩ := maxClass_spec c cs
      refine ⟨rfl, List.forall_mem_cons.2 ⟨least, all⟩, nofun, .inl ?_⟩
      exact List.mem_cons.2 attained

theorem sourceOf_eq (qualified member anchored peer : Bool) : sourceOf qualified member anchored peer =
    if qualified then some .anchored
    else if member = true ∧ anchored = true then some .borrowing
    else if member = true ∧ peer = true then some .coasting
    else none := by
  simp only [sourceOf, Bool.and_eq_true]

/-! ## The statement -/

theorem stateChangeValue_eq (new : TimingState) (target : Option Target) :
    ((stateChangeValue new target : Nat) : Int) =
      new.code + 256 * (match target with | some x => (x.state.code : Int) | none => 0) := by
  cases target with
  | none => simp [stateChangeValue]
  | some x => simp [stateChangeValue]

/-- Settles O36: the transition rule case by case, an entry by what it sets and leaves, and the growth of a set by its
highest class. -/
theorem sourcePriorityMovesTheTimingState : Obligations.SourcePriorityMovesTheTimingState := by
  refine ⟨sourceOf_eq, fun s after source g => ?_, fun s after new target g start => ?_, growthOf_spec, rfl, rfl, rfl⟩
  · intro t now
    have rule : t = s.transition after source g := rfl
    refine ⟨?_, ?_, ?_, ?_, ?_, ?_, ?_, ?_⟩
    · rintro h rfl
      exact transition_unsourced_stays after g h
    · rintro x h rfl
      exact transition_free after g h x
    · rintro x h rfl same
      rw [rule, transition_acquiring after g h x, if_pos same]
    · rintro x h rfl other
      rw [rule, transition_acquiring after g h x, if_neg other]
    · rintro h rfl valid
      rw [rule, transition_acquiring_unsourced after g h, if_pos valid]
    · rintro h rfl invalid
      rw [rule, transition_acquiring_unsourced after g h, invalid]
      rfl
    · rintro h rfl
      exact transition_unsourced after g h
    · rintro x h rfl
      rw [rule, transition_timed after g h x]
      refine ⟨fun same => if_pos same, fun other valid => ?_, fun other invalid => ?_⟩
      · rw [if_neg other, if_pos valid]
      · rw [if_neg other, invalid]
        rfl
  · intro t old holdover change
    have holds (x : TimingState) : holdover x ↔ x.holdover = true := (holdover_iff x).symm
    have posting : change = s.entryPosting after new target :=
      congrArg (fun value => (⟨.solver, s.ts.epoch, .stateChange, none, some (signed32 value), after⟩ : Posting))
        (stateChangeValue_eq new target).symm
    obtain ⟨timing, target', stateHeld, steerF, lastE⟩ := enter_changes s after new target g start
    obtain ⟨-, ts, ref, -, -, mem, roster, -⟩ := enter_keeps s after new target g start
    have level : t.solver.timeValid = timeValidOf new t.solver.overBudget := enter_timeValid s after new target g start
    refine ⟨timing, target', stateHeld, steerF, lastE, ref, mem, roster, ts, ?_, ?_, ?_, fun h => ?_,
      enter_untimed_sets s after new target g start, enter_referenced_sets s after new target g start, fun h => ?_, ?_, ?_⟩
    · rw [posting]
      exact entryPosting_posted s after new target g start
    · rw [level]
      exact timeValidOf_iff new _
    · rw [holds, holds]
      exact enter_overBudget s after new target g start
    · rw [posting]
      exact enter_posts_change_alone s after new target g start (by rwa [holds, Bool.not_eq_true] at h)
    · obtain ⟨anchorH, trim, rate, temp⟩ := enter_holdover_sets s after new target g start h
      refine ⟨anchorH, trim, rate, fun within => temp.trans ?_, fun fresh => temp.trans ?_⟩
      · exact if_pos ((holds old).1 within)
      · exact if_neg (mt (holds old).2 fresh)
    · rintro rfl
      exact enter_coasting_sets s after target g start
    · rintro rfl
      exact enter_alone_sets s after target g start

end Sys2Proof.Machine

/-! # What the commands can do to the timing state (R120, R126, R139, R143) -/

namespace Sys2Proof.Machine

open Sys2Proof

/-- What the timing states' rules speak of: the solver's state, bound and levels, the generators' level, the reference
state, and BEGIN (R120, R135, R139, R143). -/
structure TimingView where
  timing : TimingState
  target : Option Target
  bound : Nat
  lockCount : Nat
  overBudget : Bool
  timeValid : Bool
  level : Bool
  reference : RefState
  begun : Bool

/-- The view of a state. -/
def State.timingView (s : State) : TimingView :=
  ⟨s.solver.timing, s.solver.target, s.solver.bound, s.solver.lockCount, s.solver.overBudget, s.solver.timeValid,
    s.gen.timeValid, s.ref.state, s.begun⟩

/-- Work outside the solver, the reference qualifier and the generators' level moves nothing of the view. -/
theorem timingView_of_same {s t : State} (timing : t.solver.timing = s.solver.timing)
    (target : t.solver.target = s.solver.target) (bound : t.solver.bound = s.solver.bound)
    (lockCount : t.solver.lockCount = s.solver.lockCount) (overBudget : t.solver.overBudget = s.solver.overBudget)
    (timeValid : t.solver.timeValid = s.solver.timeValid) (level : t.gen.timeValid = s.gen.timeValid)
    (reference : t.ref.state = s.ref.state) (begun : t.begun = s.begun) : t.timingView = s.timingView := by
  simp only [State.timingView, timing, target, bound, lockCount, overBudget, timeValid, level, reference, begun]

section Quiet

variable (s : State)

/-! ## Time, the generators and the temperature unit -/

@[simp] theorem advance_timingView (d : Nat) : (s.advance d).timingView = s.timingView := by
  simp [State.timingView, State.begun]

@[simp] theorem settle_timingView : s.settle.timingView = s.timingView := by
  simp [State.timingView, State.begun]

@[simp] theorem startPulse_timingView (i : Fin 4) : (s.startPulse i).timingView = s.timingView := by
  unfold State.startPulse
  split <;> rfl

@[simp] theorem filteredBecomes_timingView (level : Bool) : (s.filteredBecomes level).timingView = s.timingView := by
  unfold State.filteredBecomes
  dsimp only
  repeat' split
  all_goals rfl

@[simp] theorem inhibitTaken_timingView (a : Bool) : (s.inhibitTaken a).timingView = s.timingView := by
  unfold State.inhibitTaken
  dsimp only
  repeat' split
  all_goals rfl

@[simp] theorem clearInhibit_timingView : s.clearInhibit.timingView = s.timingView := by
  unfold State.clearInhibit
  split <;> rfl

@[simp] theorem takeSample_timingView (die : Int) : (s.takeSample die).timingView = s.timingView := by
  unfold State.takeSample State.judgeRange
  dsimp only
  repeat' split
  all_goals rfl

/-! ## The roster -/

@[simp] theorem noteFrame_timingView (f : Frame) : (s.noteFrame f).timingView = s.timingView := by
  unfold State.noteFrame State.noteDifference
  repeat' split
  all_goals rfl

@[simp] theorem offerEntry_timingView (f : Frame) : (s.offerEntry f).timingView = s.timingView := by
  unfold State.offerEntry
  dsimp only
  repeat' split
  all_goals rfl

@[simp] theorem rosterTakes_timingView (f : Frame) : (s.rosterTakes f).timingView = s.timingView := by
  cases hf : s.roster.find f.sender with
  | some e =>
    rw [rosterTakes_known s hf, noteFrame_timingView]
    rfl
  | none => rw [rosterTakes_unknown s hf, noteFrame_timingView, offerEntry_timingView]

@[simp] theorem rosterLeave_timingView (k : NodeId) (r : LeaveReason) :
    (s.rosterLeave k r).timingView = s.timingView := by
  unfold State.rosterLeave
  split <;> rfl

@[simp] theorem rosterNotice_timingView (k : NodeId) (e : Epoch) (t : TimingState) :
    (s.rosterNotice k e t).timingView = s.timingView := by
  unfold State.rosterNotice State.noteDifference
  dsimp only
  repeat' split
  all_goals rfl

@[simp] theorem rosterMarks_timingView : s.rosterMarks.timingView = s.timingView := by
  rw [rosterMarks_eq]
  rfl

@[simp] theorem rosterBoundary_timingView (ev : BoundaryEvent) : (s.rosterBoundary ev).timingView = s.timingView := by
  unfold State.rosterBoundary
  dsimp only
  repeat' split
  all_goals rfl

/-! ## The membership unit, from BEGIN on -/

@[simp] theorem changeState_lockCount (new : MembershipState) :
    (s.changeState new).solver.lockCount = s.solver.lockCount := by
  unfold State.changeState
  dsimp only
  split <;> rfl

theorem changeState_timingView (hb : s.begun = true) {new : MembershipState} (hn : new ≠ .unconfigured) :
    (s.changeState new).timingView = s.timingView := by
  refine timingView_of_same (by simp) (by simp) (by simp) (by simp) (by simp) (by simp) (by simp) (by simp) ?_
  rw [hb]
  exact begun_of_state (by rw [changeState_mem]) hn

theorem enterListen_timingView (hb : s.begun = true) : s.enterListen.timingView = s.timingView :=
  changeState_timingView { s with mem := s.mem.listenAfresh s.mark.fault } (by exact hb) (new := .listen) nofun

theorem enterAligning_timingView (hb : s.begun = true) : s.enterAligning.timingView = s.timingView :=
  changeState_timingView { s with mem := { s.mem with aligningCount := 0, emptyCount := 0 } } (by exact hb)
    (new := .aligning) nofun

@[simp] theorem requestLeave_timingView (r : LeaveReason) : (s.requestLeave r).timingView = s.timingView := by
  simp [State.timingView, State.begun]

theorem enterConflict_timingView (hb : s.begun = true) (c : Cause) :
    (s.enterConflict c).timingView = s.timingView :=
  (requestLeave_timingView _ _).trans
    (changeState_timingView (s.postInt .membership .conflict none c.code) (by exact hb) (new := .conflict) nofun)

theorem enterWithdrawn_timingView (hb : s.begun = true) (r : LeaveReason) :
    (s.enterWithdrawn r).timingView = s.timingView := by
  have changed := changeState_timingView s hb (new := .withdrawn) nofun
  unfold State.enterWithdrawn
  dsimp only
  split
  · rw [requestLeave_timingView, changed]
  · exact changed

@[simp] theorem report_timingView (c : Cause) : (s.report c).timingView = s.timingView := by
  by_cases hc : s.mem.state.active = true ∧ s.mem.evidenceLast = true
  · rw [report_repeats s c hc.1 hc.2]
    exact enterConflict_timingView s (begun_of_active hc.1) c
  · obtain ⟨e, he⟩ := report_notes s c hc
    rw [he]
    rfl

@[simp] theorem reportOwnId_timingView : s.reportOwnId.timingView = s.timingView := by
  unfold State.reportOwnId
  dsimp only
  split
  · exact report_timingView _ _
  · exact report_timingView _ _

theorem adopted_timingView (hb : s.begun = true) : s.adoptEnsemble.enterAligning.timingView = s.timingView := by
  obtain ⟨adopt, out, adopted⟩ := adoptEnsemble_shape s
  rw [adopted]
  exact enterAligning_timingView _ (by exact hb)

@[simp] theorem memberLeave_timingView : s.memberLeave.timingView = s.timingView := by
  rw [memberLeave_eq]
  rfl

@[simp] theorem reasonsChecked_timingView : s.reasonsChecked.timingView = s.timingView := by
  unfold State.reasonsChecked
  split
  next hs => exact enterListen_timingView s (begun_of_state hs.1 nofun)
  next => rfl

@[simp] theorem supplyFell_timingView : s.supplyFell.timingView = s.timingView := by
  unfold State.supplyFell
  dsimp only
  split
  case h_1 hs | h_2 hs | h_3 hs | h_4 hs | h_5 hs =>
    exact enterWithdrawn_timingView _ (by exact begun_of_state hs nofun) _
  all_goals rfl

@[simp] theorem supplyRose_timingView : s.supplyRose.timingView = s.timingView := reasonsChecked_timingView _

@[simp] theorem withdraw_timingView : s.withdraw.timingView = s.timingView := by
  unfold State.withdraw
  split
  case h_1 hs | h_2 hs | h_3 hs | h_4 hs | h_5 hs =>
    exact enterWithdrawn_timingView { s with mem.reasonCommand := true } (by exact begun_of_state hs nofun) .command
  all_goals rfl

@[simp] theorem resume_timingView : s.resume.timingView = s.timingView := by
  unfold State.resume
  split
  · exact reasonsChecked_timingView { s with mem.reasonCommand := false }
  · rfl

/-! ## The frames that arrive, and the WORD line -/

@[simp] theorem frameFault_timingView (k : ErrorKind) (j : Option NodeId) :
    (s.frameFault k j).timingView = s.timingView := by
  simp [State.timingView, State.begun]

@[simp] theorem leaveArrives_timingView (f : Frame) : (s.leaveArrives f).timingView = s.timingView := by
  unfold State.leaveArrives
  split
  · exact reportOwnId_timingView s
  · split
    · rw [memberLeave_timingView, rosterLeave_timingView]
    · rfl
    · rfl

@[simp] theorem tryStart_timingView : s.tryStart.timingView = s.timingView := by
  simp [State.timingView, State.begun]

@[simp] theorem wordFallSeen_timingView : s.wordFallSeen.timingView = s.timingView := by
  unfold State.wordFallSeen
  dsimp only
  repeat' split
  all_goals simp [State.timingView, State.begun]

@[simp] theorem wordRises_timingView : s.wordRises.timingView = s.timingView := by
  unfold State.wordRises
  dsimp only
  split
  · exact report_timingView _ _
  · rfl

@[simp] theorem driveBit_timingView : s.driveBit.timingView = s.timingView := by
  unfold State.driveBit
  dsimp only
  split
  · rfl
  · simp [State.timingView, State.begun]

@[simp] theorem bitEnds_timingView : s.bitEnds.timingView = s.timingView := by
  unfold State.bitEnds
  split
  · rfl
  all_goals split
  case h_2.isFalse | h_3.isFalse => exact driveBit_timingView s
  all_goals rfl

@[simp] theorem lineIdle_timingView : s.lineIdle.timingView = s.timingView := by
  unfold State.lineIdle
  split
  · rfl
  · split
    · rfl
    all_goals exact tryStart_timingView _

@[simp] theorem dropInFlight_timingView : s.dropInFlight.timingView = s.timingView := by
  unfold State.dropInFlight
  split <;> rfl

@[simp] theorem openTalk_timingView : s.openTalk.timingView = s.timingView := by
  unfold State.openTalk
  dsimp only
  split <;> exact tryStart_timingView _

@[simp] theorem closeTalk_timingView : s.closeTalk.timingView = s.timingView := by
  unfold State.closeTalk
  dsimp only
  repeat' split
  all_goals rfl

@[simp] theorem wordStuck_timingView : s.wordStuck.timingView = s.timingView := by
  unfold State.wordStuck State.returnTalk
  dsimp only
  repeat' split
  all_goals rfl

@[simp] theorem wordRecovered_timingView : s.wordRecovered.timingView = s.timingView := tryStart_timingView _

/-! ## The MARK line -/

@[simp] theorem markFalls_timingView : s.markFalls.timingView = s.timingView := by
  unfold State.markFalls
  dsimp only
  split <;> rfl

@[simp] theorem slotTime_timingView (k : NodeId) : (s.slotTime k).timingView = s.timingView := by
  unfold State.slotTime State.assertMark
  dsimp only
  repeat' split
  · exact markFalls_timingView _
  all_goals rfl

@[simp] theorem strayEdge_timingView (p : Nat) : (s.strayEdge p).timingView = s.timingView := by
  unfold State.strayEdge
  dsimp only
  split <;> rfl

theorem takeTrainEdge_timingView (x : Stamp) (high : Nat) :
    State.timingView { s with mem := s.mem.takeEdge x high } = s.timingView := by
  have kept : (s.mem.takeEdge x high).state = s.mem.state := by
    unfold Membership.takeEdge Membership.takeTrainStart
    dsimp only
    repeat' split
    all_goals rfl
  exact timingView_of_same rfl rfl rfl rfl rfl rfl rfl rfl (by simp [State.begun, kept])

@[simp] theorem acceptMark_timingView (c : MarkCandidate) : (s.acceptMark c).timingView = s.timingView :=
  acceptMark_of (P := fun t => t.timingView = s.timingView) c rfl rfl (takeTrainEdge_timingView s.edgeTaken _ _)
    (fun _ _ => rfl) (fun _ => rfl) (fun _ => strayEdge_timingView _ _)

@[simp] theorem acceptHeld_timingView : s.acceptHeld.timingView = s.timingView := by
  unfold State.acceptHeld
  split
  · exact acceptMark_timingView _ _
  · rfl

@[simp] theorem candidateAtRise_timingView : s.candidateAtRise.timingView = s.timingView := by
  unfold State.candidateAtRise
  split
  · split
    · exact acceptMark_timingView _ _
    · rfl
  · rfl

@[simp] theorem confirmEvidence_timingView : s.confirmEvidence.timingView = s.timingView := by
  unfold State.confirmEvidence
  split
  case h_1 => rfl
  case h_2 c cs _ =>
    split
    · rfl
    · obtain ⟨n, chosen⟩ := choose_shape c cs s
      generalize s.choose c cs = x at chosen
      obtain ⟨cause, t⟩ := x
      subst chosen
      exact report_timingView _ cause

@[simp] theorem markRises_timingView : s.markRises.timingView = s.timingView := by
  have risen := candidateAtRise_timingView s
  unfold State.markRises
  dsimp only
  split
  · exact (confirmEvidence_timingView _).trans risen
  · exact risen

@[simp] theorem markStuck_timingView : s.markStuck.timingView = s.timingView := by
  unfold State.markStuck
  dsimp only
  repeat' split
  all_goals rfl

/-! ## The boundary -/

@[simp] theorem memberJudged_timingView : s.memberJudged.timingView = s.timingView := by
  by_cases hs : s.mem.state = .unconfigured
  · rw [memberJudged_idle s (by rw [hs]; rfl)]
  have hb : s.begun = true := begun_of_state rfl hs
  obtain e | e | e | e | ⟨quiet, e⟩ | e | e := memberJudged_cases s
  all_goals rw [e]
  · rfl
  · exact changeState_timingView _ (by exact hb) (new := .member) nofun
  · exact changeState_timingView _ (by exact hb) (new := .joining) nofun
  · exact timingView_of_same rfl rfl rfl rfl rfl rfl rfl rfl hb.symm
  · rfl
  · exact enterListen_timingView _ (by exact hb)

@[simp] theorem memberBoundary_timingView (ev : BoundaryEvent) : (s.memberBoundary ev).timingView = s.timingView := by
  obtain ⟨out, ps, moved⟩ := evidenceMoved_shape ev s
  rw [memberBoundary_eq, memberJudged_timingView, moved]
  rfl

@[simp] theorem markBoundary_timingView (forward : Bool) : (s.markBoundary forward).timingView = s.timingView := by
  unfold State.markBoundary State.reportEarly
  split
  · exact report_timingView _ _
  · rfl

theorem judgeAligning_timingView (hb : s.begun = true) : s.judgeAligning.timingView = s.timingView := by
  obtain ⟨a, e, judged | judged⟩ := judgeAligning_cases s
  · rw [judged]
    rfl
  · rw [judged]
    exact enterListen_timingView _ (by exact hb)

@[simp] theorem endOfMark_timingView : s.endOfMark.timingView = s.timingView := by
  unfold State.endOfMark
  dsimp only
  split
  next hs => rw [tryStart_timingView, judgeAligning_timingView s (begun_of_state hs.1 nofun)]
  next => exact tryStart_timingView s

@[simp] theorem afterJump_timingView (forward : Option Nat) : (s.afterJump forward).timingView = s.timingView := by
  unfold State.afterJump
  split
  · rfl
  · split
    · exact endOfMark_timingView s
    · exact tryStart_timingView s

@[simp] theorem boundaryProper_timingView (step : Option Int) (forward : Option Nat) (discarded : Bool) :
    (s.boundaryProper step forward discarded).timingView = s.timingView := by
  have marked : (s.markedAt step forward discarded).timingView = s.timingView := by
    unfold State.markedAt State.rosteredAt State.judgedAt
    rw [markBoundary_timingView, rosterBoundary_timingView, memberBoundary_timingView]
    rfl
  rw [boundaryProper_stages, afterJump_timingView]
  unfold State.countedAt State.generatedAt
  rw [← marked]
  simp [State.timingView, State.begun]

@[simp] theorem decideStep_timingView : s.decideStep.timingView = s.timingView := by
  unfold State.decideStep
  split
  · exact boundaryProper_timingView _ _ _ _
  · split
    · exact boundaryProper_timingView _ _ _ _
    · split
      · exact boundaryProper_timingView _ _ _ _
      · rfl

/-! ## The local port -/

@[simp] theorem setup_timingView (p : List Byte) : (s.setup p).timingView = s.timingView := by
  unfold State.setup
  repeat' split
  all_goals rfl

@[simp] theorem loadPage_timingView (p : List Byte) : (s.loadPage p).timingView = s.timingView := by
  unfold State.loadPage
  repeat' split
  all_goals rfl

@[simp] theorem readPage_timingView (p : List Byte) : (s.readPage p).timingView = s.timingView := by
  unfold State.readPage
  split <;> rfl

@[simp] theorem takeEvents_timingView (p : List Byte) : (s.takeEvents p).timingView = s.timingView := by
  unfold State.takeEvents
  split <;> rfl

@[simp] theorem trim_timingView (p : List Byte) : (s.trim p).timingView = s.timingView := by
  unfold State.trim
  repeat' split
  all_goals rfl

end Quiet

/-- BEGIN opens the generators at the solver's level (R162, R185). -/
theorem begin_timingView (s : State) : s.begin.timingView =
    { s.timingView with level := s.solver.timeValid, begun := true } := by
  have solver : s.begin.solver = s.enterListen.solver := by rw [begin_eq]; rfl
  obtain ⟨-, -, -, -, -, reference, -⟩ := begin_rest s
  have begun : s.begin.begun = true := begun_of_state (x := .listen) (by rw [begin_mem]) nofun
  have level : s.begin.gen.timeValid = s.solver.timeValid := by rw [begin_gen]; rfl
  have lockCount : s.enterListen.solver.lockCount = s.solver.lockCount := changeState_lockCount _ _
  simp [State.timingView, solver, reference, begun, level, lockCount]

/-! ## A rule that each of the unit's own moves keeps -/

/-- A rule about the timing state that work outside the view cannot break, and that the changes of reference state, the
request for FREE, BEGIN and the resets keep (R18, R24, R144, R185). -/
structure TimingLaw (P : State → Prop) : Prop where
  kept {s t : State} : t.timingView = s.timingView → P s → P t
  setRefState {s : State} (x : RefState) : P s → P (s.setRefState x)
  freeRequest {s : State} : P s → P s.freeRequest
  begin {s : State} : P s → P s.begin
  held {s : State} (table : Vector TempBin 80) : P s → P (s.held table)

section Law

variable {P : State → Prop} (law : TimingLaw P) {s : State} (h : P s)
include law h

/-! ### The reference qualifier (R19 to R36) -/

theorem loseRef_timing (c : LossCause) : P (s.loseRef c) := law.setRefState .absent (law.kept (by rfl) h)

theorem qualify_timing (r : Int) : P (s.qualify r) := law.setRefState .qualified (law.kept (by rfl) h)

theorem probationEdge_timing (e : RefEntry) : P (s.probationEdge e) := by
  unfold State.probationEdge
  dsimp only
  split <;> split
  · exact qualify_timing law (law.kept (by rfl) h) _
  · exact law.kept (by rfl) h
  · exact qualify_timing law (law.kept (by rfl) h) _
  · exact law.kept (by rfl) h

theorem takeOutlier_timing (e : RefEntry) : P (s.takeOutlier e) := by
  unfold State.takeOutlier State.refStepped
  dsimp only
  split
  · exact law.setRefState .probation (law.kept (by rfl) h)
  · split
    · exact loseRef_timing law (law.kept (by rfl) h) _
    · exact law.kept (by rfl) h

theorem trackEdge_timing (e : RefEntry) : P (s.trackEdge e) := by
  obtain ⟨n, predicted⟩ := predict_shape s
  unfold State.trackEdge
  dsimp only
  rw [predicted]
  split
  · exact law.kept (by rfl) h
  · exact takeOutlier_timing law (law.kept (by rfl) h) e

theorem takeEdge_timing (e : RefEntry) : P (s.takeEdge e) := by
  unfold State.takeEdge
  split
  case h_1 => exact law.setRefState .probation (law.kept (by rfl) h)
  case h_2 => exact probationEdge_timing law h e
  case h_3 | h_4 => exact trackEdge_timing law h e

theorem acceptEdge_timing (c : RefCandidate) : P (s.acceptEdge c) := by
  unfold State.acceptEdge
  dsimp only
  split
  · exact law.kept (by rfl) h
  · exact takeEdge_timing law (law.kept (by rfl) h) _

theorem candidateAccepted_timing : P s.candidateAccepted := by
  unfold State.candidateAccepted
  split
  · exact acceptEdge_timing law h _
  · exact h

theorem selectedTransition_timing : P s.selectedTransition := by
  unfold State.selectedTransition
  dsimp only
  repeat' split
  · exact h
  · exact acceptEdge_timing law h _
  · exact law.kept (by rfl) h

theorem refinTaken_timing (l : Level) : P (s.refinTaken l) := by
  unfold State.refinTaken
  dsimp only
  repeat' split
  · exact h
  · exact law.kept (by rfl) h
  · exact selectedTransition_timing law (law.kept (by rfl) h)
  · exact law.kept (by rfl) h

theorem refvalidTaken_timing (a : Bool) : P (s.refvalidTaken a) := by
  unfold State.refvalidTaken State.refvalidLost
  dsimp only
  repeat' split
  · exact h
  · exact law.kept (by rfl) h
  · exact loseRef_timing law (law.kept (by rfl) h) _
  · exact law.kept (by rfl) h

theorem refvalidPinBecomes_timing (d : Nat) (a : Bool) : P (s.refvalidPinBecomes d a) := by
  have advanced : P (s.advance d) := law.kept (by simp) h
  rw [refvalidPinBecomes_eq]
  split
  · exact refvalidTaken_timing law (law.kept (by rfl) advanced) _
  · exact law.kept (by rfl) advanced

theorem referenceTaken_timing : P s.referenceTaken := by
  have chosen : P (s.choose false [true]).2 := law.kept (by rfl) h
  unfold State.referenceTaken
  dsimp only
  split
  · split
    · exact refinTaken_timing law (refvalidTaken_timing law chosen _) _
    · exact refvalidTaken_timing law (refinTaken_timing law chosen _) _
  · exact refvalidTaken_timing law (refinTaken_timing law h _) _

theorem closeTracked_timing : P s.closeTracked := by
  have judged (u : State) (hu : P u) : P (if u.cfg.missLimit ≤ u.ref.missCount then u.loseRef .misses else u) := by
    split
    · exact loseRef_timing law hu _
    · exact hu
  exact judged _ (law.kept (by rfl) h)

theorem closeInterval_timing : P s.closeInterval.2 := by
  have closed : P s.closeByState := by
    unfold State.closeByState
    split
    case h_1 => exact h
    case h_2 =>
      split
      · exact h
      · exact law.setRefState .absent (law.kept (by rfl) h)
    case h_3 | h_4 => exact closeTracked_timing law h
  exact law.kept (by rfl) closed

/-! ### The coarse step, and the frames that bring it about (R87, R88, R144) -/

theorem decideAlignment_timing (hb : s.begun = true) (delta : Int) : P (s.decideAlignment delta) := by
  unfold State.decideAlignment
  split
  · exact law.kept (adopted_timingView s hb) h
  · split
    · split
      · exact law.kept (changeState_timingView _ (by exact hb) (new := .apart) nofun) (law.kept (by rfl) h)
      · exact law.kept (by rfl) h
    · have stepped : P (s.freeRequest.requestStep (-delta)) :=
        law.kept (by simp [State.timingView, State.begun]) (law.freeRequest h)
      exact law.kept (adopted_timingView _ (by simpa [State.begun] using hb)) stepped

theorem listenDelivery_timing (hb : s.begun = true) (f : Frame) : P (s.listenDelivery f) := by
  unfold State.listenDelivery
  dsimp only
  split
  · exact decideAlignment_timing law (law.kept (by rfl) h) (by exact hb) _
  · exact law.kept (by rfl) h

theorem deliver_timing (f : Frame) : P (s.deliver f) := by
  have taken : P (s.rosterTakes f) := law.kept (rosterTakes_timingView s f) h
  unfold State.deliver State.memberDelivery
  split
  case h_1 hs | h_2 hs => exact listenDelivery_timing law taken (begun_of_state hs nofun) f
  case h_3 => cases f <;> exact law.kept (by rfl) taken
  all_goals exact law.kept (by rfl) taken

theorem censusArrives_timing (f : Frame) : P (s.censusArrives f) := by
  unfold State.censusArrives
  split
  · exact law.kept (reportOwnId_timingView s) h
  · split
    · split
      · exact law.kept (by simp) h
      · exact deliver_timing law h _
    · exact law.kept (by rfl) h
    · exact law.kept (by rfl) h

theorem joinArrives_timing (f : Frame) : P (s.joinArrives f) := by
  unfold State.joinArrives
  split
  · exact law.kept (reportOwnId_timingView s) h
  · exact deliver_timing law h f

theorem takeBegin_timing : P s.takeBegin := by
  unfold State.takeBegin
  split
  · exact law.kept (by rfl) h
  · exact law.kept (by rfl) (law.begin h)

/-! ### The commands -/

theorem settle_timing : P s.settle := law.kept (settle_timingView s) h

theorem atExpiry_timing {f : State → State} (r : Option Nat) (hf : ∀ {u : State}, P u → P (f u)) :
    P (s.atExpiry r f) :=
  atExpiry_of r h fun _ => hf (law.kept (by rfl) h)

theorem atPoint_timing {f : State → State} (p : PhasePoint) (hf : ∀ {u : State}, P u → P (f u)) : P (s.atPoint p f) :=
  atPoint_of p h (hf (law.kept (by rfl) h))

theorem atRise_timing {f : State → State} (d : Nat) (hf : ∀ {u : State}, P u → P (f u)) : P (s.atRise d f) := by
  have advanced : P (s.advance d) := law.kept (advance_timingView s d) h
  obtain ⟨-, e⟩ | ⟨-, e⟩ := atRise_cases d f s
  · rwa [e]
  · rw [e]
    exact hf (law.kept (by rfl) advanced)

theorem execEndOfEpoch_timing : NextHolds P (execEndOfEpoch s) := by
  unfold execEndOfEpoch
  split
  · exact nextHolds_next (law.kept (by simp; rfl) h)
  · exact nextHolds_next h

theorem execReplayEnd_timing : NextHolds P (execReplayEnd s) := by
  unfold execReplayEnd
  split
  · exact nextHolds_next (law.kept (by simp; rfl) h)
  · exact nextHolds_next h

theorem execResetRelease_timing (straps : NodeId) : NextHolds P (execResetRelease straps s) := by
  unfold execResetRelease
  split
  · exact nextHolds_next (law.kept (by rfl) h)
  · exact nextHolds_next h

theorem execRefinTransition_timing (dt : Nat) (rising : Bool) : NextHolds P (execRefinTransition dt rising s) := by
  have advanced : P (s.advance dt) := law.kept (advance_timingView s dt) h
  rw [execRefinTransition_eq]
  refine nextHolds_next (settle_timing law ?_)
  split
  · exact refinTaken_timing law (law.kept (by rfl) advanced) _
  · exact law.kept (by rfl) advanced

theorem execMarkFall_timing (dt : Nat) : NextHolds P (execMarkFall dt s) := by
  unfold execMarkFall
  dsimp only
  split <;> exact nextHolds_next (law.kept (by simp) h)

theorem execMarkRise_timing (dt : Nat) : NextHolds P (execMarkRise dt s) := by
  have advanced : P (s.advance dt) := law.kept (advance_timingView s dt) h
  unfold execMarkRise
  dsimp only
  split
  · split
    · exact nextHolds_next (settle_timing law (law.kept (markRises_timingView _) (law.kept (by rfl) advanced)))
    · exact nextHolds_next (law.kept (by rfl) advanced)
  · exact nextHolds_next (law.kept (by rfl) advanced)

theorem execWordFall_timing (dt : Nat) : NextHolds P (execWordFall dt s) := by
  unfold execWordFall
  dsimp only
  split <;> exact nextHolds_next (law.kept (by simp) h)

theorem execWordRise_timing (dt : Nat) : NextHolds P (execWordRise dt s) := by
  have advanced : P (s.advance dt) := law.kept (advance_timingView s dt) h
  unfold execWordRise
  dsimp only
  split
  · split
    · exact nextHolds_next (settle_timing law (law.kept (wordRises_timingView _) (law.kept (by rfl) advanced)))
    · exact nextHolds_next (law.kept (by rfl) advanced)
  · exact nextHolds_next (law.kept (by rfl) advanced)

theorem execArbitrationLoss_timing : NextHolds P (execArbitrationLoss s) := by
  unfold execArbitrationLoss
  split <;> exact nextHolds_next (law.kept (by rfl) h)

theorem execPayloadCollision_timing : NextHolds P (execPayloadCollision s) := by
  have dropped : P s.dropInFlight := law.kept (dropInFlight_timingView s) h
  unfold execPayloadCollision
  split
  · exact nextHolds_next (law.kept (by rfl) dropped)
  · exact nextHolds_next h

theorem execFrameSent_timing : NextHolds P (execFrameSent s) := by
  unfold execFrameSent
  split <;> exact nextHolds_next (law.kept (by rfl) h)

theorem execFrameError_timing : NextHolds P (execFrameError s) := by
  unfold execFrameError
  split
  case h_1 | h_2 => exact nextHolds_next (law.kept (by simp; rfl) h)
  case h_3 | h_4 => exact nextHolds_next h

theorem execCensusReceived_timing : NextHolds P (execCensusReceived s) := by
  unfold execCensusReceived
  split
  · exact nextHolds_next (settle_timing law (censusArrives_timing law (law.kept (by rfl) h) _))
  · exact nextHolds_next h

theorem execJoinReceived_timing : NextHolds P (execJoinReceived s) := by
  unfold execJoinReceived
  split
  · exact nextHolds_next (settle_timing law (joinArrives_timing law (law.kept (by rfl) h) _))
  · exact nextHolds_next h

theorem execLeaveReceived_timing : NextHolds P (execLeaveReceived s) := by
  unfold execLeaveReceived
  split
  · exact nextHolds_next (law.kept (by simp; rfl) h)
  · exact nextHolds_next h

theorem execSupplySenseCrossing_timing (dt mV : Nat) : NextHolds P (execSupplySenseCrossing dt mV s) := by
  have advanced : P (s.advance dt) := law.kept (advance_timingView s dt) h
  unfold execSupplySenseCrossing
  dsimp only
  split <;> exact nextHolds_next (law.kept (by rfl) advanced)

theorem execInhibitPinChange_timing (dt : Nat) (a : Bool) : NextHolds P (execInhibitPinChange dt a s) := by
  have advanced : P (s.advance dt) := law.kept (advance_timingView s dt) h
  rw [execInhibitPinChange_eq]
  refine nextHolds_next ?_
  split
  · exact law.kept (inhibitTaken_timingView _ _) (law.kept (by rfl) advanced)
  · exact law.kept (by rfl) advanced

theorem execOscinReturn_timing : NextHolds P (execOscinReturn s) := by
  have taken : P (State.inhibitTaken s.pins.inhibitPin { s with pins.oscRunning := true }) :=
    law.kept (inhibitTaken_timingView _ _) (law.kept (by rfl) h)
  exact nextHolds_next (settle_timing law (referenceTaken_timing law taken))

theorem execTransactionStart_timing (dt : Nat) : NextHolds P (execTransactionStart dt s) := by
  have advanced : P (s.advance dt) := law.kept (advance_timingView s dt) h
  unfold execTransactionStart
  dsimp only
  split <;> exact nextHolds_next (law.kept (by rfl) advanced)

theorem execReadResponse_timing (dt count : Nat) : NextHolds P (execReadResponse dt count s) := by
  unfold execReadResponse
  split <;> exact nextHolds_next (atRise_timing law h dt fun hu => law.kept (by rfl) hu)

theorem execUnknownCommand_timing (dt : Nat) (code : Byte) : NextHolds P (execUnknownCommand dt code s) := by
  unfold execUnknownCommand
  split
  · exact nextHolds_next h
  · exact nextHolds_next (atRise_timing law h dt fun hu => law.kept (by rfl) hu)

theorem execResponseCompletion_timing (dt : Nat) : NextHolds P (execResponseCompletion dt s) := by
  have advanced : P (s.advance dt) := law.kept (advance_timingView s dt) h
  unfold execResponseCompletion
  dsimp only
  split <;> exact nextHolds_next (law.kept (by rfl) advanced)

/-- Every command keeps the rule, SOLVE_POINT where the solve does. -/
theorem exec_timing (i : Instr)
    (solve : i = .solvePoint → ∀ {u : State}, u.begun = true → P u → P u.solvePoint) : NextHolds P (exec i s) := by
  match i with
  | .powerOnReset | .resetPin => exact nextHolds_next (law.held _ h)
  | .resetRelease straps => exact execResetRelease_timing law h straps
  | .endOfEpoch => exact execEndOfEpoch_timing law h
  | .replayEnd => exact execReplayEnd_timing law h
  | .slotTime k => exact nextHolds_next (atPoint_timing law h _ fun hu => law.kept (slotTime_timingView _ k) hu)
  | .markRelease | .heldLowTest | .markRecovery | .blankingEnd | .pulseEnd _ | .wordSamplePoint =>
    exact nextHolds_next (atExpiry_timing law h _ fun hu => law.kept (by rfl) hu)
  | .endOfMarkRegion =>
    exact nextHolds_next (settle_timing law (atPoint_timing law h _ (law.kept (endOfMark_timingView _))))
  | .temperatureSample die =>
    exact nextHolds_next (settle_timing law (atPoint_timing law h _ (law.kept (takeSample_timingView _ die))))
  | .talkWindowOpening =>
    refine nextHolds_next (atPoint_timing law h _ fun hu => ?_)
    split
    · exact law.kept (openTalk_timingView _) hu
    · exact law.kept (by rfl) hu
  | .talkWindowClosing =>
    exact nextHolds_next (settle_timing law (atPoint_timing law h _ (law.kept (closeTalk_timingView _))))
  | .solvePoint =>
    refine nextHolds_next (settle_timing law (atPoint_timing law h _ fun hu => ?_))
    split
    next hb => exact solve rfl hb hu
    next => exact hu
  | .refinTransition dt rising => exact execRefinTransition_timing law h dt rising
  | .refinEdgeAccepted =>
    exact nextHolds_next (settle_timing law (atExpiry_timing law h _ (candidateAccepted_timing law)))
  | .refvalidDeassert dt => exact nextHolds_next (settle_timing law (refvalidPinBecomes_timing law h dt false))
  | .refvalidAssert dt => exact nextHolds_next (settle_timing law (refvalidPinBecomes_timing law h dt true))
  | .markFall dt => exact execMarkFall_timing law h dt
  | .markEdgeAccept =>
    exact nextHolds_next (settle_timing law (atExpiry_timing law h _ (law.kept (acceptHeld_timingView _))))
  | .markRise dt => exact execMarkRise_timing law h dt
  | .markStuck =>
    exact nextHolds_next (settle_timing law (atExpiry_timing law h _ (law.kept (markStuck_timingView _))))
  | .wordFall dt => exact execWordFall_timing law h dt
  | .wordRise dt => exact execWordRise_timing law h dt
  | .lineIdle => exact nextHolds_next (atExpiry_timing law h _ (law.kept (lineIdle_timingView _)))
  | .arbitrationLoss => exact execArbitrationLoss_timing law h
  | .payloadCollision => exact execPayloadCollision_timing law h
  | .frameSent => exact execFrameSent_timing law h
  | .frameError => exact execFrameError_timing law h
  | .censusReceived => exact execCensusReceived_timing law h
  | .joinReceived => exact execJoinReceived_timing law h
  | .leaveReceived => exact execLeaveReceived_timing law h
  | .wordStuck =>
    exact nextHolds_next (settle_timing law (atExpiry_timing law h _ (law.kept (wordStuck_timingView _))))
  | .wordRecovery => exact nextHolds_next (atExpiry_timing law h _ (law.kept (wordRecovered_timingView _)))
  | .supplySenseCrossing dt mV => exact execSupplySenseCrossing_timing law h dt mV
  | .supplyLow =>
    exact nextHolds_next (settle_timing law (atExpiry_timing law h _ (law.kept (supplyFell_timingView _))))
  | .supplyRestored =>
    exact nextHolds_next (settle_timing law (atExpiry_timing law h _ (law.kept (supplyRose_timingView _))))
  | .generatorStart g => exact nextHolds_next (atExpiry_timing law h _ (law.kept (startPulse_timingView _ g)))
  | .inhibitPinChange dt a => exact execInhibitPinChange_timing law h dt a
  | .filteredLevelChange =>
    exact nextHolds_next (settle_timing law (atExpiry_timing law h _ (law.kept (filteredBecomes_timingView _ _))))
  | .transactionStart dt => exact execTransactionStart_timing law h dt
  | .shortTransaction dt bits => exact nextHolds_next (atRise_timing law h dt id)
  | .readResponse dt count => exact execReadResponse_timing law h dt count
  | .setup dt payload => exact nextHolds_next (atRise_timing law h dt (law.kept (setup_timingView _ payload)))
  | .loadTablePage dt payload =>
    exact nextHolds_next (atRise_timing law h dt (law.kept (loadPage_timingView _ payload)))
  | .begin dt => exact nextHolds_next (settle_timing law (atRise_timing law h dt (takeBegin_timing law)))
  | .status dt => exact nextHolds_next (atRise_timing law h dt fun hu => law.kept (by rfl) hu)
  | .roster dt => exact nextHolds_next (atRise_timing law h dt fun hu => law.kept (by rfl) hu)
  | .tablePage dt payload => exact nextHolds_next (atRise_timing law h dt (law.kept (readPage_timingView _ payload)))
  | .events dt payload => exact nextHolds_next (atRise_timing law h dt (law.kept (takeEvents_timingView _ payload)))
  | .withdraw dt =>
    exact nextHolds_next (settle_timing law (atRise_timing law h dt (law.kept (withdraw_timingView _))))
  | .resume dt => exact nextHolds_next (settle_timing law (atRise_timing law h dt (law.kept (resume_timingView _))))
  | .trimGroup dt payload => exact nextHolds_next (atRise_timing law h dt (law.kept (trim_timingView _ payload)))
  | .clearInhibit dt =>
    exact nextHolds_next (settle_timing law (atRise_timing law h dt (law.kept (clearInhibit_timingView _))))
  | .unknownCommand dt code => exact execUnknownCommand_timing law h dt code
  | .responseCompletion dt => exact execResponseCompletion_timing law h dt
  | .wordBitStart => exact nextHolds_next (atExpiry_timing law h _ (law.kept (bitEnds_timingView _)))
  | .oscinStop dt => exact nextHolds_next (law.kept (by exact advance_timingView s dt) h)
  | .oscinReturn => exact execOscinReturn_timing law h

end Law

end Sys2Proof.Machine

/-! # Steering, and the lock (R127, R131 to R135, R138) -/

namespace Sys2Proof.Machine

open Sys2Proof

/-! ## Step 7 of the solve, case by case (R131 to R134) -/

/-- F corrected against e, outside COASTING (R132). -/
def State.corrected (e : Int) (s : State) : State :=
  { s with solver := { s.solver with
      lastE := some e
      steerF := clampPpt (s.solver.steerF - Int.tdiv (e * 1000) 1024) } }

/-- Trim corrected against e, and F formed of prediction, H and trim, in COASTING (R132, R133). -/
def State.trimmed (e : Int) (s : State) : State :=
  let trim := clampPpt (s.solver.trim - Int.tdiv (e * 1000) 1024)
  { s with solver := { s.solver with
      lastE := some e
      trim := trim
      steerF := clampPpt (s.temp.predict.1 + s.solver.anchorH + trim) } }

/-- The phase error kept and the lock count cleared, as a step is requested (R134). -/
def State.stepping (e : Int) (s : State) : State := { s with solver := { s.solver with lastE := some e, lockCount := 0 } }

theorem slew_eq (s : State) (e : Int) : s.slew e = clampInt (-s.cfg.slewLimit s.solver.timing)
    (s.cfg.slewLimit s.solver.timing) (-e) := rfl

section Steer

variable {s : State} (v : SolveView) {p : PhaseError} {e : Int}

theorem steer_unformed (he : p.e = none) (h : s.solver.timing ≠ .alone) : s.steer v p = (0, s) := by
  simp only [State.steer, he, if_neg h]

theorem steer_alone (he : p.e = none) (h : s.solver.timing = .alone) : s.steer v p =
    (0, { s with solver.steerF := clampPpt (s.temp.predict.1 + s.solver.anchorH) }) := by
  simp [State.steer, he, h, State.holdoverF]

theorem steer_steps (he : p.e = some e) (h : s.solver.timing = .acquiring) (far : ns s.cfg.stepLimit < e.natAbs) :
    s.steer v p = (0, (s.stepping e).requestStep (-e)) := by
  have wants : State.wantsStep e { s with solver.lastE := some e } = true := by
    simp only [State.wantsStep, h, Bool.and_eq_true, decide_eq_true_eq, true_and]
    exact far
  simp only [State.steer, he, wants, if_true, State.stepping]

/-- A solve that forms e and requests no step steers by F, or by trim, and judges the lock in ACQUIRING. -/
theorem steer_corrects (he : p.e = some e) (near : s.solver.timing = .acquiring → e.natAbs ≤ ns s.cfg.stepLimit) :
    s.steer v p = (s.slew e, if s.solver.timing = .acquiring
      then State.judgeLock v e (State.correctF e { s with solver.lastE := some e })
      else State.correctF e { s with solver.lastE := some e }) := by
  have slews : ¬ State.wantsStep e { s with solver.lastE := some e } = true := by
    simp only [State.wantsStep, Bool.and_eq_true, decide_eq_true_eq, not_and, not_lt]
    exact near
  simp only [State.steer, he, if_neg slews, decide_eq_true_eq]
  rfl

theorem correctF_eq (h : s.solver.timing ≠ .coasting) :
    State.correctF e { s with solver.lastE := some e } = s.corrected e := by
  simp only [State.correctF, if_neg h, State.corrected, frequencyShare]

theorem correctF_coasting (h : s.solver.timing = .coasting) :
    State.correctF e { s with solver.lastE := some e } = s.trimmed e := by
  simp [State.correctF, h, State.holdoverF, State.trimmed, frequencyShare]

theorem steer_coasting (he : p.e = some e) (h : s.solver.timing = .coasting) :
    s.steer v p = (s.slew e, s.trimmed e) := by
  rw [steer_corrects v he (by simp [h]), correctF_coasting h, h]
  rfl

/-- Neither COASTING nor ACQUIRING. -/
theorem steer_follows (he : p.e = some e) (hc : s.solver.timing ≠ .coasting) (ha : s.solver.timing ≠ .acquiring) :
    s.steer v p = (s.slew e, s.corrected e) := by
  rw [steer_corrects v he (absurd · ha), correctF_eq hc, if_neg ha]

theorem steer_acquiring (he : p.e = some e) (h : s.solver.timing = .acquiring) (near : e.natAbs ≤ ns s.cfg.stepLimit) :
    s.steer v p = (s.slew e, (s.corrected e).judgeLock v e) := by
  rw [steer_corrects v he fun _ => near, correctF_eq (by simp [h]), if_pos h]

end Steer

/-! ## The lock (R135, R138) -/

section Lock

variable {s : State} (v : SolveView) {e : Int}

theorem judgeLock_beyond (h : ns s.cfg.lockLimit < e.natAbs) :
    s.judgeLock v e = { s with solver.lockCount := 0 } := if_neg (by omega)

theorem judgeLock_counts (h : e.natAbs ≤ ns s.cfg.lockLimit) (few : s.solver.lockCount < 7) :
    s.judgeLock v e = { s with solver.lockCount := s.solver.lockCount + 1 } := by
  have count : satAdd 8 s.solver.lockCount 1 = s.solver.lockCount + 1 := by unfold satAdd; omega
  simp only [State.judgeLock, if_pos h, count]
  exact if_neg (by omega)

theorem judgeLock_eighth (h : e.natAbs ≤ ns s.cfg.lockLimit) (many : 7 ≤ s.solver.lockCount) :
    s.judgeLock v e = State.lock v { s with solver.lockCount := 8 } := by
  have count : satAdd 8 s.solver.lockCount 1 = 8 := by unfold satAdd; omega
  simp only [State.judgeLock, if_pos h, count]
  rfl

theorem lock_target {target : Target} (h : s.solver.target = some target) : s.lock v =
    s.enter none target.state none (s.solveGrowth v) (some (startingBound v.peers)) := by
  simp only [State.lock, h]

theorem lock_untargeted (h : s.solver.target = none) : s.lock v = s := by
  simp only [State.lock, h]

/-- A lock takes the timing state to ANCHORED, BORROWING or COASTING, with valid time (R126, R135). -/
theorem lock_validTime (t : Target) (g : Growth) (b : Option Nat) (s : State) :
    (s.enter none t.state none g b).solver.validTime = true := by
  cases t with
  | anchored => exact (enter_referenced_sets s none .anchored none g b (.inl rfl)).2
  | borrowing => exact (enter_referenced_sets s none .borrowing none g b (.inr rfl)).2
  | coasting => exact (enter_coasting_sets s none none g b).1

end Lock

/-! ## The starting bound (R138) -/

theorem greatestFrom_spec (x : Nat) (ys : List Nat) :
    (∀ y ∈ x :: ys, y ≤ greatestFrom x ys) ∧ greatestFrom x ys ∈ x :: ys := by
  induction ys generalizing x with
  | nil => exact ⟨by simp [greatestFrom], by simp [greatestFrom]⟩
  | cons y ys ih =>
    obtain ⟨above, reached⟩ := ih (max x y)
    rw [greatestFrom]
    refine ⟨fun z hz => ?_, ?_⟩
    · have greatest := above (max x y) List.mem_cons_self
      obtain rfl | rfl | hz : z = x ∨ z = y ∨ z ∈ ys := by simpa using hz
      · exact (le_max_left z y).trans greatest
      · exact (le_max_right x z).trans greatest
      · exact above z (List.mem_cons_of_mem _ hz)
    · obtain here | inside := List.mem_cons.1 reached
      · rw [here]
        obtain e | e := max_choice x y <;> rw [e] <;> simp
      · exact List.mem_cons_of_mem _ (List.mem_cons_of_mem _ inside)

/-- The bounds declared by peers within their budget. -/
def goodDeclared (peers : List Peer) : List Declared :=
  (peers.filterMap (·.declared)).filter (fun d => d.overBudget = false)

theorem filter_not_overBudget (ds : List Declared) :
    ds.filter (fun d => !d.overBudget) = ds.filter (fun d => d.overBudget = false) :=
  List.filter_congr fun d _ => by cases d.overBudget <;> rfl

theorem startingBound_good {peers : List Peer} (h : goodDeclared peers ≠ []) :
    ∃ m ∈ (goodDeclared peers).map Declared.boundFs, (∀ x ∈ (goodDeclared peers).map Declared.boundFs, m ≤ x) ∧
      startingBound peers = m + 16000000 := by
  obtain ⟨m, mem, least, found⟩ := leastOf_eq_some (xs := (goodDeclared peers).map Declared.boundFs) (by simpa using h)
  refine ⟨m, mem, least, ?_⟩
  unfold startingBound
  dsimp only
  rw [filter_not_overBudget]
  simp only [goodDeclared] at found
  rw [found]

theorem startingBound_bad {peers : List Peer} (h : goodDeclared peers = []) :
    startingBound peers = match (peers.filterMap (·.declared)).map Declared.boundFs with
      | [] => boundCeiling
      | b :: bs => greatestFrom b bs := by
  unfold startingBound
  dsimp only
  rw [filter_not_overBudget, show List.filter _ _ = [] from h]
  rfl

theorem startingBound_spec (peers : List Peer) :
    let declared := peers.filterMap (·.declared)
    let good := declared.filter (fun d => d.overBudget = false)
    (∀ d ∈ good, startingBound peers ≤ d.bound * 4000000 + 16000000) ∧
    (good ≠ [] → ∃ d ∈ good, startingBound peers = d.bound * 4000000 + 16000000) ∧
    (good = [] → (∀ d ∈ declared, d.bound * 4000000 ≤ startingBound peers) ∧
      (declared ≠ [] → ∃ d ∈ declared, startingBound peers = d.bound * 4000000) ∧
      (declared = [] → startingBound peers = 1000000000000000)) := by
  intro declared good
  have formed (h : good ≠ []) : ∃ d ∈ good, (∀ x ∈ good, d.bound * 4000000 ≤ x.bound * 4000000) ∧
      startingBound peers = d.bound * 4000000 + 16000000 := by
    obtain ⟨m, mem, least, e⟩ := startingBound_good h
    obtain ⟨d, hd, rfl⟩ := List.mem_map.1 mem
    exact ⟨d, hd, fun x hx => least _ (List.mem_map_of_mem hx), e⟩
  refine ⟨fun x hx => ?_, fun h => ?_, fun h => ?_⟩
  · obtain ⟨d, -, least, e⟩ := formed (List.ne_nil_of_mem hx)
    rw [e]
    exact Nat.add_le_add_right (least x hx) _
  · obtain ⟨d, hd, -, e⟩ := formed h
    exact ⟨d, hd, e⟩
  · have e := startingBound_bad h
    cases hd : declared with
    | nil =>
      rw [show peers.filterMap (·.declared) = [] from hd] at e
      exact ⟨nofun, fun hn => absurd rfl hn, fun _ => e⟩
    | cons b bs =>
      rw [show peers.filterMap (·.declared) = b :: bs from hd] at e
      obtain ⟨above, reached⟩ := greatestFrom_spec b.boundFs (bs.map Declared.boundFs)
      rw [← List.map_cons] at above reached
      obtain ⟨d, mem, same⟩ := List.mem_map.1 reached
      refine ⟨fun x hx => ?_, fun _ => ⟨d, mem, e.trans same.symm⟩, nofun⟩
      rw [e]
      exact above _ (List.mem_map_of_mem hx)

/-! ## The statement -/

theorem slewLimit_eq (cfg : Settings) (t : TimingState) : cfg.slewLimit t = match t with
    | .anchored | .acquiring => 16 * (cfg.slewAnchor : Int)
    | .borrowing => 16 * (cfg.slewBorrow : Int)
    | .coasting => 16 * (cfg.slewCoast : Int)
    | .free | .alone => 0 := by
  cases t <;> simp [Settings.slewLimit, ns]

/-- Settles O39: step 7 of the solve by the timing state and the phase error, and the starting bound by the bounds the
peers have declared. -/
theorem solvesSteerAgainstTheirError : Obligations.SolvesSteerAgainstTheirError := by
  refine ⟨fun v p s => ?_, startingBound_spec⟩
  intro limit
  have limits : limit = s.cfg.slewLimit s.solver.timing := (slewLimit_eq _ _).symm
  have slews (e : Int) : s.slew e = clampInt (-limit) limit (-e) := by rw [limits, slew_eq]
  refine ⟨steer_unformed v, steer_alone v, fun e he ha far low => ?_, fun e he h => ?_, fun e he h => ?_,
    fun e he ha near => ?_⟩
  · rw [steer_steps v he ha far]
    simp [State.requestStep, State.stepping, low]
  · rw [← slews]
    exact steer_follows v he (by obtain h | h := h <;> simp [h]) (by obtain h | h := h <;> simp [h])
  · rw [← slews]
    exact steer_coasting v he h
  · intro w
    rw [steer_acquiring v he ha near, ← slews]
    refine ⟨fun far => ?_, fun within few => ?_, fun target within many aimed => ?_⟩
    · exact congrArg (Prod.mk _) (judgeLock_beyond (s := s.corrected e) v far)
    · exact congrArg (Prod.mk _) (judgeLock_counts (s := s.corrected e) v within few)
    · have locked : (s.corrected e).judgeLock v e = { w with solver.lockCount := 8 }.enter none target.state none
          (growthOf v.member s.cfg.cls (v.peers.map (fun p : Peer => p.cls))) (some (startingBound v.peers)) :=
        (judgeLock_eighth (s := s.corrected e) v within many).trans (lock_target v aimed)
      obtain ⟨timing, cleared, -⟩ := enter_changes { w with solver.lockCount := 8 } none target.state none
        (growthOf v.member s.cfg.cls (v.peers.map (fun p : Peer => p.cls))) (some (startingBound v.peers))
      refine ⟨congrArg (Prod.mk _) locked, ?_, ?_, ?_⟩
      · exact (congrArg (·.solver.timing) locked).trans timing
      · exact (congrArg (·.solver.target) locked).trans cleared
      · exact (congrArg (·.solver.validTime) locked).trans (lock_validTime target _ _ _)

end Sys2Proof.Machine

/-! # Time-valid and ANCHORED keep their meaning (R120, R126, R143) -/

namespace Sys2Proof.Machine

open Sys2Proof

/-! ## Time-valid by its rule (R120) -/

/-- From BEGIN on the generators work with the solver's time-valid (R120). -/
def LevelForm (s : State) : Prop := s.begun = true → s.gen.timeValid = s.solver.timeValid

theorem timeValidForm_iff (s : State) : TimeValidForm s ↔
    s.solver.timeValid = timeValidOf s.solver.timing s.solver.overBudget ∧ LevelForm s := by
  refine and_congr ?_ Iff.rfl
  exact (iff_congr Iff.rfl (timeValidOf_iff _ _).symm).trans Bool.eq_iff_iff.symm

theorem timeValidForm_of_view {s t : State} (view : t.timingView = s.timingView) (h : TimeValidForm s) :
    TimeValidForm t := by
  simp only [State.timingView, TimingView.mk.injEq] at view
  obtain ⟨timing, -, -, -, overBudget, timeValid, level, -, begun⟩ := view
  unfold TimeValidForm
  rwa [timing, overBudget, timeValid, level, begun]

theorem anchoredIsQualified_of_view {s t : State} (view : t.timingView = s.timingView) (h : AnchoredIsQualified s) :
    AnchoredIsQualified t := by
  simp only [State.timingView, TimingView.mk.injEq] at view
  obtain ⟨timing, -, -, -, -, -, -, reference, -⟩ := view
  unfold AnchoredIsQualified
  rwa [timing, reference]

theorem genTimeValid_levelForm (s : State) : LevelForm (s.genTimeValid s.solver.timeValid) := by
  cases hb : s.begun with
  | false =>
    rw [genTimeValid_unbegun hb]
    exact fun h => absurd h (by simp [hb])
  | true =>
    cases hv : s.solver.timeValid with
    | true =>
      rw [genTimeValid_rise hb]
      exact fun _ => hv.symm
    | false =>
      rw [genTimeValid_fall hb]
      exact fun _ => hv.symm

/-- Time-valid formed again has its rule, and the generators have its level (R120). -/
theorem refreshTimeValid_timeValidForm {s : State} (h : LevelForm s) : TimeValidForm s.refreshTimeValid := by
  by_cases same : s.solver.timeValid = timeValidOf s.solver.timing s.solver.overBudget
  · rw [refreshTimeValid_same same]
    exact (timeValidForm_iff s).2 ⟨same, h⟩
  · refine (timeValidForm_iff _).2 ⟨?_, ?_⟩
    · obtain ⟨gen, n, shape⟩ := refreshTimeValid_shape s
      rw [shape]
    · rw [refreshTimeValid_moves same]
      exact genTimeValid_levelForm { s with solver.timeValid := timeValidOf s.solver.timing s.solver.overBudget }

theorem enter_timeValidForm {s : State} (h : LevelForm s) (after : Option Lane) (new : TimingState)
    (target : Option Target) (g : Growth) (start : Option Nat) : TimeValidForm (s.enter after new target g start) := by
  have held (u : State) (hu : LevelForm u) (old : TimingState) (w : Growth) (b : Option Nat) :
      TimeValidForm (u.enterHoldover old w b).refreshTimeValid := by
    obtain ⟨o, n, shape⟩ := enterHoldover_shape u old w b
    rw [shape]
    exact refreshTimeValid_timeValidForm hu
  cases new with
  | free | acquiring | anchored | borrowing => exact refreshTimeValid_timeValidForm h
  | coasting => exact held { s.changing after .coasting target with solver.validTime := true } h _ _ _
  | alone => exact held (s.changing after .alone target) h _ _ _

theorem transition_timeValidForm {s : State} (h : TimeValidForm s) (after : Option Lane) (source : Option Target)
    (g : Growth) : TimeValidForm (s.transition after source g) := by
  obtain ⟨-, level⟩ := (timeValidForm_iff s).1 h
  obtain ⟨same, -⟩ | ⟨new, target, -, entered⟩ := transition_cases s after source g
  · rwa [same]
  · rw [entered]
    exact enter_timeValidForm level _ _ _ _ _

theorem reevaluate_timeValidForm {s : State} (h : TimeValidForm s) : TimeValidForm s.reevaluate := by
  by_cases relies : s.solver.relies = true
  · rw [reevaluate_relies relies]
    exact transition_timeValidForm h _ _ _
  · rwa [reevaluate_idle relies]

theorem freeRequest_not_anchored {s : State} (h : TimeValidForm s) : s.freeRequest.solver.timing ≠ .anchored := by
  have low (free : s.solver.timing = .free) : s.solver.timeValid = false := by
    rw [((timeValidForm_iff s).1 h).1, free]
    rfl
  rw [(freeRequest_frees s low).1]
  nofun

theorem freeRequest_timeValidForm {s : State} (h : TimeValidForm s) : TimeValidForm s.freeRequest := by
  have cleared (u : State) (hu : TimeValidForm u) (free : u.solver.timing = .free) :
      TimeValidForm { u with solver.overBudget := false } := by
    obtain ⟨level, form⟩ := (timeValidForm_iff u).1 hu
    exact (timeValidForm_iff _).2 ⟨level.trans (by rw [free]; rfl), form⟩
  obtain ⟨-, level⟩ := (timeValidForm_iff s).1 h
  let u : State := { s with solver.validTime := false, solver.disputeCount := 0, solver.undisputeCount := 0 }
  by_cases free : s.solver.timing = .free
  · have idle : s.freeRequest = { u with solver.overBudget := false }.handOver s.solver.steerF 0 := by
      simp only [State.freeRequest, if_pos free, u]
    rw [idle]
    exact cleared u h free
  · have entered : s.freeRequest = State.handOver (u.enter none .free none ⟨s.cfg.cls, 0⟩ none).solver.steerF 0
        { u.enter none .free none ⟨s.cfg.cls, 0⟩ none with solver.overBudget := false } := by
      simp only [State.freeRequest, if_neg free, u]
      rfl
    rw [entered]
    exact cleared _ (enter_timeValidForm (by exact level) _ _ _ _ _) (by simp)

/-! ## The rule over the commands -/

/-- Time-valid has its meaning, and ANCHORED a QUALIFIED reference (R120, R143). -/
def HonestTiming (s : State) : Prop := TimeValidForm s ∧ AnchoredIsQualified s

theorem setRefState_honest {s : State} (x : RefState) (h : HonestTiming s) : HonestTiming (s.setRefState x) := by
  obtain ⟨form, anchored⟩ := h
  by_cases left : s.ref.state = .qualified ∧ x ≠ .qualified
  · rw [setRefState_leaves s x left.1 left.2]
    exact ⟨reevaluate_timeValidForm (by exact form), fun ht => absurd ht (reevaluate_not_anchored _)⟩
  · rw [setRefState_stays s x (by tauto)]
    refine ⟨form, fun ht => ?_⟩
    have qualified : s.ref.state = .qualified := anchored ht
    exact by_contra fun hx => left ⟨qualified, hx⟩

theorem begin_honest {s : State} (h : HonestTiming s) : HonestTiming s.begin := by
  obtain ⟨form, anchored⟩ := h
  obtain ⟨level, -⟩ := (timeValidForm_iff s).1 form
  have view := begin_timingView s
  have begun : State.begun { s with mem.state := .listen } = true := rfl
  have opened : HonestTiming { s with mem.state := .listen, gen.timeValid := s.solver.timeValid } :=
    ⟨(timeValidForm_iff _).2 ⟨level, fun _ => rfl⟩, anchored⟩
  exact ⟨timeValidForm_of_view view opened.1, anchoredIsQualified_of_view view opened.2⟩

/-- The rule is kept by what the other units ask of the solver. -/
theorem honestTiming_law : TimingLaw HonestTiming where
  kept view h := ⟨timeValidForm_of_view view h.1, anchoredIsQualified_of_view view h.2⟩
  setRefState x h := setRefState_honest x h
  freeRequest h := ⟨freeRequest_timeValidForm h.1, fun ht => absurd ht (freeRequest_not_anchored h.1)⟩
  begin h := begin_honest h
  held _ _ := ⟨reset_timeValidForm, nofun⟩

/-! ## What the solve's own steps leave (R122) -/

section Steps

variable (s : State) (v : SolveView) (p : PhaseError)

/-- The end of a dispute may move the reference state, and nothing else of the view (R141). -/
theorem judgeUndispute_timingView : (s.judgeUndispute v).timingView =
    { s.timingView with reference := (s.judgeUndispute v).ref.state } := by
  have ended : s.endDispute.timingView = { s.timingView with reference := s.endDispute.ref.state } := by
    unfold State.endDispute State.requestUndisputed
    split <;> rfl
  have counted : s.countUndispute.timingView = { s.timingView with reference := s.countUndispute.ref.state } := by
    unfold State.countUndispute
    dsimp only
    split
    · exact ended
    · rfl
  unfold State.judgeUndispute
  repeat' split
  case _ => exact ended
  case _ => exact counted
  all_goals rfl

@[simp] theorem judgeSplit_timingView : (s.judgeSplit v).timingView = s.timingView := by
  unfold State.judgeSplit
  repeat' split
  all_goals rfl

@[simp] theorem judgeSelf_timingView : (s.judgeSelf p).timingView = s.timingView := by
  unfold State.judgeSelf
  repeat' split
  all_goals rfl

/-- The dispute rule counts, or applies the source priority again on the answer to its request (R140). -/
theorem judgeDispute_cases : (s.judgeDispute v).timingView = s.timingView ∨
    ∃ u : State, u.timingView = { s.timingView with reference := u.ref.state } ∧
      s.judgeDispute v = u.applySource v := by
  have disputed : ∃ u : State, u.timingView = { s.timingView with reference := u.ref.state } ∧
      s.dispute v = u.applySource v := by
    by_cases hq : s.ref.state = .qualified
    · exact ⟨{ s with
        solver.disputeCount := 0
        ref.state := .disputed
        port.outbox := s.port.outbox ++ [⟨.qualifier, s.ts.epoch, .refDisputed, none, none, none⟩] }, rfl,
        dispute_qualified hq⟩
    · exact ⟨{ s with solver.disputeCount := 0 }, rfl, dispute_refused hq⟩
  unfold State.judgeDispute
  repeat' split
  case _ => exact .inl rfl
  case _ => exact .inl rfl
  case _ => exact .inr disputed
  all_goals exact .inl rfl

/-- Steps 3 to 5 end in what the source priority brings about, of a state that differs in its reference state at most
(R122, R125, R140, R141). -/
theorem settleSource_of {P Q : State → Prop} {s : State} (v : SolveView) (h : P s)
    (moved : ∀ {u t : State}, t.timingView = { u.timingView with reference := t.ref.state } → P u → P t)
    (sourced : ∀ {u : State}, P u → Q (u.applySource v))
    (kept : ∀ {u t : State}, t.timingView = u.timingView → Q u → Q t) (weaker : ∀ {u : State}, Q u → P u) :
    Q (s.settleSource v) := by
  have applied : Q ((s.judgeUndispute v).applySource v) := sourced (moved (judgeUndispute_timingView s v) h)
  unfold State.settleSource State.judgeAnchors
  split
  · have split := kept (judgeSplit_timingView _ v) applied
    obtain same | ⟨w, disputed, again⟩ := judgeDispute_cases (((s.judgeUndispute v).applySource v).judgeSplit v) v
    · exact kept same split
    · rw [again]
      exact sourced (moved disputed (weaker split))
  · exact kept (u := (s.judgeUndispute v).applySource v) rfl applied

@[simp] theorem requestStep_timingView (x : Int) : (s.requestStep x).timingView = s.timingView := by
  simp [State.timingView, State.begun]

/-- Step 7 moves nothing of the view but the lock count, or locks (R135). -/
theorem steer_cases : (∃ n, (s.steer v p).2.timingView = { s.timingView with lockCount := n }) ∨
    ∃ (target : Target) (u : State), s.solver.timing = .acquiring ∧ s.solver.target = some target ∧
      7 ≤ s.solver.lockCount ∧ u.timingView = { s.timingView with lockCount := 8 } ∧
      (s.steer v p).2 = u.enter none target.state none (u.solveGrowth v) (some (startingBound v.peers)) := by
  cases he : p.e with
  | none =>
    refine .inl ⟨s.solver.lockCount, ?_⟩
    by_cases h : s.solver.timing = .alone
    · rw [steer_alone v he h]
      rfl
    · rw [steer_unformed v he h]
      rfl
  | some e =>
    by_cases ha : s.solver.timing = .acquiring
    · by_cases near : e.natAbs ≤ ns s.cfg.stepLimit
      · rw [steer_acquiring v he ha near]
        by_cases within : e.natAbs ≤ ns s.cfg.lockLimit
        · by_cases few : s.solver.lockCount < 7
          · exact .inl ⟨s.solver.lockCount + 1, by rw [judgeLock_counts (s := s.corrected e) v within few]; rfl⟩
          · rw [judgeLock_eighth (s := s.corrected e) v within (Nat.not_lt.1 few)]
            cases ht : s.solver.target with
            | none => exact .inl ⟨8, by rw [lock_untargeted v (by exact ht)]; rfl⟩
            | some target => exact .inr ⟨target, _, ha, rfl, Nat.not_lt.1 few, rfl, lock_target v (by exact ht)⟩
        · exact .inl ⟨0, by rw [judgeLock_beyond (s := s.corrected e) v (Nat.not_le.1 within)]; rfl⟩
      · rw [steer_steps v he ha (Nat.not_le.1 near)]
        exact .inl ⟨0, requestStep_timingView _ _⟩
    · refine .inl ⟨s.solver.lockCount, ?_⟩
      by_cases hc : s.solver.timing = .coasting
      · rw [steer_coasting v he hc]
        rfl
      · rw [steer_follows v he hc ha]
        rfl

@[simp] theorem handResults_timingView (c : Int) (verdicts : NodeId → Verdict) :
    (s.handResults c verdicts).timingView = s.timingView := by
  obtain ⟨r, lastC, lastA, ps, adopt, shape⟩ := rosterComplete_shape (s.handed c) verdicts
  rw [handResults_shape, shape]
  rfl

end Steps

/-! ## The source of a solve (R125, R126) -/

/-- The transition rule relies on the reference only where it is the source (R126). -/
theorem transition_relies (s : State) (after : Option Lane) (source : Option Target) (g : Growth)
    (relies : (s.transition after source g).solver.relies = true) : source = some .anchored := by
  have entered (new : TimingState) (target : Option Target) :
      (s.enter after new target g none).solver.relies = true ↔
        new = .anchored ∨ (new = .acquiring ∧ target = some .anchored) := by
    obtain ⟨timing, target', -⟩ := enter_changes s after new target g none
    rw [relies_iff, timing, target']
  cases source with
  | none =>
    exfalso
    by_cases stays : s.solver.timing = .free ∨ s.solver.timing = .alone
    · rw [transition_unsourced_stays after g stays, relies_iff] at relies
      obtain h | h := stays <;> simp [h] at relies
    · by_cases ha : s.solver.timing = .acquiring
      · rw [transition_acquiring_unsourced after g ha] at relies
        split at relies <;> simp [entered] at relies
      · have timed : s.solver.timing = .anchored ∨ s.solver.timing = .borrowing ∨ s.solver.timing = .coasting := by
          cases h : s.solver.timing <;> simp_all
        rw [transition_unsourced after g timed, entered] at relies
        simp at relies
  | some x =>
    congr 1
    by_cases hf : s.solver.timing = .free
    · rw [transition_free after g hf, entered] at relies
      simpa using relies
    · by_cases ha : s.solver.timing = .acquiring
      · rw [transition_acquiring after g ha] at relies
        split at relies
        next same => simpa [relies_iff, ha, same] using relies
        next => simpa [entered] using relies
      · have timed : s.solver.timing = .anchored ∨ s.solver.timing = .borrowing ∨ s.solver.timing = .coasting ∨
            s.solver.timing = .alone := by
          cases h : s.solver.timing <;> simp_all
        rw [transition_timed after g timed] at relies
        split at relies
        next same =>
          have anchored : s.solver.timing = .anchored := by simpa [relies_iff, ha] using relies
          exact Target.eq_of_state_anchored (same.symm.trans anchored)
        next =>
          split at relies
          · exact Target.eq_of_state_anchored (by simpa [entered, Target.state] using relies)
          · simpa [entered] using relies

/-- A solver that relies on the reference finds it QUALIFIED: the rule within a solve, once the source is settled
(R125, R126). -/
def ReliesOnQualified (s : State) : Prop := s.solver.relies = true → s.ref.state = .qualified

theorem reliesOnQualified_of_view {s t : State} (view : t.timingView = s.timingView) (h : ReliesOnQualified s) :
    ReliesOnQualified t := by
  simp only [State.timingView, TimingView.mk.injEq] at view
  obtain ⟨timing, target, -, -, -, -, -, reference, -⟩ := view
  unfold ReliesOnQualified
  rwa [relies_iff, timing, target, reference, ← relies_iff]

theorem applySource_reliesOnQualified (s : State) (v : SolveView) : ReliesOnQualified (s.applySource v) := by
  intro relies
  have source := transition_relies s none _ _ relies
  have qualified : s.ref.state = .qualified := by
    by_contra hq
    rw [decide_eq_false hq] at source
    exact sourceOf_unqualified _ _ _ source
  have kept : (s.applySource v).ref = s.ref := by simp [State.applySource]
  rw [kept, qualified]

/-! ## The solve (R122) -/

theorem timeValidForm_of_moved {s t : State} (view : t.timingView = { s.timingView with reference := t.ref.state })
    (h : TimeValidForm s) : TimeValidForm t :=
  timeValidForm_of_view (s := { s with ref.state := t.ref.state }) view h

theorem steer_honest {s : State} (v : SolveView) (p : PhaseError) (form : TimeValidForm s)
    (qualified : ReliesOnQualified s) : HonestTiming (s.steer v p).2 := by
  obtain ⟨n, view⟩ | ⟨target, u, acquiring, aimed, -, view, locked⟩ := steer_cases s v p
  · have counted : HonestTiming { s with solver.lockCount := n } :=
      ⟨form, fun anchored => qualified ((relies_iff _).2 (.inl anchored))⟩
    exact honestTiming_law.kept view counted
  · have counted : TimeValidForm u := timeValidForm_of_view (s := { s with solver.lockCount := 8 }) view form
    obtain ⟨-, level⟩ := (timeValidForm_iff u).1 counted
    rw [locked]
    refine ⟨enter_timeValidForm level _ _ _ _ _, fun anchored => ?_⟩
    have source : target = .anchored := Target.eq_of_state_anchored (by simpa using anchored)
    have reference : u.ref.state = s.ref.state := congrArg TimingView.reference view
    rw [(enter_keeps u none target.state none (u.solveGrowth v) (some (startingBound v.peers))).2.2.1, reference]
    exact qualified ((relies_iff _).2 (.inr ⟨acquiring, source ▸ aimed⟩))

theorem updateBound_holdover {s : State} (v : SolveView) (p : PhaseError) (h : s.solver.timing.holdover = true) :
    s.updateBound v p = (State.judgeBudget { s with solver := s.solver.grow }).refreshTimeValid :=
  if_pos h

theorem judgeBudget_shape (s : State) : ∃ flag o, s.judgeBudget = { s with
    solver.overBudget := flag, port.outbox := o } := by
  unfold State.judgeBudget
  split <;> exact ⟨_, _, rfl⟩

theorem setBound_shape (s : State) (v : SolveView) (p : PhaseError) :
    ∃ bound, s.setBound v p = { s with solver.bound := bound } := by
  unfold State.setBound
  split <;> exact ⟨_, rfl⟩

theorem updateBound_honest {s : State} (v : SolveView) (p : PhaseError) (h : HonestTiming s) :
    HonestTiming (s.updateBound v p) := by
  obtain ⟨form, anchored⟩ := h
  by_cases holdover : s.solver.timing.holdover = true
  · obtain ⟨-, level⟩ := (timeValidForm_iff s).1 form
    obtain ⟨bound, rate, grown⟩ : ∃ bound rate, s.solver.grow = { s.solver with bound := bound, rate := rate } :=
      ⟨_, _, rfl⟩
    obtain ⟨flag, o, judged⟩ := judgeBudget_shape { s with solver := s.solver.grow }
    obtain ⟨gen, n, refreshed⟩ := refreshTimeValid_shape (State.judgeBudget { s with solver := s.solver.grow })
    rw [updateBound_holdover v p holdover]
    refine ⟨refreshTimeValid_timeValidForm ?_, fun ht => ?_⟩
    · rw [judged, grown]
      exact level
    · rw [refreshed, judged, grown] at ht
      rw [show s.solver.timing = .anchored from ht] at holdover
      cases holdover
  · obtain ⟨bound, afresh⟩ := setBound_shape s v p
    rw [updateBound_not_holdover v p (Bool.eq_false_iff.2 holdover), afresh]
    exact ⟨form, anchored⟩

theorem solvePoint_honest {s : State} (h : HonestTiming s) : HonestTiming s.solvePoint := by
  let a := s.closeInterval.2.rosterMarks
  let v := a.solveView s.closeInterval.1
  let b := (a.solveOpens v).settleSource v
  let p := b.phaseError v
  have closed : HonestTiming a :=
    honestTiming_law.kept (rosterMarks_timingView _) (closeInterval_timing honestTiming_law h)
  have opened : TimeValidForm (a.solveOpens v) := by
    rw [solveOpens_eq]
    exact closed.1
  have settled : TimeValidForm b ∧ ReliesOnQualified b := by
    refine settleSource_of (P := TimeValidForm) (Q := fun u => TimeValidForm u ∧ ReliesOnQualified u) v opened
      timeValidForm_of_moved (fun hu => ⟨transition_timeValidForm hu _ _ _, applySource_reliesOnQualified _ v⟩)
      (fun view hu => ⟨timeValidForm_of_view view hu.1, reliesOnQualified_of_view view hu.2⟩) And.left
  have judged := judgeSelf_timingView b p
  have steered : HonestTiming ((b.judgeSelf p).steer v p).2 :=
    steer_honest v p (timeValidForm_of_view judged settled.1) (reliesOnQualified_of_view judged settled.2)
  exact honestTiming_law.kept (handResults_timingView _ _ _) (updateBound_honest v p steered)

/-! ## The statement -/

/-- Settles O57: `exec_timing` for the rule `HonestTiming`, the solve by `solvePoint_honest`. -/
theorem stepKeepsTheTimingStatesHonest : Obligations.StepKeepsTheTimingStatesHonest := by
  unfold Obligations.StepKeepsTheTimingStatesHonest
  intro s t h e
  unfold step at e
  split at e
  · rwa [← Host.Outcome.next.inj e]
  · exact exec_timing honestTiming_law (P := HonestTiming) (by exact h) _ (fun _ _ _ => solvePoint_honest) _ e

end Sys2Proof.Machine

/-! # The bound in holdover (R120, R137, R139) -/

namespace Sys2Proof.Machine

open Sys2Proof

/-! ## The growth of one solve (R137) -/

theorem ceilDiv_eq (a : Nat) {b : Nat} (h : 0 < b) : ceilDiv a b = (a + (b - 1)) / b := by
  rw [ceilDiv, Nat.add_sub_assoc h]

theorem grow_eq (v : Solver) :
    v.grow.bound = min 1000000000000000 (v.bound + (v.rate + 999) / 1000) ∧
    v.grow.rate = min 1000000000000000 (v.rate + accel v.growthClass * ensembleFactor v.growthN / 1000) ∧
    v.grow = { v with bound := v.grow.bound, rate := v.grow.rate } :=
  ⟨congrArg (fun n => min 1000000000000000 (v.bound + n)) (ceilDiv_eq v.rate (b := 1000) (by decide)), rfl, rfl⟩

/-- A bound that has not passed its ceiling does not fall as it grows. -/
theorem le_grow_bound {b : Nat} {v : Solver} (h : b ≤ v.bound) (ceiling : b ≤ 1000000000000000) : b ≤ v.grow.bound := by
  rw [(grow_eq v).1]
  exact le_min ceiling (h.trans (Nat.le_add_right _ _))

/-! ## The over-budget flag (R139) -/

/-- OVER_BUDGET, as a solve posts it: B in ns, rounded up (R139). -/
def State.budgetPosting (s : State) : Posting :=
  ⟨.solver, s.ts.epoch, .overBudget, none,
    some (BitVec.ofNat 32 (min 2147483647 ((s.solver.bound + 999999) / 1000000))), none⟩

theorem signed32_reportBoundNs (b : Nat) :
    signed32 (reportBoundNs b) = BitVec.ofNat 32 (min 2147483647 ((b + 999999) / 1000000)) := by
  have report : reportBoundNs b = min 2147483647 ((b + 999999) / 1000000) :=
    congrArg (min 2147483647) (ceilDiv_eq b (b := 1000000) (by decide))
  have inRange : clampInt (-2147483648) 2147483647 (reportBoundNs b : Int) = (reportBoundNs b : Int) := by
    unfold clampInt
    omega
  rw [signed32, inRange, BitVec.ofInt_natCast, report]

theorem judgeBudget_within {s : State} (h : ¬ (s.solver.overBudget = false ∧ s.cfg.budget * 1000000 < s.solver.bound)) :
    s.judgeBudget = s :=
  if_neg (mt (exceedsBudget_iff s).1 h)

theorem judgeBudget_exceeds {s : State} (h : s.solver.overBudget = false ∧ s.cfg.budget * 1000000 < s.solver.bound) :
    s.judgeBudget = { s with
      solver.overBudget := true
      port.outbox := s.port.outbox ++ [s.budgetPosting] } := by
  have judged : s.judgeBudget = s.setOverBudget := if_pos ((exceedsBudget_iff s).2 h)
  rw [judged, State.budgetPosting, ← signed32_reportBoundNs]
  rfl

/-- In holdover time-valid is high where the over-budget flag is clear (R120). -/
theorem refreshTimeValid_holdover {s : State} (h : s.solver.timing = .coasting ∨ s.solver.timing = .alone) :
    let t := s.refreshTimeValid
    t.solver.overBudget = s.solver.overBudget ∧ t.port.outbox = s.port.outbox ∧
    t.solver.timeValid = !t.solver.overBudget ∧ t.solver.timing = s.solver.timing ∧
    t.solver.bound = s.solver.bound ∧ t.solver.rate = s.solver.rate := by
  obtain ⟨gen, n, refreshed⟩ := refreshTimeValid_shape s
  intro t
  rw [show t = _ from refreshed]
  refine ⟨rfl, rfl, ?_, rfl, rfl, rfl⟩
  obtain h | h := h <;> rw [h] <;> rfl

/-- The bound step of a solve in holdover, by whether the grown bound exceeds the budget (R137, R139). -/
theorem updateBound_grows (s : State) (v : SolveView) (p : PhaseError)
    (h : s.solver.timing = .coasting ∨ s.solver.timing = .alone) :
    let grown : State := { s with solver := s.solver.grow }
    let exceeds := s.solver.overBudget = false ∧ s.cfg.budget * 1000000 < s.solver.grow.bound
    let t := s.updateBound v p
    (¬ exceeds → t = grown.refreshTimeValid ∧ t.solver.overBudget = s.solver.overBudget ∧
      t.port.outbox = s.port.outbox) ∧
    (exceeds → t = ({ grown with
        solver.overBudget := true
        port.outbox := s.port.outbox ++ [grown.budgetPosting] } : State).refreshTimeValid ∧
      t.solver.overBudget = true ∧ t.port.outbox = s.port.outbox ++ [grown.budgetPosting]) ∧
    t.solver.timeValid = !t.solver.overBudget ∧ t.solver.timing = s.solver.timing ∧
    t.solver.bound = s.solver.grow.bound ∧ t.solver.rate = s.solver.grow.rate := by
  intro grown exceeds t
  have updated : t = grown.judgeBudget.refreshTimeValid := updateBound_holdover v p ((holdover_iff _).2 h)
  by_cases beyond : exceeds
  · have judged := judgeBudget_exceeds (s := grown) beyond
    rw [judged] at updated
    obtain ⟨flag, outbox, level, timing, bound, rate⟩ := refreshTimeValid_holdover (s := { grown with
      solver.overBudget := true
      port.outbox := s.port.outbox ++ [grown.budgetPosting] }) h
    rw [← updated] at flag outbox level timing bound rate
    exact ⟨absurd beyond, fun _ => ⟨updated, flag, outbox⟩, level, timing, bound, rate⟩
  · have judged := judgeBudget_within (s := grown) beyond
    rw [judged] at updated
    obtain ⟨flag, outbox, level, timing, bound, rate⟩ := refreshTimeValid_holdover (s := grown) h
    rw [← updated] at flag outbox level timing bound rate
    exact ⟨fun _ => ⟨updated, flag, outbox⟩, (absurd · beyond), level, timing, bound, rate⟩

/-! ## The bound over a step (R137, R138) -/

/-- The bound is at least b, and an ACQUIRING solver has counted nothing towards a lock: where the first holds of a state
in holdover, both hold up to step 7 of the next solve (R126, R135). -/
def BoundAtLeast (b : Nat) (s : State) : Prop :=
  b ≤ s.solver.bound ∧ (s.solver.timing = .acquiring → s.solver.lockCount = 0)

section BoundAtLeast

variable {b : Nat} {s : State}

theorem boundAtLeast_of_view {t : State} (view : t.timingView = s.timingView) (h : BoundAtLeast b s) :
    BoundAtLeast b t := by
  simp only [State.timingView, TimingView.mk.injEq] at view
  obtain ⟨timing, -, bound, lockCount, -⟩ := view
  unfold BoundAtLeast
  rwa [timing, bound, lockCount]

theorem boundAtLeast_of_moved {t : State} (view : t.timingView = { s.timingView with reference := t.ref.state })
    (h : BoundAtLeast b s) : BoundAtLeast b t :=
  boundAtLeast_of_view (s := { s with ref.state := t.ref.state }) view h

theorem enter_boundAtLeast (ceiling : b ≤ 1000000000000000) (h : b ≤ s.solver.bound) (after : Option Lane)
    (new : TimingState) (target : Option Target) (g : Growth) : BoundAtLeast b (s.enter after new target g none) := by
  have timing : (s.enter after new target g none).solver.timing = new := (enter_changes s after new target g none).1
  obtain untimed | referenced | holdover := timing_kinds new
  · obtain ⟨bound, lockCount, -⟩ := enter_untimed_sets s after new target g none untimed
    exact ⟨ceiling.trans_eq bound.symm, fun _ => lockCount⟩
  · obtain ⟨bound, -⟩ := enter_referenced_sets s after new target g none referenced
    refine ⟨h.trans_eq bound.symm, fun ha => ?_⟩
    obtain rfl | rfl := referenced <;> cases timing.symm.trans ha
  · refine ⟨?_, fun ha => ?_⟩
    · obtain rfl | rfl := holdover
      · exact h.trans_eq (enter_coasting_sets s after target g none).2.2.2.symm
      · exact h.trans_eq (enter_alone_sets s after target g none).2.2.2.symm
    · obtain rfl | rfl := holdover <;> cases timing.symm.trans ha

theorem transition_boundAtLeast (ceiling : b ≤ 1000000000000000) (h : BoundAtLeast b s) (after : Option Lane)
    (source : Option Target) (g : Growth) : BoundAtLeast b (s.transition after source g) := by
  obtain ⟨same, -⟩ | ⟨new, target, -, entered⟩ := transition_cases s after source g
  · rwa [same]
  · rw [entered]
    exact enter_boundAtLeast ceiling h.1 _ _ _ _

theorem setRefState_boundAtLeast (ceiling : b ≤ 1000000000000000) (x : RefState) (h : BoundAtLeast b s) :
    BoundAtLeast b (s.setRefState x) := by
  have moved : BoundAtLeast b { s with ref.state := x } := h
  by_cases left : s.ref.state = .qualified ∧ x ≠ .qualified
  · rw [setRefState_leaves s x left.1 left.2]
    by_cases relies : s.solver.relies = true
    · rw [reevaluate_relies (s := { s with ref.state := x }) relies]
      exact transition_boundAtLeast ceiling moved _ _ _
    · rwa [reevaluate_idle (s := { s with ref.state := x }) relies]
  · rwa [setRefState_stays s x (by tauto)]

theorem freeRequest_boundAtLeast (ceiling : b ≤ 1000000000000000) (h : BoundAtLeast b s) :
    BoundAtLeast b s.freeRequest := by
  unfold State.freeRequest
  dsimp only
  split
  · exact h
  · exact enter_boundAtLeast (b := b) ceiling (by exact h.1) none .free none ⟨s.cfg.cls, 0⟩

/-- The rule is kept by what the other units ask of the solver. -/
theorem boundAtLeast_law (ceiling : b ≤ 1000000000000000) : TimingLaw (BoundAtLeast b) where
  kept view h := boundAtLeast_of_view view h
  setRefState x h := setRefState_boundAtLeast ceiling x h
  freeRequest h := freeRequest_boundAtLeast ceiling h
  begin {s} h := boundAtLeast_of_view (begin_timingView s)
    (show BoundAtLeast b { s with mem.state := .listen, gen.timeValid := s.solver.timeValid } from h)
  held _ _ := ⟨ceiling, nofun⟩

/-- Without a count there is no lock, and step 7 leaves the bound (R135). -/
theorem steer_bound (v : SolveView) (p : PhaseError) (h : BoundAtLeast b s) : b ≤ (s.steer v p).2.solver.bound := by
  obtain ⟨n, view⟩ | ⟨target, u, acquiring, -, many, -⟩ := steer_cases s v p
  · exact h.1.trans_eq (congrArg TimingView.bound view).symm
  · rw [h.2 acquiring] at many
    cases many

/-- In holdover the bound does not fall at a solve (R137). -/
theorem solvePoint_bound (ceiling : b ≤ 1000000000000000) (h : BoundAtLeast b s)
    (held : s.solvePoint.solver.timing = .coasting ∨ s.solvePoint.solver.timing = .alone) :
    b ≤ s.solvePoint.solver.bound := by
  let a := s.closeInterval.2.rosterMarks
  let v := a.solveView s.closeInterval.1
  let u := (a.solveOpens v).settleSource v
  let p := u.phaseError v
  let q := ((u.judgeSelf p).steer v p).2
  have law := boundAtLeast_law ceiling
  have closed : BoundAtLeast b a := law.kept (rosterMarks_timingView _) (closeInterval_timing law h)
  have opened : BoundAtLeast b (a.solveOpens v) := by
    rw [solveOpens_eq]
    refine ⟨closed.1, fun acquiring => ?_⟩
    dsimp only
    split
    · rfl
    · exact closed.2 acquiring
  have settled : BoundAtLeast b u := settleSource_of v opened boundAtLeast_of_moved
    (fun hu => transition_boundAtLeast ceiling hu _ _ _) boundAtLeast_of_view id
  have steered : b ≤ q.solver.bound := steer_bound v p (boundAtLeast_of_view (judgeSelf_timingView u p) settled)
  obtain ⟨-, bound, timing, -⟩ := handResults_writes (q.updateBound v p) ((u.judgeSelf p).steer v p).1
    ((u.judgeSelf p).verdictOn p)
  have after : (q.updateBound v p).solver.timing = .coasting ∨ (q.updateBound v p).solver.timing = .alone := by
    rwa [← timing]
  refine le_of_le_of_eq ?_ bound.symm
  by_cases holdover : q.solver.timing.holdover = true
  · obtain ⟨-, -, -, -, grown, -⟩ := updateBound_grows q v p ((holdover_iff _).1 holdover)
    rw [grown]
    exact le_grow_bound steered ceiling
  · obtain ⟨fresh, shape⟩ := setBound_shape q v p
    rw [updateBound_not_holdover v p (Bool.eq_false_iff.2 holdover), shape] at after
    exact absurd ((holdover_iff _).2 after) holdover

end BoundAtLeast

/-- No command but the solve point's lets the bound fall, and that one not in holdover (R137). -/
theorem exec_bound {s : State} (c : Instr) (held : s.solver.timing = .coasting ∨ s.solver.timing = .alone)
    (ceiling : s.solver.bound ≤ 1000000000000000) : NextHolds (fun t => t.solver.timing = .coasting ∨
      t.solver.timing = .alone → s.solver.bound ≤ t.solver.bound) (exec c s) := by
  have start : BoundAtLeast s.solver.bound s := ⟨le_refl _, fun ha => by obtain h | h := held <;> cases h.symm.trans ha⟩
  by_cases hc : c = .solvePoint
  · subst hc
    refine nextHolds_next ?_
    rw [settle_solver]
    refine atPoint_of (P := fun t => t.solver.timing = .coasting ∨ t.solver.timing = .alone →
      s.solver.bound ≤ t.solver.bound) .solve (fun _ => start.1) ?_
    split
    · exact solvePoint_bound ceiling (by exact start)
    · exact fun _ => start.1
  · intro t e _
    exact (exec_timing (boundAtLeast_law ceiling) start c (fun h => absurd h hc) t e).1

/-- What the hand-over and the settling of the events leave of the solver (R146, R189). -/
theorem handResults_solver (s : State) (c : Int) (verdicts : NodeId → Verdict) :
    let t := (s.handResults c verdicts).settle
    t.solver.timing = s.solver.timing ∧ t.solver.bound = s.solver.bound ∧ t.solver.rate = s.solver.rate ∧
    t.solver.overBudget = s.solver.overBudget ∧ t.solver.timeValid = s.solver.timeValid := by
  obtain ⟨r, lastC, lastA, ps, adopt, shape⟩ := rosterComplete_shape (s.handed c) verdicts
  intro t
  have solver : t.solver = (s.handResults c verdicts).solver := settle_solver _
  rw [solver, handResults_shape, shape]
  exact ⟨rfl, rfl, rfl, rfl, rfl⟩

/-! ## The statement -/

/-- Settles O40: the growth and the flag by `updateBound_grows`, what stands after SOLVE_POINT by the hand-over, and no
fall of the bound by `exec_bound`. -/
theorem holdoverBoundNeverDecreases : Obligations.HoldoverBoundNeverDecreases := by
  refine ⟨grow_eq, updateBound_grows, fun s due hb => ?_, fun c s t e held after ceiling =>
    exec_bound c held ceiling t e after⟩
  intro r a v b p q held
  obtain ⟨-, -, level, timing, bound, rate⟩ := updateBound_grows q v p held
  obtain ⟨timing', bound', rate', flag', level'⟩ := handResults_solver (q.updateBound v p)
    ((b.judgeSelf p).steer v p).1 ((b.judgeSelf p).verdictOn p)
  refine ⟨_, (exec_solvePoint_due due).trans ?_, timing'.trans timing, bound'.trans bound, rate'.trans rate, flag', ?_⟩
  · rw [if_pos hb]
    rfl
  · rw [level', level, flag']

end Sys2Proof.Machine

/-! # Phase errors, medians and verdicts (R123, R127 to R130) -/

namespace Sys2Proof.Machine

open Sys2Proof

/-! ## The lower median -/

theorem insertAsc_eq (x : Int) (ys : List Int) : insertAsc x ys = ys.orderedInsert (· ≤ ·) x := by
  induction ys with
  | nil => rfl
  | cons y ys ih => rw [insertAsc, List.orderedInsert, ih]

theorem sortAsc_eq (xs : List Int) : sortAsc xs = xs.insertionSort (· ≤ ·) := by
  induction xs with
  | nil => rfl
  | cons x xs ih => rw [sortAsc, List.insertionSort_cons, ih, insertAsc_eq]

/-- In an ascending list the values below the one at a place stand before it, and those up to it reach past it. -/
theorem ascending_counts {ys : List Int} (sorted : ys.Pairwise (· ≤ ·)) {i : Nat} (h : i < ys.length) :
    (ys.filter (fun x => x < ys[i])).length ≤ i ∧ i < (ys.filter (fun x => x ≤ ys[i])).length := by
  rw [List.pairwise_iff_getElem] at sorted
  have beyond : (ys.drop i).filter (fun x => x < ys[i]) = [] := by
    refine List.filter_eq_nil_iff.2 fun x hx => ?_
    obtain ⟨k, hk, rfl⟩ := List.mem_iff_getElem.1 hx
    rw [List.length_drop] at hk
    have later : ys[i] ≤ ys[i + k] := by
      obtain rfl | pos := Nat.eq_zero_or_pos k
      · exact le_refl _
      · exact sorted i (i + k) h (by omega) (by omega)
    simpa using later
  have within : (ys.take (i + 1)).filter (fun x => x ≤ ys[i]) = ys.take (i + 1) := by
    refine List.filter_eq_self.2 fun x hx => ?_
    obtain ⟨k, hk, rfl⟩ := List.mem_iff_getElem.1 hx
    rw [List.length_take] at hk
    have earlier : ys[k] ≤ ys[i] := by
      obtain rfl | before : k = i ∨ k < i := by omega
      · exact le_refl _
      · exact sorted k i (by omega) h before
    simpa using earlier
  constructor
  · calc (ys.filter (fun x => x < ys[i])).length
        = ((ys.take i ++ ys.drop i).filter (fun x => x < ys[i])).length := by rw [List.take_append_drop]
      _ = ((ys.take i).filter (fun x => x < ys[i])).length := by rw [List.filter_append, beyond, List.append_nil]
      _ ≤ (ys.take i).length := List.length_filter_le _ _
      _ ≤ i := List.length_take_le _ _
  · calc i < (ys.take (i + 1)).length := by rw [List.length_take]; omega
      _ = ((ys.take (i + 1)).filter (fun x => x ≤ ys[i])).length := by rw [within]
      _ ≤ (ys.filter (fun x => x ≤ ys[i])).length := ((List.take_sublist _ _).filter _).length_le

theorem lowerMedian_spec (xs : List Int) (h : xs ≠ []) : lowerMedian xs ∈ xs ∧
    (xs.filter (fun x => x < lowerMedian xs)).length ≤ (xs.length - 1) / 2 ∧
    (xs.length - 1) / 2 < (xs.filter (fun x => x ≤ lowerMedian xs)).length := by
  have perm : (sortAsc xs).Perm xs := by
    rw [sortAsc_eq]
    exact List.perm_insertionSort _ _
  have sorted : (sortAsc xs).Pairwise (· ≤ ·) := by
    rw [sortAsc_eq]
    exact List.pairwise_insertionSort _ _
  have place : (xs.length - 1) / 2 < (sortAsc xs).length := by
    have := List.length_pos_iff.2 h
    rw [perm.length_eq]
    omega
  have median : lowerMedian xs = (sortAsc xs)[(xs.length - 1) / 2] := by
    rw [lowerMedian, List.getD_eq_getElem _ _ place]
  obtain ⟨below, upTo⟩ := ascending_counts sorted place
  rw [median]
  refine ⟨perm.mem_iff.1 (List.getElem_mem _), ?_, ?_⟩
  · rwa [← (perm.filter _).length_eq]
  · rwa [← (perm.filter _).length_eq]

/-! ## The phase error (R123, R127 to R129) -/

theorem ensembleError_few (s : State) {members : List Weighed} (h : members.length < 3) : s.ensembleError members =
    ⟨some (-weightedMean members), members.map (·.id), [], some (weightedMean members)⟩ :=
  if_neg (by omega)

/-- The members that the median test keeps (R128). -/
def State.keptOf (members : List Weighed) (s : State) : List Weighed :=
  members.filter (fun x => (x.offset - lowerMedian (members.map (·.offset))).natAbs ≤ ns s.cfg.dispute)

theorem ensembleError_many (s : State) {members : List Weighed} (h : 3 ≤ members.length) : s.ensembleError members =
    ⟨some (-weightedMean (s.keptOf members)), (s.keptOf members).map (·.id), members.map (·.id),
      some (lowerMedian (members.map (·.offset)))⟩ :=
  if_pos h

theorem steersTo_iff (v : Solver) (t : Target) : v.steersTo = some t ↔
    v.timing = t.state ∨ (v.timing = .acquiring ∧ v.target = some t) := by
  cases h : v.timing <;> cases t <;> simp [Solver.steersTo, h, Target.state]

theorem coastingMembers_eq (s : State) (v : SolveView) : s.coastingMembers v =
    (if v.member then [⟨s.mem.nodeId, 0, 2 * 2 ^ s.cfg.cls.val⟩] else []) ++ v.peers.map Peer.weighed := by
  unfold State.coastingMembers
  split <;> rfl

section PhaseError

variable {s : State} (v : SolveView)

theorem phaseError_idle (h : s.solver.timing = .free ∨ s.solver.timing = .alone) :
    s.phaseError v = ⟨none, [], [], none⟩ := by
  have idle : s.solver.steersTo = none := by obtain h | h := h <;> simp only [Solver.steersTo, h]
  simp only [State.phaseError, idle]

theorem phaseError_steers {t : Target} (h : s.solver.steersTo = some t) : s.phaseError v = match t with
    | .anchored => ⟨v.offset, [], [], some 0⟩
    | .borrowing => s.ensembleError (v.anchors.map Peer.weighed)
    | .coasting => s.ensembleError (s.coastingMembers v) := by
  cases t <;> simp only [State.phaseError, h]

end PhaseError

/-! ## The candidates of a solve (R123, R124) -/

theorem candidate_none {e : Entry} (h : e.state ≠ .admitted ∨ e.sampled = false ∨ e.ring = []) : e.candidate = none := by
  unfold Entry.candidate
  split
  next hc =>
    obtain ⟨admitted, sampled⟩ := hc
    have empty : e.ring = [] := by simpa [admitted, sampled] using h
    rw [empty]
    rfl
  next => rfl

theorem sampleWeight_eq (kind : SampleKind) (c : OscClass) :
    sampleWeight kind c = (match kind with | .twoWay => 2 | .oneWay => 1) * 2 ^ c.val := by
  cases kind with
  | twoWay => rfl
  | oneWay => exact (Nat.one_mul _).symm

theorem candidate_some {e : Entry} {x : Sample} (admitted : e.state = .admitted) (sampled : e.sampled = true)
    (newest : e.ring.getLast? = some x) : e.candidate = some ⟨e.id, x.offset, sampleWeight x.kind e.cls,
      decide (e.received = .census ∧ e.declared.map (·.timing) = some .anchored), e.cls, e.declared⟩ := by
  unfold Entry.candidate
  rw [if_pos ⟨admitted, sampled⟩, newest, Bool.decide_and]
  rfl

/-! ## The verdicts (R130) -/

section Verdict

variable {s : State} {p : PhaseError} {e : Entry}

theorem verdict_judged (h : e.id ∈ p.judged) : s.verdict p e = if e.id ∈ p.kept then .included else .excluded := by
  simp [State.verdict, h]

theorem verdict_deviant {x : Int} {y : Sample} (h : e.id ∉ p.judged) (deviant : e.deviant = true)
    (sampled : e.sampled = true) (point : p.point = some x) (newest : e.ring.getLast? = some y) :
    s.verdict p e = if (y.offset - x).natAbs ≤ ns s.cfg.dispute then .within else .outside := by
  simp [State.verdict, h, point, newest, deviant, sampled, agreeWithin_iff]

theorem verdict_notJudged (h : e.id ∉ p.judged) (out : e.state ≠ .suspect ∨ e.cause ≠ some .deviation ∨
    e.sampled = false ∨ p.point = none ∨ e.ring = []) : s.verdict p e = .notJudged := by
  have unjudged : ¬ p.judged.contains e.id = true := by simpa using h
  unfold State.verdict
  rw [if_neg unjudged]
  split
  next point newest =>
    have tested : ¬ (e.deviant && e.sampled) = true := by
      rw [Bool.and_eq_true, deviant_iff]
      rintro ⟨⟨suspect, deviation⟩, sampled⟩
      have ring : e.ring ≠ [] := fun empty => by simp [empty] at newest
      simp [suspect, deviation, sampled, point, ring] at out
    exact if_neg tested
  next => rfl

theorem verdictOn_found (h : s.roster.entries.find? (fun x => x.id = e.id) = some e) :
    s.verdictOn p e.id = s.verdict p e := by
  have found : s.roster.find e.id = some e := h
  simp only [State.verdictOn, found]

end Verdict

/-! ## Self-exclusion (R129) -/

section SelfExclusion

variable {s : State} {p : PhaseError}

/-- The node is left out of its own coasting solve (R129). -/
def State.leftOut (p : PhaseError) (s : State) : Prop :=
  s.solver.steersTo = some .coasting ∧ s.mem.nodeId ∈ p.judged ∧ s.mem.nodeId ∉ p.kept

theorem judgeSelf_kept (h : ¬ s.leftOut p) : s.judgeSelf p = { s with solver.selfExcluded := false } := by
  have unfound : s.selfMedian p = none := if_neg (by simpa [State.leftOut] using h)
  simp only [State.judgeSelf, unfound]

theorem judgeSelf_leftOut {median : Int} (h : s.leftOut p) (point : p.point = some median) : s.judgeSelf p =
    if s.solver.selfExcluded then s
    else { s with
      solver.selfExcluded := true
      port.outbox := s.port.outbox ++
        [⟨.solver, s.ts.epoch, .selfExcluded, none, some (signed32 (Int.tdiv (-median) 16)), none⟩] } := by
  have found : s.selfMedian p = some median := (if_pos (by simpa [State.leftOut] using h)).trans point
  simp only [State.judgeSelf, found]
  rfl

end SelfExclusion

/-! ## The statement -/

/-- Settles O38: the median by its counts in the sorted list, the phase error by what the node steers to, and the
verdicts by the members judged and kept. -/
theorem phaseErrorsAreWeighedAndJudged : Obligations.PhaseErrorsAreWeighedAndJudged := by
  refine ⟨lowerMedian_spec, fun s members => ⟨ensembleError_few s, ensembleError_many s⟩, fun s v => ?_,
    fun e => ⟨candidate_none, fun x admitted sampled newest => ?_⟩, fun s p e => ?_, fun s p => ?_⟩
  · intro steers own weighed
    have aims (t : Target) (h : steers t) : s.solver.steersTo = some t := (steersTo_iff _ t).2 h
    refine ⟨phaseError_idle v, fun h => phaseError_steers v (aims _ h), fun h => phaseError_steers v (aims _ h),
      fun h => (phaseError_steers v (aims _ h)).trans ?_⟩
    exact congrArg (State.ensembleError · s) (coastingMembers_eq s v)
  · rw [candidate_some admitted sampled newest, sampleWeight_eq] <;> rfl
  · refine ⟨fun judged kept => ?_, fun judged left => ?_, fun x y out suspect deviation sampled point newest => ?_,
      verdict_notJudged, verdictOn_found⟩
    · rw [verdict_judged judged, if_pos kept]
    · rw [verdict_judged judged, if_neg left]
    · exact verdict_deviant out ((deviant_iff e).2 ⟨suspect, deviation⟩) sampled point newest
  · intro steers out
    have left : s.leftOut p ↔ out := and_congr (steersTo_iff _ _) Iff.rfl
    refine ⟨fun h => judgeSelf_kept (mt left.1 h), fun median h point => ?_⟩
    rw [judgeSelf_leftOut (left.2 h) point]
    exact ⟨fun excluded => if_pos excluded, fun fresh => if_neg (Bool.eq_false_iff.1 fresh)⟩

end Sys2Proof.Machine

/-! # The temperature table changes by reset, load and learning alone (R151 to R153, R159, R161) -/

namespace Sys2Proof.Machine

open Sys2Proof

/-! ## The temperature unit at the work of the other blocks -/

/-! The MARK line -/

@[simp] theorem markFalls_temp (s : State) : s.markFalls.temp = s.temp := by
  unfold State.markFalls; dsimp only; split <;> rfl

@[simp] theorem slotTime_temp (s : State) (k : NodeId) : (s.slotTime k).temp = s.temp := by
  unfold State.slotTime State.assertMark; dsimp only; repeat' split
  all_goals simp

@[simp] theorem strayEdge_temp (s : State) (p : Nat) : (s.strayEdge p).temp = s.temp := by
  unfold State.strayEdge; dsimp only; split <;> rfl

@[simp] theorem acceptMark_temp (s : State) (c : MarkCandidate) : (s.acceptMark c).temp = s.temp :=
  acceptMark_of (P := fun t => t.temp = s.temp) c rfl rfl rfl (fun _ _ => rfl) (fun _ => rfl)
    fun _ => strayEdge_temp _ _

@[simp] theorem acceptHeld_temp (s : State) : s.acceptHeld.temp = s.temp := by
  unfold State.acceptHeld; split <;> simp

@[simp] theorem candidateAtRise_temp (s : State) : s.candidateAtRise.temp = s.temp := by
  unfold State.candidateAtRise; repeat' split
  all_goals simp

@[simp] theorem confirmEvidence_temp (s : State) : s.confirmEvidence.temp = s.temp := by
  unfold State.confirmEvidence
  split
  case h_1 => rfl
  case h_2 c cs _ =>
    split
    · rfl
    · have reported (u : State) (x : Cause) : (u.report x).temp = u.temp := by simp
      exact (reported _ _).trans (choose_temp c cs s)

@[simp] theorem markRises_temp (s : State) : s.markRises.temp = s.temp := by
  unfold State.markRises; dsimp only; split <;> simp

@[simp] theorem markStuck_temp (s : State) : s.markStuck.temp = s.temp := by
  unfold State.markStuck; dsimp only; repeat' split
  all_goals simp

/-! The WORD line -/

@[simp] theorem wordFallSeen_temp (s : State) : s.wordFallSeen.temp = s.temp := by
  unfold State.wordFallSeen; dsimp only; repeat' split
  all_goals simp

@[simp] theorem wordRises_temp (s : State) : s.wordRises.temp = s.temp := by
  unfold State.wordRises; dsimp only; split <;> simp

@[simp] theorem bitEnds_temp (s : State) : s.bitEnds.temp = s.temp := by
  unfold State.bitEnds State.driveBit; dsimp only; repeat' split
  all_goals simp

@[simp] theorem lineIdle_temp (s : State) : s.lineIdle.temp = s.temp := by
  unfold State.lineIdle; repeat' split
  all_goals simp

@[simp] theorem dropInFlight_temp (s : State) : s.dropInFlight.temp = s.temp := by
  unfold State.dropInFlight; split <;> rfl

@[simp] theorem openTalk_temp (s : State) : s.openTalk.temp = s.temp := by
  unfold State.openTalk; dsimp only; split <;> simp

@[simp] theorem closeTalk_temp (s : State) : s.closeTalk.temp = s.temp := by
  unfold State.closeTalk; dsimp only; repeat' split
  all_goals simp

@[simp] theorem wordStuck_temp (s : State) : s.wordStuck.temp = s.temp := by
  unfold State.wordStuck State.returnTalk; dsimp only; repeat' split
  all_goals simp

@[simp] theorem wordRecovered_temp (s : State) : s.wordRecovered.temp = s.temp := by
  simp [State.wordRecovered]

/-! The roster and the membership unit -/

@[simp] theorem noteDifference_temp (s : State) (k : NodeId) (e : Epoch) (t : TimingState) :
    (s.noteDifference k e t).temp = s.temp := by
  unfold State.noteDifference; split <;> rfl

@[simp] theorem offerEntry_temp (s : State) (f : Frame) : (s.offerEntry f).temp = s.temp := by
  unfold State.offerEntry; dsimp only; repeat' split
  all_goals rfl

@[simp] theorem rosterTakes_temp (s : State) (f : Frame) : (s.rosterTakes f).temp = s.temp := by
  unfold State.rosterTakes State.noteFrame; dsimp only; repeat' split
  all_goals simp

@[simp] theorem rosterLeave_temp (s : State) (k : NodeId) (r : LeaveReason) : (s.rosterLeave k r).temp = s.temp := by
  unfold State.rosterLeave; split <;> simp

@[simp] theorem rosterNotice_temp (s : State) (k : NodeId) (e : Epoch) (t : TimingState) :
    (s.rosterNotice k e t).temp = s.temp := by
  unfold State.rosterNotice; dsimp only; split <;> simp

@[simp] theorem leaveArrives_temp (s : State) (f : Frame) : (s.leaveArrives f).temp = s.temp := by
  unfold State.leaveArrives; repeat' split
  all_goals simp [memberLeave_eq]

@[simp] theorem reasonsChecked_temp (s : State) : s.reasonsChecked.temp = s.temp := by
  unfold State.reasonsChecked; split <;> simp

@[simp] theorem supplyFell_temp (s : State) : s.supplyFell.temp = s.temp := by
  unfold State.supplyFell; dsimp only; split <;> simp

@[simp] theorem supplyRose_temp (s : State) : s.supplyRose.temp = s.temp := by
  simp [State.supplyRose]

@[simp] theorem adoptEnsemble_temp (s : State) : s.adoptEnsemble.temp = s.temp := by
  obtain ⟨adopt, out, adopted⟩ := adoptEnsemble_shape s
  rw [adopted]

/-- The coarse step may bring the timing state to FREE (R144), which no bin of the table depends on. -/
@[simp] theorem decideAlignment_table (s : State) (delta : Int) :
    (s.decideAlignment delta).temp.table = s.temp.table := by
  unfold State.decideAlignment; repeat' split
  all_goals simp

@[simp] theorem listenDelivery_table (s : State) (f : Frame) : (s.listenDelivery f).temp.table = s.temp.table := by
  unfold State.listenDelivery; dsimp only; split <;> simp

@[simp] theorem deliver_table (s : State) (f : Frame) : (s.deliver f).temp.table = s.temp.table := by
  have taken := congrArg TempUnit.table (rosterTakes_temp s f)
  unfold State.deliver State.memberDelivery
  split
  case h_1 | h_2 => rw [listenDelivery_table, taken]
  case h_3 => cases f <;> exact taken
  all_goals exact taken

@[simp] theorem censusArrives_table (s : State) (f : Frame) : (s.censusArrives f).temp.table = s.temp.table := by
  unfold State.censusArrives; repeat' split
  all_goals simp

@[simp] theorem joinArrives_table (s : State) (f : Frame) : (s.joinArrives f).temp.table = s.temp.table := by
  unfold State.joinArrives; split <;> simp

/-! The generators and the reference qualifier -/

@[simp] theorem startPulse_temp (s : State) (i : Fin 4) : (s.startPulse i).temp = s.temp := by
  unfold State.startPulse; split <;> rfl

@[simp] theorem filteredBecomes_temp (s : State) (l : Bool) : (s.filteredBecomes l).temp = s.temp := by
  unfold State.filteredBecomes; dsimp only; repeat' split
  all_goals rfl

@[simp] theorem inhibitTaken_temp (s : State) (a : Bool) : (s.inhibitTaken a).temp = s.temp := by
  unfold State.inhibitTaken; dsimp only; repeat' split
  all_goals rfl

@[simp] theorem candidateAccepted_table (s : State) : s.candidateAccepted.temp.table = s.temp.table := by
  unfold State.candidateAccepted; split <;> simp

@[simp] theorem refinTaken_table (s : State) (l : Level) : (s.refinTaken l).temp.table = s.temp.table := by
  unfold State.refinTaken State.selectedTransition; dsimp only; repeat' split
  all_goals simp

@[simp] theorem refvalidTaken_table (s : State) (a : Bool) : (s.refvalidTaken a).temp.table = s.temp.table := by
  unfold State.refvalidTaken State.refvalidLost; dsimp only; repeat' split
  all_goals simp

@[simp] theorem refvalidPinBecomes_table (s : State) (d : Nat) (a : Bool) :
    (s.refvalidPinBecomes d a).temp.table = s.temp.table := by
  rw [refvalidPinBecomes_eq]; split <;> simp

@[simp] theorem referenceTaken_table (s : State) : s.referenceTaken.temp.table = s.temp.table := by
  unfold State.referenceTaken; dsimp only; repeat' split
  all_goals simp

/-! The temperature unit's own sample, and the boundary -/

@[simp] theorem takeSample_table (s : State) (die : Int) : (s.takeSample die).temp.table = s.temp.table := by
  unfold State.takeSample State.judgeRange; dsimp only; repeat' split
  all_goals rfl

@[simp] theorem boundaryProper_temp (s : State) (step : Option Int) (forward : Option Nat) (discarded : Bool) :
    (s.boundaryProper step forward discarded).temp = s.temp :=
  (boundaryProper_keeps s step forward discarded).1

@[simp] theorem decideStep_temp (s : State) : s.decideStep.temp = s.temp := by
  unfold State.decideStep; repeat' split
  all_goals simp

/-! The local port -/

@[simp] theorem setup_temp (s : State) (p : List Byte) : (s.setup p).temp = s.temp := by
  unfold State.setup; repeat' split
  all_goals rfl

@[simp] theorem readPage_temp (s : State) (p : List Byte) : (s.readPage p).temp = s.temp := by
  unfold State.readPage; split <;> rfl

@[simp] theorem takeBegin_temp (s : State) : s.takeBegin.temp = s.temp := by
  unfold State.takeBegin
  split
  · rfl
  · obtain ⟨-, -, -, -, temp, -⟩ := begin_rest s
    exact temp

@[simp] theorem withdraw_temp (s : State) : s.withdraw.temp = s.temp := by
  unfold State.withdraw; split <;> simp [State.accept, State.refuseState]

@[simp] theorem resume_temp (s : State) : s.resume.temp = s.temp := by
  unfold State.resume; split <;> simp [State.accept, State.refuseState]

@[simp] theorem trim_temp (s : State) (p : List Byte) : (s.trim p).temp = s.temp := by
  unfold State.trim; repeat' split
  all_goals rfl

@[simp] theorem clearInhibit_temp (s : State) : s.clearInhibit.temp = s.temp := by
  unfold State.clearInhibit; split <;> rfl

@[simp] theorem takeEvents_temp (s : State) (p : List Byte) : (s.takeEvents p).temp = s.temp := by
  unfold State.takeEvents; split <;> rfl

/-! ## The commands that leave the table alone -/

section Commands

variable {s : State} {f : State → State}

theorem atExpiry_table (r : Option Nat) (hf : ∀ u, (f u).temp.table = u.temp.table) :
    (s.atExpiry r f).temp.table = s.temp.table :=
  atExpiry_of (P := fun t => t.temp.table = s.temp.table) r rfl fun _ => hf _

theorem atPoint_table (p : PhasePoint) (hf : ∀ u, (f u).temp.table = u.temp.table) :
    (s.atPoint p f).temp.table = s.temp.table :=
  atPoint_of (P := fun t => t.temp.table = s.temp.table) p rfl (hf _)

theorem atRise_table (d : Nat) (hf : ∀ u, (f u).temp.table = u.temp.table) :
    (s.atRise d f).temp.table = s.temp.table := by
  have advanced : (s.advance d).temp.table = s.temp.table := by rw [advance_temp]
  exact atRise_of (P := fun t => t.temp.table = s.temp.table) d advanced ((hf _).trans advanced)

end Commands

/-- A command answers a next state with the table of `s`. -/
def KeepsTable (s : State) (r : Result) : Prop := NextHolds (fun t => t.temp.table = s.temp.table) r

section Commands

variable {s t : State}

theorem keepsTable_next (h : t.temp.table = s.temp.table) : KeepsTable s (.next t) :=
  nextHolds_next (P := fun t => t.temp.table = s.temp.table) h

theorem keepsTable_settle (h : t.temp.table = s.temp.table) : KeepsTable s (.next t.settle) :=
  keepsTable_next (by rw [settle_temp, h])

variable (s)

theorem execEndOfEpoch_table : KeepsTable s (execEndOfEpoch s) := by
  unfold execEndOfEpoch; split <;> exact keepsTable_next (by simp [State.runToEnd])

theorem execReplayEnd_table : KeepsTable s (execReplayEnd s) := by
  unfold execReplayEnd; split <;> exact keepsTable_next (by simp [State.runToEnd])

theorem execResetRelease_table (straps : NodeId) : KeepsTable s (execResetRelease straps s) := by
  unfold execResetRelease; split <;> exact keepsTable_next rfl

theorem execRefinTransition_table (dt : Nat) (rising : Bool) : KeepsTable s (execRefinTransition dt rising s) := by
  rw [execRefinTransition_eq]
  refine keepsTable_settle ?_
  split <;> simp

theorem execMarkFall_table (dt : Nat) : KeepsTable s (execMarkFall dt s) := by
  unfold execMarkFall; dsimp only; split <;> exact keepsTable_next (by simp)

theorem execMarkRise_table (dt : Nat) : KeepsTable s (execMarkRise dt s) := by
  unfold execMarkRise; dsimp only; repeat' split
  all_goals exact keepsTable_next (by simp)

theorem execWordFall_table (dt : Nat) : KeepsTable s (execWordFall dt s) := by
  unfold execWordFall; dsimp only; split <;> exact keepsTable_next (by simp)

theorem execWordRise_table (dt : Nat) : KeepsTable s (execWordRise dt s) := by
  unfold execWordRise; dsimp only; repeat' split
  all_goals exact keepsTable_next (by simp)

theorem execArbitrationLoss_table : KeepsTable s (execArbitrationLoss s) := by
  unfold execArbitrationLoss; split <;> exact keepsTable_next rfl

theorem execPayloadCollision_table : KeepsTable s (execPayloadCollision s) := by
  unfold execPayloadCollision; split <;> exact keepsTable_next (by simp)

theorem execFrameSent_table : KeepsTable s (execFrameSent s) := by
  unfold execFrameSent; split <;> exact keepsTable_next rfl

theorem execFrameError_table : KeepsTable s (execFrameError s) := by
  unfold execFrameError; split <;> exact keepsTable_next (by simp)

theorem execCensusReceived_table : KeepsTable s (execCensusReceived s) := by
  unfold execCensusReceived; split <;> exact keepsTable_next (by simp)

theorem execJoinReceived_table : KeepsTable s (execJoinReceived s) := by
  unfold execJoinReceived; split <;> exact keepsTable_next (by simp)

theorem execLeaveReceived_table : KeepsTable s (execLeaveReceived s) := by
  unfold execLeaveReceived; split <;> exact keepsTable_next (by simp)

theorem execSupplySenseCrossing_table (dt mV : Nat) : KeepsTable s (execSupplySenseCrossing dt mV s) := by
  unfold execSupplySenseCrossing; dsimp only; split <;> exact keepsTable_next (by simp)

theorem execInhibitPinChange_table (dt : Nat) (a : Bool) : KeepsTable s (execInhibitPinChange dt a s) := by
  rw [execInhibitPinChange_eq]
  refine keepsTable_next ?_
  split <;> simp

theorem execTransactionStart_table (dt : Nat) : KeepsTable s (execTransactionStart dt s) := by
  unfold execTransactionStart; dsimp only; split <;> exact keepsTable_next (by simp)

theorem execReadResponse_table (dt count : Nat) : KeepsTable s (execReadResponse dt count s) := by
  unfold execReadResponse; split <;> exact keepsTable_next (atRise_table dt fun _ => rfl)

theorem execUnknownCommand_table (dt : Nat) (code : Byte) : KeepsTable s (execUnknownCommand dt code s) := by
  unfold execUnknownCommand
  split
  · exact keepsTable_next rfl
  · exact keepsTable_next (atRise_table dt fun _ => rfl)

theorem execResponseCompletion_table (dt : Nat) : KeepsTable s (execResponseCompletion dt s) := by
  unfold execResponseCompletion; dsimp only; split <;> exact keepsTable_next (by simp)

/-- The three commands that may write in the table (R151). -/
def Instr.WritesTable : Instr → Prop
  | .powerOnReset | .loadTablePage _ _ | .solvePoint => True
  | _ => False

/-- No other command does. -/
theorem exec_table (i : Instr) (hi : ¬ Instr.WritesTable i) : KeepsTable s (exec i s) := by
  match i with
  | .powerOnReset | .loadTablePage _ _ | .solvePoint => exact absurd trivial hi
  | .resetPin => exact keepsTable_next rfl
  | .resetRelease straps => exact execResetRelease_table s straps
  | .endOfEpoch => exact execEndOfEpoch_table s
  | .replayEnd => exact execReplayEnd_table s
  | .slotTime k => exact keepsTable_next (atPoint_table _ (by simp))
  | .markRelease | .heldLowTest | .markRecovery | .blankingEnd | .pulseEnd _ | .wordSamplePoint =>
    exact keepsTable_next (atExpiry_table _ fun _ => rfl)
  | .endOfMarkRegion => exact keepsTable_settle (atPoint_table _ (by simp))
  | .temperatureSample die => exact keepsTable_settle (atPoint_table _ (by simp))
  | .talkWindowOpening => exact keepsTable_next (atPoint_table _ fun u => by split <;> simp)
  | .talkWindowClosing => exact keepsTable_settle (atPoint_table _ (by simp))
  | .refinTransition dt rising => exact execRefinTransition_table s dt rising
  | .refinEdgeAccepted => exact keepsTable_settle (atExpiry_table _ (by simp))
  | .refvalidDeassert dt => exact keepsTable_settle (refvalidPinBecomes_table s dt false)
  | .refvalidAssert dt => exact keepsTable_settle (refvalidPinBecomes_table s dt true)
  | .markFall dt => exact execMarkFall_table s dt
  | .markEdgeAccept => exact keepsTable_settle (atExpiry_table _ (by simp))
  | .markRise dt => exact execMarkRise_table s dt
  | .markStuck => exact keepsTable_settle (atExpiry_table _ (by simp))
  | .wordFall dt => exact execWordFall_table s dt
  | .wordRise dt => exact execWordRise_table s dt
  | .lineIdle => exact keepsTable_next (atExpiry_table _ (by simp))
  | .arbitrationLoss => exact execArbitrationLoss_table s
  | .payloadCollision => exact execPayloadCollision_table s
  | .frameSent => exact execFrameSent_table s
  | .frameError => exact execFrameError_table s
  | .censusReceived => exact execCensusReceived_table s
  | .joinReceived => exact execJoinReceived_table s
  | .leaveReceived => exact execLeaveReceived_table s
  | .wordStuck => exact keepsTable_settle (atExpiry_table _ (by simp))
  | .wordRecovery => exact keepsTable_next (atExpiry_table _ (by simp))
  | .supplySenseCrossing dt mV => exact execSupplySenseCrossing_table s dt mV
  | .supplyLow => exact keepsTable_settle (atExpiry_table _ (by simp))
  | .supplyRestored => exact keepsTable_settle (atExpiry_table _ (by simp))
  | .generatorStart g => exact keepsTable_next (atExpiry_table _ (by simp))
  | .inhibitPinChange dt a => exact execInhibitPinChange_table s dt a
  | .filteredLevelChange => exact keepsTable_settle (atExpiry_table _ (by simp))
  | .transactionStart dt => exact execTransactionStart_table s dt
  | .shortTransaction dt _ => exact keepsTable_next (atRise_table dt fun _ => rfl)
  | .readResponse dt count => exact execReadResponse_table s dt count
  | .setup dt _ => exact keepsTable_next (atRise_table dt (by simp))
  | .begin dt => exact keepsTable_settle (atRise_table dt (by simp))
  | .status dt => exact keepsTable_next (atRise_table dt fun _ => rfl)
  | .roster dt => exact keepsTable_next (atRise_table dt fun _ => rfl)
  | .tablePage dt _ => exact keepsTable_next (atRise_table dt (by simp))
  | .events dt _ => exact keepsTable_next (atRise_table dt (by simp))
  | .withdraw dt => exact keepsTable_settle (atRise_table dt (by simp))
  | .resume dt => exact keepsTable_settle (atRise_table dt (by simp))
  | .trimGroup dt _ => exact keepsTable_next (atRise_table dt (by simp))
  | .clearInhibit dt => exact keepsTable_settle (atRise_table dt (by simp))
  | .unknownCommand dt code => exact execUnknownCommand_table s dt code
  | .responseCompletion dt => exact execResponseCompletion_table s dt
  | .wordBitStart => exact keepsTable_next (atExpiry_table _ (by simp))
  | .oscinStop dt => exact keepsTable_next (by simp)
  | .oscinReturn => exact keepsTable_settle (by simp)

end Commands

/-! ## The solve (R122, R152) -/

section Solve

variable (s : State) (v : SolveView) (p : PhaseError)

@[simp] theorem solveOpens_temp : (s.solveOpens v).temp = s.temp := by
  rw [solveOpens_eq]

@[simp] theorem applySource_table : (s.applySource v).temp.table = s.temp.table := by
  simp [State.applySource]

@[simp] theorem judgeUndispute_temp : (s.judgeUndispute v).temp = s.temp := by
  unfold State.judgeUndispute State.countUndispute State.endDispute State.requestUndisputed
  dsimp only
  repeat' split
  all_goals rfl

@[simp] theorem judgeSplit_temp : (s.judgeSplit v).temp = s.temp := by
  unfold State.judgeSplit; repeat' split
  all_goals rfl

@[simp] theorem requestDisputed_temp : s.requestDisputed.temp = s.temp := by
  unfold State.requestDisputed; split <;> rfl

@[simp] theorem judgeDispute_table : (s.judgeDispute v).temp.table = s.temp.table := by
  unfold State.judgeDispute State.dispute; repeat' split
  all_goals simp

@[simp] theorem settleSource_table : (s.settleSource v).temp.table = s.temp.table := by
  unfold State.settleSource State.judgeAnchors; split <;> simp

@[simp] theorem judgeSelf_temp : (s.judgeSelf p).temp = s.temp := by
  unfold State.judgeSelf; repeat' split
  all_goals rfl

@[simp] theorem judgeLock_table (e : Int) : (s.judgeLock v e).temp.table = s.temp.table := by
  unfold State.judgeLock State.lock; dsimp only; repeat' split
  all_goals simp

@[simp] theorem correctF_temp (e : Int) : (s.correctF e).temp = s.temp := by
  unfold State.correctF; dsimp only; split <;> rfl

@[simp] theorem steer_table : (s.steer v p).2.temp.table = s.temp.table := by
  unfold State.steer; dsimp only; repeat' split
  all_goals simp

@[simp] theorem setBound_temp : (s.setBound v p).temp = s.temp := by
  unfold State.setBound; split <;> rfl

@[simp] theorem updateBound_temp : (s.updateBound v p).temp = s.temp := by
  have judged (u : State) : u.judgeBudget.refreshTimeValid.temp = u.temp := by simp
  unfold State.updateBound
  split
  · exact judged { s with solver := s.solver.grow }
  · exact setBound_temp s v p

end Solve

/-- The solve point hands over from a state whose table is the one before it: steps 1 to 8 write in no bin (R122). -/
theorem solvePoint_handsOver (s : State) : ∃ (u : State) (c : Int) (verdicts : NodeId → Verdict),
    u.temp.table = s.temp.table ∧ s.solvePoint = u.handResults c verdicts := by
  let a := s.closeInterval.2.rosterMarks
  let v := a.solveView s.closeInterval.1
  let b := (a.solveOpens v).settleSource v
  let p := b.phaseError v
  let q := (b.judgeSelf p).steer v p
  refine ⟨q.2.updateBound v p, q.1, (b.judgeSelf p).verdictOn p, ?_, rfl⟩
  have marked : a.temp = s.closeInterval.2.temp := by simp only [a, rosterMarks_eq]
  simp [q, b, marked]

/-- The hand-over leaves the table, or learns into one bin of it, in ANCHORED or BORROWING alone (R152). -/
theorem handResults_table (s : State) (c : Int) (verdicts : NodeId → Verdict) :
    (s.handResults c verdicts).temp.table = s.temp.table ∨
    ((s.solver.timing = .anchored ∨ s.solver.timing = .borrowing) ∧ ∃ (i : Nat) (f : Int),
      (s.handResults c verdicts).temp.table = s.temp.table.setIfInBounds i ((s.temp.bin i).learn f)) := by
  obtain ⟨absent, present⟩ := handResults_temp s c verdicts
  cases hx : s.temp.mean with
  | none => exact .inl (by rw [absent hx])
  | some x =>
    obtain ⟨learns, otherwise⟩ := present x hx
    by_cases h : (s.handed c).settledFor c (s.cfg.slewLimit s.solver.timing) ∧ -800 ≤ x ∧ x ≤ 1759
    · obtain ⟨settled, range⟩ := h
      exact .inr ⟨settled.1, _, _, by rw [learns settled range]⟩
    · exact .inl (by rw [otherwise h])

/-- What SOLVE_POINT makes of the table (R151, R152). -/
theorem exec_solvePoint_table {s t : State} (h : exec .solvePoint s = .next t) :
    t.temp.table = s.temp.table ∨
    ((t.solver.timing = .anchored ∨ t.solver.timing = .borrowing) ∧ ∃ (i : Nat) (f : Int),
      t.temp.table = s.temp.table.setIfInBounds i ((s.temp.bin i).learn f)) := by
  obtain rfl := Host.Outcome.next.inj h
  rw [settle_temp, settle_solver]
  obtain e | ⟨-, e⟩ := atPoint_cases .solve (fun s => if s.begun then s.solvePoint else s) s
  · exact .inl (by rw [e])
  · rw [e]
    split
    · obtain ⟨u, c, verdicts, before, shape⟩ := solvePoint_handsOver (s.raise .solve)
      obtain ⟨-, -, timing, -⟩ := handResults_writes u c verdicts
      have table : u.temp.table = s.temp.table := before
      have bin (i : Nat) : u.temp.bin i = s.temp.bin i := by rw [TempUnit.bin, table]; rfl
      have handed := handResults_table u c verdicts
      simp only [table, bin] at handed
      rw [shape, timing]
      exact handed
    · exact .inl rfl

/-! ## Loads (R159) -/

/-- What LOAD TABLE PAGE makes of the table: nothing from BEGIN on (R159, R184). -/
theorem exec_loadTablePage_table {s t : State} {dt : Nat} {payload : List Byte}
    (h : exec (.loadTablePage dt payload) s = .next t) :
    t.temp.table = s.temp.table ∨
    (s.mem.state = .unconfigured ∧ ∃ (i : Nat) (bins : List Nat), t.temp.table = loadBins s.temp.table i bins) := by
  obtain rfl := Host.Outcome.next.inj h
  have table : (s.advance dt).temp.table = s.temp.table := by rw [advance_temp]
  obtain ⟨-, e⟩ | ⟨-, e⟩ := atRise_cases dt (State.loadPage payload) s
  · exact .inl (by rw [e, table])
  · rw [e, State.loadPage]
    split
    · exact .inl table
    · next hb =>
      split
      · exact .inl table
      · next vs _ =>
        refine .inr ⟨?_, 16 * vs.headD 0, vs.tail, by rw [← table]; rfl⟩
        simpa [State.begun] using hb

/-! ## The counts (R151, R153) -/

/-- No count of a table passes 255. -/
def CountsHold (table : Vector TempBin 80) : Prop := ∀ (i : Nat) (h : i < 80), table[i].count ≤ 255

theorem countsHold_iff (t : TempUnit) : CountsHold t.table ↔ ∀ i, (t.bin i).count ≤ 255 := by
  refine ⟨fun h i => ?_, fun h i hi => ?_⟩
  · rw [TempUnit.bin]
    by_cases hi : i < 80
    · simpa [hi] using h i hi
    · simp [hi]
  · simpa [TempUnit.bin, hi] using h i

theorem clearTable_countsHold : CountsHold TempUnit.clearTable := fun i hi => by simp [TempUnit.clearTable]

theorem CountsHold.set {table : Vector TempBin 80} (h : CountsHold table) (i : Nat) {b : TempBin}
    (hb : b.count ≤ 255) : CountsHold (table.setIfInBounds i b) := by
  intro j hj
  rw [Vector.getElem_setIfInBounds]
  split
  · exact hb
  · exact h j hj

theorem CountsHold.loadBins {table : Vector TempBin 80} (h : CountsHold table) (i : Nat) (bins : List Nat) :
    CountsHold (loadBins table i bins) := by
  induction bins generalizing table i with
  | nil => exact h
  | cons v vs ih => exact ih (h.set i (Nat.le_of_lt_succ (Nat.mod_lt v (by decide)))) (i + 1)

/-- A sample learned counts one more, up to 255 (R153). -/
theorem learn_count (x : Int) (b : TempBin) : (b.learn x).count = min 255 (b.count + 1) := by
  unfold TempBin.learn
  dsimp only
  split
  next h => exact (Nat.min_eq_right h).symm
  next h => exact (Nat.min_eq_left (Nat.le_succ_of_le (Nat.not_lt.1 h))).symm

/-- Every command keeps the counts. -/
theorem exec_countsHold {c : Instr} {s t : State} (e : exec c s = .next t) (h : CountsHold s.temp.table) :
    CountsHold t.temp.table := by
  by_cases hc : Instr.WritesTable c
  · match c with
    | .powerOnReset =>
      obtain rfl := Host.Outcome.next.inj e
      exact clearTable_countsHold
    | .loadTablePage dt payload =>
      obtain e | ⟨-, i, bins, e⟩ := exec_loadTablePage_table e
      · rwa [e]
      · rw [e]
        exact h.loadBins i bins
    | .solvePoint =>
      obtain e | ⟨-, i, f, e⟩ := exec_solvePoint_table e
      · rwa [e]
      · rw [e]
        exact h.set i (by rw [learn_count]; exact Nat.min_le_left _ _)
  · rw [exec_table s c hc t e]
    exact h

/-! ## The statement -/

/-- Settles O44: a command that is none of the three leaves the table (`exec_table`); LOAD TABLE PAGE and SOLVE_POINT
write in it by `exec_loadTablePage_table` and `exec_solvePoint_table`, and keep the counts by `exec_countsHold`. -/
theorem theTableChangesOnlyByResetLoadOrLearning : Obligations.TheTableChangesOnlyByResetLoadOrLearning := by
  refine ⟨fun c s t e changed => ?_, fun c s t e h => ?_⟩
  · by_cases hc : Instr.WritesTable c
    · match c with
      | .powerOnReset => exact .inl rfl
      | .loadTablePage dt payload =>
        obtain same | ⟨state, -⟩ := exec_loadTablePage_table e
        · exact absurd same changed
        · exact .inr (.inl ⟨dt, payload, rfl, state⟩)
      | .solvePoint =>
        obtain same | ⟨timing, -⟩ := exec_solvePoint_table e
        · exact absurd same changed
        · exact .inr (.inr ⟨rfl, timing⟩)
    · exact absurd (exec_table s c hc t e) changed
  · exact (countsHold_iff _).1 (exec_countsHold e ((countsHold_iff _).2 h))

end Sys2Proof.Machine

/-! # Die samples, the learned bins and the prediction (R148 to R150, R153, R154) -/

namespace Sys2Proof.Machine

open Sys2Proof

/-! ## Samples and the mean (R148, R149) -/

theorem mean_of_ne_nil {t : TempUnit} (h : t.samples ≠ []) :
    t.mean = some (Int.tdiv (sumInt t.samples) t.samples.length) := by
  unfold TempUnit.mean
  split
  next hs => exact absurd hs h
  next => rfl

theorem appendBounded_ne_nil {α : Type} {limit : Nat} (h : 0 < limit) (xs : List α) (x : α) :
    appendBounded limit xs x ≠ [] := by
  unfold appendBounded
  simp only [ne_eq, List.drop_eq_nil_iff, List.length_append, List.length_singleton]
  omega

/-! ## The excursion flag (R150) -/

theorem tempInRange_iff (x : Int) : tempInRange x = true ↔ ¬ (x < -800 ∨ 1759 < x) := by
  simp [tempInRange]

/-- The excursion flag becomes what the new T says, and the change to raised is posted from BEGIN on (R150). -/
theorem judgeRange_eq {s : State} {x : Int} (h : s.temp.mean = some x) :
    let out := x < -800 ∨ 1759 < x
    let judged : State := { s with temp.excursion := decide out }
    s.judgeRange = if out ∧ s.temp.excursion = false ∧ s.begun = true then judged.postInt .temperature .tempRange none x
      else judged := by
  intro out judged
  by_cases hout : out
  · have outside : tempInRange x = false := by simpa using mt (tempInRange_iff x).1 (not_not.2 hout)
    have raised : judged = { s with temp.excursion := true } := by simp only [judged, decide_eq_true hout]
    rw [raised]
    cases he : s.temp.excursion with
    | true =>
      have already : { s with temp.excursion := true } = s := by rw [← he]
      simp [State.judgeRange, h, outside, he, already]
    | false => simp [State.judgeRange, State.begun, h, outside, he, hout]
  · have inside : tempInRange x = true := (tempInRange_iff x).2 hout
    have lowered : judged = { s with temp.excursion := false } := by simp only [judged, decide_eq_false hout]
    simp [State.judgeRange, h, inside, hout, lowered]

/-- TEMPERATURE_SAMPLE where it is due (R148). -/
theorem exec_temperatureSample_due {s : State} (h : s.pointDue .temperature = true) (die : Int) :
    exec (.temperatureSample die) s = .next ((s.raise .temperature).takeSample die).settle := by
  show execTemperatureSample die s = _
  rw [execTemperatureSample, atPoint_due _ _ _ h]

/-- Settles O41: the sample leaves a list that is not empty, and the flag follows its mean by `judgeRange_eq`. -/
theorem temperatureSamplesFormTheMean : Obligations.TemperatureSamplesFormTheMean := by
  intro s die due empty u samples x out v
  let w : State := { u with temp.samples := samples }
  have mean : w.temp.mean = some x := mean_of_ne_nil (appendBounded_ne_nil (by decide) _ _)
  have executed : exec (.temperatureSample die) s = .next w.judgeRange.settle := exec_temperatureSample_due due die
  have judged : w.judgeRange = if out ∧ s.temp.excursion = false ∧ s.begun = true then
      v.postInt .temperature .tempRange none x else v := judgeRange_eq mean
  rw [executed, judged]
  refine ⟨mean, fun still => ?_, fun hout fresh begun => ?_⟩
  · have untold : ¬ (out ∧ s.temp.excursion = false ∧ s.begun = true) := by
      rintro ⟨hout, fresh, begun⟩
      obtain hn | raised | unbegun := still
      · exact hn hout
      · exact Bool.false_ne_true (fresh.symm.trans raised)
      · exact Bool.false_ne_true (unbegun.symm.trans begun)
    rw [if_neg untold, settle_nil v empty]
  · rw [if_pos ⟨hout, fresh, begun⟩]
    exact congrArg Host.Outcome.next (settle_post v .temperature .tempRange none _ empty)

/-! ## Learning (R153) -/

/-- A share of a difference lies between nothing and the whole of it. -/
theorem tdiv_between (d : Int) {n : Int} (hn : 1 ≤ n) : min 0 d ≤ Int.tdiv d n ∧ Int.tdiv d n ≤ max 0 d := by
  obtain hd | hd := Int.le_total 0 d
  · have share : Int.tdiv d n = d / n := Int.tdiv_eq_ediv_of_nonneg hd
    have low : 0 ≤ d / n := Int.ediv_nonneg hd (by omega)
    have high : d / n ≤ d := Int.ediv_le_self n hd
    omega
  · have share : Int.tdiv d n = -(-d / n) := by
      rw [← Int.neg_neg d, Int.neg_tdiv, Int.neg_neg, Int.tdiv_eq_ediv_of_nonneg (by omega)]
    have low : 0 ≤ -d / n := Int.ediv_nonneg (by omega) (by omega)
    have high : -d / n ≤ -d := Int.ediv_le_self n (by omega)
    omega

section Learn

variable (x : Int) {b : TempBin}

theorem learn_first (h : b.count = 0) : b.learn x = ⟨x, 1⟩ := by simp [TempBin.learn, h]

theorem learn_counted (h : 0 < b.count) (hb : b.count < 255) :
    b.learn x = ⟨b.value + Int.tdiv (x - b.value) (b.count + 1), b.count + 1⟩ := by
  simp [TempBin.learn, hb, Nat.pos_iff_ne_zero.1 h]

theorem learn_full (h : b.count = 255) : b.learn x = ⟨b.value + Int.tdiv (x - b.value) 256, 255⟩ := by
  simp [TempBin.learn, h]

end Learn

/-- Settles O42: the rows of R153, and a share of the difference that lies within it (`tdiv_between`). -/
theorem learnedSamplesMoveTheirBin : Obligations.LearnedSamplesMoveTheirBin := by
  refine fun x b => ⟨learn_first x, learn_counted x, learn_full x, fun h hb => ?_⟩
  have moved : ∃ n : Int, 1 ≤ n ∧ (b.learn x).value = b.value + Int.tdiv (x - b.value) n := by
    obtain hc | hc := Nat.lt_or_eq_of_le hb
    · exact ⟨b.count + 1, by omega, by rw [learn_counted x h hc]⟩
    · exact ⟨256, by decide, by rw [learn_full x hc]⟩
  obtain ⟨n, hn, value⟩ := moved
  have share := tdiv_between (x - b.value) hn
  omega

/-! ## The prediction (R149, R154) -/

/-- The bin of a temperature, clamped to the table (R149). -/
theorem binOf_cases (x : Int) :
    (-800 ≤ x → x ≤ 1759 → (binOf x : Int) = (x + 800) / 32) ∧ (x < -800 → binOf x = 0) ∧
    (1759 < x → binOf x = 79) := by
  unfold binOf clampInt
  rw [Int.fdiv_eq_ediv_of_nonneg _ (by decide)]
  omega

section Predict

variable (t : TempUnit)

theorem predicts_some {i : Nat} (h : 8 ≤ (t.bin i).count) : t.predicts i = some (t.bin i).value := if_pos h

theorem predicts_none {i : Nat} (h : ¬ 8 ≤ (t.bin i).count) : t.predicts i = none := if_neg h

/-- The search looks no further than the table, beyond which no bin has a count. -/
theorem predicts_above (i : Nat) : (if i < 80 then t.predicts i else none) = t.predicts i := by
  split
  · rfl
  · next h => exact (predicts_none t (by simp [TempUnit.bin, h])).symm

/-- No bin at distance `d` of bin `b` predicts. -/
def TempUnit.SilentAt (b d : Nat) : Prop := (d ≤ b → ¬ 8 ≤ (t.bin (b - d)).count) ∧ ¬ 8 ≤ (t.bin (b + d)).count

theorem neighbour_cons (b d : Nat) (ds : List Nat) : t.neighbour b (d :: ds) =
    ((if d ≤ b then t.predicts (b - d) else none).or (t.predicts (b + d))).or (t.neighbour b ds) := by
  rw [TempUnit.neighbour, predicts_above]
  cases (if d ≤ b then t.predicts (b - d) else none) <;> cases t.predicts (b + d) <;> rfl

/-- Distances at which no bin predicts are passed over. -/
theorem neighbour_silent {b : Nat} {near : List Nat} (h : ∀ d ∈ near, t.SilentAt b d) (far : List Nat) :
    t.neighbour b (near ++ far) = t.neighbour b far := by
  induction near with
  | nil => rfl
  | cons d near ih =>
    obtain ⟨⟨below, above⟩, rest⟩ := List.forall_mem_cons.1 h
    have lower : (if d ≤ b then t.predicts (b - d) else none) = none := by
      split
      · next hd => exact predicts_none t (below hd)
      · rfl
    rw [List.cons_append, neighbour_cons, lower, predicts_none t above, ih rest]
    rfl

/-- The ten distances, cut at one of them. -/
theorem tenDistances_cut {d : Nat} (h : 1 ≤ d) (h' : d ≤ 10) :
    [1, 2, 3, 4, 5, 6, 7, 8, 9, 10] = List.range' 1 (d - 1) ++ d :: List.range' (d + 1) (10 - d) := by
  rw [← List.range'_succ, show 10 - d + 1 = 11 - d by omega]
  have cut := List.range'_append_1 (s := 1) (m := d - 1) (n := 11 - d)
  rw [show 1 + (d - 1) = d by omega, show d - 1 + (11 - d) = 10 by omega] at cut
  exact cut.symm

variable {t} {x : Int} (h : t.mean = some x)
include h

theorem predict_bin (hb : 8 ≤ (t.bin (binOf x)).count) : t.predict = ((t.bin (binOf x)).value, .bin) := by
  simp only [TempUnit.predict, h, predicts_some t hb]

theorem predict_neighbour (hb : ¬ 8 ≤ (t.bin (binOf x)).count) {v : Int}
    (hv : t.neighbour (binOf x) [1, 2, 3, 4, 5, 6, 7, 8, 9, 10] = some v) : t.predict = (v, .neighbour) := by
  simp only [TempUnit.predict, h, predicts_none t hb, hv]

theorem predict_frozen (hb : ¬ 8 ≤ (t.bin (binOf x)).count)
    (hn : t.neighbour (binOf x) [1, 2, 3, 4, 5, 6, 7, 8, 9, 10] = none) :
    t.predict = (t.frozen.getD t.lastF, .frozen) := by
  simp only [TempUnit.predict, h, predicts_none t hb, hn]

end Predict

theorem predict_untimed {t : TempUnit} (h : t.samples = []) : t.predict = (t.frozen.getD t.lastF, .frozen) := by
  have absent : t.mean = none := by rw [TempUnit.mean, h]
  simp only [TempUnit.predict, absent]

/-- Settles O43: the first distance at which a bin predicts decides (`neighbour_silent`, `neighbour_cons`). -/
theorem predictionReadsTheNearestLearnedBin : Obligations.PredictionReadsTheNearestLearnedBin := by
  intro t fallback
  have frozen : t.frozen.getD t.lastF = fallback := by
    simp only [fallback]
    cases t.frozen <;> rfl
  rw [← frozen]
  refine ⟨predict_untimed, fun x hx => ?_⟩
  obtain ⟨inside, below, above⟩ := binOf_cases x
  refine ⟨inside, below, above, predict_bin hx, fun d hb one ten silent => ?_, fun hb silent => ?_⟩
  · have nearest : t.neighbour (binOf x) [1, 2, 3, 4, 5, 6, 7, 8, 9, 10] =
        ((if d ≤ binOf x then t.predicts (binOf x - d) else none).or (t.predicts (binOf x + d))).or
          (t.neighbour (binOf x) (List.range' (d + 1) (10 - d))) := by
      rw [tenDistances_cut one ten, ← neighbour_cons]
      refine neighbour_silent t (fun d' hd' => ?_) _
      obtain ⟨low, high⟩ := List.mem_range'_1.1 hd'
      exact silent d' low (by omega)
    refine ⟨fun hd lower => ?_, fun lower upper => ?_⟩
    · refine predict_neighbour hx hb (nearest.trans ?_)
      rw [if_pos hd, predicts_some t lower]
      rfl
    · refine predict_neighbour hx hb (nearest.trans ?_)
      have passed : (if d ≤ binOf x then t.predicts (binOf x - d) else none) = none := by
        split
        · next hd => exact predicts_none t (lower hd)
        · rfl
      rw [passed, predicts_some t upper]
      rfl
  · refine predict_frozen hx hb ?_
    refine (neighbour_silent t (near := [1, 2, 3, 4, 5, 6, 7, 8, 9, 10]) (fun d hd => ?_) []).trans rfl
    obtain ⟨low, high⟩ := List.mem_range'_1.1 (show d ∈ List.range' 1 10 from hd)
    exact silent d low (by omega)

end Sys2Proof.Machine

/-! # SETUP and LOAD TABLE PAGE (R159, R177, R180, R181, R184, R198) -/

namespace Sys2Proof.Machine

open Sys2Proof

/-! ## The commands, taken and refused (R180, R181, R184) -/

theorem exec_setup {s : State} {x : Slot} (ht : s.port.transaction = some x) (dt : Nat) (payload : List Byte) :
    exec (.setup dt payload) s =
      .next (State.setup payload { s.advance dt with port.transaction := none, port.sdo := none }) := by
  show Host.Outcome.next (s.atRise dt (State.setup payload)) = _
  rw [atRise_some _ _ _ x ht]

theorem exec_loadTablePage {s : State} {x : Slot} (ht : s.port.transaction = some x) (dt : Nat) (payload : List Byte) :
    exec (.loadTablePage dt payload) s =
      .next (State.loadPage payload { s.advance dt with port.transaction := none, port.sdo := none }) := by
  show Host.Outcome.next (s.atRise dt (State.loadPage payload)) = _
  rw [atRise_some _ _ _ x ht]

section Taken

variable {s : State} {payload : List Byte}

theorem setup_begun (h : s.begun = true) : s.setup payload = s.refuseState 0x01 := by simp [State.setup, h]

theorem setup_refused {i : Nat} (h : s.begun = false) (hp : parseFields setupFields 1 [] payload = .refused i) :
    s.setup payload = s.refuseField 0x01 i := by
  simp [State.setup, h, hp]

theorem setup_accepted {vs : List Nat} (h : s.begun = false)
    (hp : parseFields setupFields 1 [] payload = .accepted vs) :
    s.setup payload = { s with port.record := some (settingsOf vs) }.accept 0x01 (layOut setupFields vs) := by
  simp [State.setup, h, hp]

theorem loadPage_begun (h : s.begun = true) : s.loadPage payload = s.refuseState 0x02 := by simp [State.loadPage, h]

theorem loadPage_refused {i : Nat} (h : s.begun = false)
    (hp : parseFields tablePageFields 1 [] payload = .refused i) : s.loadPage payload = s.refuseField 0x02 i := by
  simp [State.loadPage, h, hp]

theorem loadPage_accepted {page : Nat} {bins : List Nat} (h : s.begun = false)
    (hp : parseFields tablePageFields 1 [] payload = .accepted (page :: bins)) :
    s.loadPage payload = { s with temp.table := loadBins s.temp.table (16 * page) bins }.accept 0x02 [] := by
  simp [State.loadPage, h, hp]

end Taken

/-- The two commands taken or refused (R180, R181, R184). -/
theorem configuration_taken (s : State) (dt : Nat) (x : Slot) (payload : List Byte)
    (ht : s.port.transaction = some x) :
    let u : State := { s.advance dt with port.transaction := none, port.sdo := none }
    let answered : Response → State := fun r => { u with port.slot := .pending r }
    (s.begun = true → exec (.setup dt payload) s = .next (answered ⟨0x01, .refusedState, 0, []⟩)) ∧
    (s.begun = true → exec (.loadTablePage dt payload) s = .next (answered ⟨0x02, .refusedState, 0, []⟩)) ∧
    (∀ i, s.begun = false → parseFields setupFields 1 [] payload = .refused i →
      exec (.setup dt payload) s = .next (answered ⟨0x01, .refusedValue, i, []⟩)) ∧
    (∀ vs, s.begun = false → parseFields setupFields 1 [] payload = .accepted vs →
      exec (.setup dt payload) s = .next { u with
        port.record := some (settingsOf vs)
        port.slot := .pending ⟨0x01, .ok, 0, layOut setupFields vs⟩ }) ∧
    (∀ i, s.begun = false → parseFields tablePageFields 1 [] payload = .refused i →
      exec (.loadTablePage dt payload) s = .next (answered ⟨0x02, .refusedValue, i, []⟩)) ∧
    (∀ page bins, s.begun = false → parseFields tablePageFields 1 [] payload = .accepted (page :: bins) →
      exec (.loadTablePage dt payload) s = .next { u with
        temp.table := loadBins s.temp.table (16 * page) bins
        port.slot := .pending ⟨0x02, .ok, 0, []⟩ }) := by
  intro u answered
  have begun : u.begun = s.begun := advance_begun s dt
  have table : u.temp.table = s.temp.table := congrArg TempUnit.table (advance_temp s dt)
  rw [exec_setup ht, exec_loadTablePage ht, ← begun, ← table]
  refine ⟨fun hb => ?_, fun hb => ?_, fun i hb hp => ?_, fun vs hb hp => ?_, fun i hb hp => ?_,
    fun page bins hb hp => ?_⟩
  · rw [setup_begun hb]; rfl
  · rw [loadPage_begun hb]; rfl
  · rw [setup_refused hb hp]; rfl
  · rw [setup_accepted hb hp]; rfl
  · rw [loadPage_refused hb hp]; rfl
  · rw [loadPage_accepted hb hp]; rfl

/-! ## The fields of a page (R184, R198) -/

/-- An accepted payload has its fields whole, each passing its check, in order. -/
theorem parseFields_cons_accepted {f : FieldSpec} {fs : List FieldSpec} {i : Nat} {acc values : List Nat}
    {bytes : List Byte} (h : parseFields (f :: fs) i acc bytes = .accepted values) :
    ∃ v, f.width ≤ bytes.length ∧ f.check acc (natBE (bytes.take f.width)) = some v ∧
      parseFields fs (i + 1) (v :: acc) (bytes.drop f.width) = .accepted values := by
  by_cases whole : f.width ≤ bytes.length
  · cases hc : f.check acc (natBE (bytes.take f.width)) with
    | none => cases (parseFields_refused whole hc).symm.trans h
    | some v => exact ⟨v, whole, rfl, (parseFields_taken whole hc).symm.trans h⟩
  · cases (parseFields_short (Nat.lt_of_not_le whole)).symm.trans h

theorem pageField_check (acc : List Nat) (v : Nat) : pageField.check acc v = if v < 5 then some v else none := rfl

theorem binField_check (acc : List Nat) (v : Nat) : binField.check acc v =
    if -100000000 ≤ signedOf (v / 256) ∧ signedOf (v / 256) ≤ 100000000 then some v else none := rfl

/-- The value of a bin field lies within ±100,000,000 ppt (R184). -/
def BinFits (v : Nat) : Prop := -100000000 ≤ signedOf (v / 256) ∧ signedOf (v / 256) ≤ 100000000

/-- The bins of an accepted page, byte by byte. -/
theorem parseBins_accepted {n i : Nat} {acc values : List Nat} {bytes : List Byte}
    (h : parseFields (List.replicate n binField) i acc bytes = .accepted values) :
    ∃ bins, values = acc.reverse ++ bins ∧ bins.length = n ∧
      ∀ j, j < n → bins.getD j 0 = fieldIn bytes (5 * j) 5 ∧ BinFits (bins.getD j 0) := by
  induction n generalizing i acc bytes with
  | zero =>
    obtain rfl : acc.reverse = values := by injection h
    exact ⟨[], by simp, rfl, nofun⟩
  | succ n ih =>
    obtain ⟨v, -, checked, more⟩ := parseFields_cons_accepted h
    rw [binField_check] at checked
    obtain ⟨fits, ⟨⟩⟩ := Option.ite_none_right_eq_some.1 checked
    obtain ⟨bins, rfl, len, each⟩ := ih more
    refine ⟨_ :: bins, by rw [List.reverse_cons, List.append_assoc]; rfl, by rw [List.length_cons, len], fun j hj => ?_⟩
    cases j with
    | zero => exact ⟨rfl, fits⟩
    | succ j =>
      obtain ⟨value, fits⟩ := each j (Nat.lt_of_succ_lt_succ hj)
      refine ⟨?_, fits⟩
      rw [List.getD_cons_succ, value, fieldIn_drop, show binField.width + 5 * j = 5 * (j + 1) from by
        rw [show binField.width = 5 from rfl]; omega]

/-- The page number is the first byte. -/
theorem natBE_take_one (bytes : List Byte) : natBE (bytes.take 1) = (bytes.getD 0 0).toNat := by
  cases bytes <;> simp [natBE]

/-- An accepted page: its number, below 5, and its 16 bins (R184, R198). -/
theorem parsePage_accepted {payload : List Byte} {values : List Nat}
    (h : parseFields tablePageFields 1 [] payload = .accepted values) :
    ∃ page bins, values = page :: bins ∧ page = (payload.getD 0 0).toNat ∧ page < 5 ∧ bins.length = 16 ∧
      ∀ i, i < 16 → bins.getD i 0 = fieldIn payload (1 + 5 * i) 5 ∧ BinFits (bins.getD i 0) := by
  obtain ⟨page, -, checked, more⟩ := parseFields_cons_accepted h
  rw [pageField_check] at checked
  obtain ⟨below, ⟨⟩⟩ := Option.ite_none_right_eq_some.1 checked
  obtain ⟨bins, rfl, len, each⟩ := parseBins_accepted more
  refine ⟨_, bins, rfl, natBE_take_one payload, below, len, fun i hi => ?_⟩
  obtain ⟨value, fits⟩ := each i hi
  exact ⟨value.trans (fieldIn_drop payload 1 (5 * i) 5), fits⟩

/-- The fields after the page number are the 16 bins'. -/
theorem tablePageFields_bin {i : Nat} (h : 2 ≤ i) (h' : i ≤ 17) (other : FieldSpec) :
    tablePageFields.getD (i - 1) other = binField := by
  obtain ⟨j, rfl⟩ := Nat.exists_eq_add_of_le' h
  show (List.replicate 16 binField).getD j other = binField
  exact List.getD_replicate _ (by omega)

/-! ## The bins of a page in their places (R159, R184) -/

theorem loadBins_getElem (table : Vector TempBin 80) (a : Nat) (bins : List Nat) {j : Nat} (hj : j < 80) :
    (loadBins table a bins)[j] = if a ≤ j ∧ j < a + bins.length then binOfValue (bins.getD (j - a) 0) else table[j] := by
  induction bins generalizing table a with
  | nil => exact (if_neg (by simp)).symm
  | cons v vs ih =>
    rw [loadBins, ih, Vector.getElem_setIfInBounds, List.length_cons]
    by_cases first : a = j
    · subst first
      rw [if_neg (by omega), if_pos rfl, if_pos ⟨Nat.le_refl a, by omega⟩, Nat.sub_self]
      rfl
    · rw [if_neg first]
      by_cases inside : a + 1 ≤ j ∧ j < a + 1 + vs.length
      · rw [if_pos inside, if_pos (by omega), show j - a = (j - (a + 1)) + 1 by omega, List.getD_cons_succ]
      · rw [if_neg inside, if_neg (by omega)]

/-! ## The statement -/

/-- Settles O50: the commands by `configuration_taken`, the fields of a page by `parsePage_accepted`, its bins in their
places by `loadBins_getElem`, and the echo by the laws of `bytesBE`. -/
theorem configurationIsTakenBeforeBegin : Obligations.ConfigurationIsTakenBeforeBegin := by
  refine ⟨configuration_taken, ⟨rfl, fun acc v => rfl, fun i low high acc v => ?_⟩, fun payload values h => ?_,
    fun table page bins hp hl i => ?_, fun f fields v values => ⟨rfl, rfl, bytesBE_length _ v, natBE_bytesBE _ v⟩⟩
  · exact congrArg (fun f : FieldSpec => f.check acc v) (tablePageFields_bin low high (anyField 0))
  · exact parsePage_accepted h
  · show (loadBins table (16 * page) bins)[i.val] = _
    rw [loadBins_getElem table _ _ i.isLt, hl]
    rfl

end Sys2Proof.Machine

/-! # The group offsets walk to their targets (R5, R18, R164) -/

namespace Sys2Proof.Machine

open Sys2Proof

theorem moved_eq (g : GroupOffset) :
    g.moved = { g with current := g.current + clampInt (-100) 100 (g.target - g.current) } := rfl

/-- A target more than 100 ns away draws the current value 100 ns nearer (R164). -/
theorem moved_far {g : GroupOffset} (h : 100 < (g.target - g.current).natAbs) :
    g.moved = { g with current := if g.current < g.target then g.current + 100 else g.current - 100 } := by
  have walk : g.current + clampInt (-100) 100 (g.target - g.current) =
      if g.current < g.target then g.current + 100 else g.current - 100 := by
    unfold clampInt
    split <;> omega
  rw [moved_eq, walk]

/-- A target within 100 ns is reached (R164). -/
theorem moved_near {g : GroupOffset} (h : (g.target - g.current).natAbs ≤ 100) :
    g.moved = { g with current := g.target } := by
  have walk : g.current + clampInt (-100) 100 (g.target - g.current) = g.target := by
    unfold clampInt
    omega
  rw [moved_eq, walk]

theorem moved_within (g : GroupOffset) : -100 ≤ g.moved.current - g.current ∧ g.moved.current - g.current ≤ 100 := by
  have walk : g.moved.current - g.current = clampInt (-100) 100 (g.target - g.current) := add_sub_cancel_left _ _
  rw [walk]
  exact clampInt_within 100 _ (by decide)

/-- Settles O7: the walk by its clamp, and the boundary by what the opening of an epoch makes of the timescale unit. -/
theorem groupOffsetsWalkToTheirTargets : Obligations.GroupOffsetsWalkToTheirTargets := by
  refine ⟨fun g => ⟨moved_far, moved_near⟩, moved_within, fun s step forward discarded => ?boundary,
    fun s => ⟨_, _, rfl, rfl, rfl, rfl, rfl, rfl⟩⟩
  case boundary =>
    rw [boundaryProper_ts]
    exact ⟨rfl, rfl, rfl, rfl⟩

end Sys2Proof.Machine

/-! # The output pins (R163, R174, R191) -/

namespace Sys2Proof.Machine

open Sys2Proof

theorem tvalid_high_iff (s : State) :
    s.tvalid = .high ↔ s.begun = true ∧ s.gen.timeValid = true ∧ s.gen.inForce = false := by
  simp [State.tvalid, and_assoc]

theorem attn_low_iff (s : State) : s.attn = .low ↔ s.port.queue ≠ [] := by
  simp [State.attn]

theorem restLevel_eq (set : GenSettings) : set.restLevel = if set.invalid = .high then .high else .low := by
  cases h : set.invalid <;> simp [GenSettings.restLevel, h]

theorem shows_iff (g : Generator) : g.shows = true ↔ ∃ p, g.pulse = some p ∧ p.shown = true := by
  cases h : g.pulse <;> simp [Generator.shows, h]

section GenLevel

variable {s : State} {i : Fin 4}

theorem genLevel_unbegun (h : s.begun = false) : s.genLevel i = .low := by
  simp [State.genLevel, h]

theorem genLevel_inhibited (hb : s.begun = true) (hf : s.gen.inForce = true) :
    s.genLevel i = (s.cfg.gens.get i).restLevel := by
  simp [State.genLevel, hb, hf]

theorem genLevel_disabled (hb : s.begun = true) (hf : s.gen.inForce = false)
    (hr : (s.gen.gens.get i).run = .disabled) : s.genLevel i = (s.cfg.gens.get i).idleLevel := by
  simp [State.genLevel, hb, hf, hr]

theorem genLevel_waiting (hb : s.begun = true) (hf : s.gen.inForce = false)
    (hr : (s.gen.gens.get i).run = .holding ∨ (s.gen.gens.get i).run = .skipping) :
    s.genLevel i = (s.cfg.gens.get i).restLevel := by
  obtain hr | hr := hr <;> simp [State.genLevel, hb, hf, hr]

theorem genLevel_running (hb : s.begun = true) (hf : s.gen.inForce = false)
    (hr : (s.gen.gens.get i).run = .running) :
    s.genLevel i = if (s.gen.gens.get i).shows then (s.cfg.gens.get i).activeLevel
      else (s.cfg.gens.get i).idleLevel := by
  simp [State.genLevel, hb, hf, hr]

end GenLevel

/-- Settles O48: TVALID and ATTN by their conditions, a generator pin line by line of the table of R163. -/
theorem outputPinsFollowTheState : Obligations.OutputPinsFollowTheState := by
  refine ⟨tvalid_high_iff, attn_low_iff, fun s i => ?_⟩
  intro set g idle active rest
  have rests : set.restLevel = rest := restLevel_eq set
  rw [← rests]
  refine ⟨genLevel_unbegun, genLevel_inhibited, genLevel_disabled, genLevel_waiting, fun hb hf hr => ?running⟩
  case running =>
    rw [genLevel_running hb hf hr]
    exact if_congr (shows_iff g) rfl rfl

end Sys2Proof.Machine

/-! # The grid, its search, and the pulses (R163, R166, R167, R173) -/

namespace Sys2Proof.Machine

open Sys2Proof

/-! ## The grid (R166) -/

theorem ceilDiv_le_iff (a k : Nat) {b : Nat} (h : 0 < b) : ceilDiv a b ≤ k ↔ a ≤ b * k := by
  rw [ceilDiv_eq a h, ← Nat.lt_succ_iff, Nat.div_lt_iff_lt_mul h, Nat.succ_mul, Nat.mul_comm b]
  omega

/-- A phase of the grid, O plus the group's offset modulo the period (R166). -/
def GenSettings.GridPhase (g : GenSettings) (offset q : Int) : Prop := (q - (g.offset + offset)) % g.periodNs = 0

section Grid

variable {g : GenSettings} {offset : Int}

theorem gridPhase_iff {q : Int} : g.GridPhase offset q ↔ g.periodNs ∣ q - g.firstGrid offset := by
  rw [GenSettings.GridPhase, GenSettings.firstGrid, Int.dvd_iff_emod_eq_zero, Int.sub_emod_emod]

variable (h : 1 ≤ g.period)
include h

theorem periodNs_pos : 0 < g.periodNs := by
  unfold GenSettings.periodNs
  omega

theorem firstGrid_range : 0 ≤ g.firstGrid offset ∧ g.firstGrid offset < g.periodNs :=
  ⟨Int.emod_nonneg _ (periodNs_pos h).ne', Int.emod_lt_of_pos _ (periodNs_pos h)⟩

/-- The phases of the grid at or after 0 are the first and those whole periods after it. -/
theorem gridPhase_from_zero {q : Int} (hq : 0 ≤ q) :
    g.GridPhase offset q ↔ ∃ k : Nat, q = g.firstGrid offset + g.periodNs * k := by
  rw [gridPhase_iff]
  constructor
  · rintro ⟨m, hm⟩
    obtain ⟨-, hi⟩ := firstGrid_range (offset := offset) h
    have count : 0 ≤ m := by
      by_contra negative
      have : g.periodNs * m ≤ g.periodNs * -1 := Int.mul_le_mul_of_nonneg_left (by omega) (periodNs_pos h).le
      omega
    exact ⟨m.toNat, by rw [Int.toNat_of_nonneg count]; omega⟩
  · rintro ⟨k, rfl⟩
    exact ⟨k, add_sub_cancel_left _ _⟩

theorem firstGrid_gridPhase : g.GridPhase offset (g.firstGrid offset) :=
  (gridPhase_from_zero h (firstGrid_range h).1).2 ⟨0, by simp⟩

theorem firstGrid_least {q : Int} (hq : 0 ≤ q) (grid : g.GridPhase offset q) : g.firstGrid offset ≤ q := by
  obtain ⟨k, rfl⟩ := (gridPhase_from_zero h hq).1 grid
  exact le_add_of_nonneg_right (mul_nonneg (periodNs_pos h).le (Int.natCast_nonneg k))

/-- So many periods after the first is not below `least`. -/
theorem periods_le_iff (least k : Nat) :
    ceilDiv ((least : Int) - g.firstGrid offset).toNat g.periodNs.toNat ≤ k ↔
      (least : Int) ≤ g.firstGrid offset + g.periodNs * k := by
  have positive := periodNs_pos h
  obtain ⟨p, hp⟩ := Int.eq_ofNat_of_zero_le positive.le
  rw [ceilDiv_le_iff _ _ (by omega), hp, Int.toNat_natCast, Int.toNat_le, Nat.cast_mul]
  omega

theorem firstGrid_le_gridFrom (least : Nat) : g.firstGrid offset ≤ g.gridFrom offset least :=
  le_add_of_nonneg_right (mul_nonneg (periodNs_pos h).le (Int.natCast_nonneg _))

theorem gridFrom_nonneg (least : Nat) : 0 ≤ g.gridFrom offset least :=
  (firstGrid_range h).1.trans (firstGrid_le_gridFrom h least)

theorem gridFrom_gridPhase (least : Nat) : g.GridPhase offset (g.gridFrom offset least) :=
  (gridPhase_from_zero h (gridFrom_nonneg h least)).2 ⟨_, rfl⟩

theorem le_gridFrom (least : Nat) : (least : Int) ≤ g.gridFrom offset least :=
  (periods_le_iff h least _).1 le_rfl

theorem gridFrom_least {least : Nat} {q : Int} (hq : 0 ≤ q) (grid : g.GridPhase offset q) (hl : (least : Int) ≤ q) :
    g.gridFrom offset least ≤ q := by
  obtain ⟨k, rfl⟩ := (gridPhase_from_zero h hq).1 grid
  have fewer := (periods_le_iff h least k).2 hl
  exact add_le_add_right (mul_le_mul_of_nonneg_left (by exact_mod_cast fewer) (periodNs_pos h).le) _

end Grid

/-! ## The search (R166) -/

/-- The first phase, in whole ns, that is still to be raised (R166). -/
def Timescale.leastAhead (t : Timescale) (taken : Bool) : Nat :=
  if taken then t.sitePhase / 16 + 1 else ceilDiv t.sitePhase 16

theorem leastAhead_le_iff (t : Timescale) (taken : Bool) (q : Int) : (t.leastAhead taken : Int) ≤ q ↔
    if taken then (t.sitePhase : Int) < 16 * q else (t.sitePhase : Int) ≤ 16 * q := by
  unfold Timescale.leastAhead ceilDiv
  cases taken <;> simp only [if_true, Bool.false_eq_true, if_false] <;> omega

section Search

variable {t : Timescale} {g : GenSettings} {taken : Bool}

/-- The first phase of the grid that is still to be raised (R166). -/
def Timescale.nextOnGrid (t : Timescale) (g : GenSettings) (taken : Bool) : Int :=
  g.gridFrom (t.groupOffset g.group).current (t.leastAhead taken)

theorem searchStart_eq : searchStart t g taken =
    if t.replay || decide (1000000000 ≤ t.nextOnGrid g taken)
    then ⟨g.firstGrid (t.groupOffset g.group).current, true⟩ else ⟨t.nextOnGrid g taken, false⟩ := rfl

theorem searchStart_here (h : ¬ (t.replay = true ∨ 1000000000 ≤ t.nextOnGrid g taken)) :
    searchStart t g taken = ⟨t.nextOnGrid g taken, false⟩ := by
  rw [searchStart_eq, if_neg (by simpa using h)]

theorem searchStart_later (h : t.replay = true ∨ 1000000000 ≤ t.nextOnGrid g taken) :
    searchStart t g taken = ⟨g.firstGrid (t.groupOffset g.group).current, true⟩ := by
  rw [searchStart_eq, if_pos (by simpa using h)]

end Search

/-- What the search finds (R166). -/
theorem searchStart_spec (t : Timescale) (g : GenSettings) (taken : Bool) (lo : 1 ≤ g.period)
    (hi : g.period ≤ 1000000) :
    let n := searchStart t g taken
    let onGrid : Int → Prop := g.GridPhase (t.groupOffset g.group).current
    let ahead : Int → Prop := fun q => (t.leastAhead taken : Int) ≤ q
    onGrid n.phase ∧ 0 ≤ n.phase ∧ n.phase < 1000000000 ∧
    (n.nextEpoch = false → t.replay = false ∧ ahead n.phase ∧ ∀ q, onGrid q → ahead q → 0 ≤ q → n.phase ≤ q) ∧
    (n.nextEpoch = true → (∀ q, onGrid q → 0 ≤ q → n.phase ≤ q) ∧
      (t.replay = true ∨ ∀ q, onGrid q → ahead q → 0 ≤ q → 1000000000 ≤ q)) := by
  intro n onGrid ahead
  have least : ∀ q, onGrid q → ahead q → 0 ≤ q → t.nextOnGrid g taken ≤ q :=
    fun q grid later hq => gridFrom_least lo hq grid later
  by_cases later : t.replay = true ∨ 1000000000 ≤ t.nextOnGrid g taken
  · have found : n = _ := searchStart_later later
    obtain ⟨low, high⟩ := firstGrid_range (offset := (t.groupOffset g.group).current) lo
    have whole : g.periodNs ≤ 1000000000 := by unfold GenSettings.periodNs; omega
    rw [found]
    exact ⟨firstGrid_gridPhase lo, low, high.trans_le whole, nofun, fun _ =>
      ⟨fun q grid hq => firstGrid_least lo hq grid,
        later.imp_right fun late q grid soon hq => late.trans (least q grid soon hq)⟩⟩
  · have found : n = _ := searchStart_here later
    obtain ⟨once, early⟩ := not_or.1 later
    rw [found]
    exact ⟨gridFrom_gridPhase lo _, gridFrom_nonneg lo _, Int.not_le.1 early,
      fun _ => ⟨Bool.eq_false_iff.2 once, le_gridFrom lo _, least⟩, nofun⟩

/-! ## Pulses (R163, R167, R173) -/

/-- Elapsed time runs a generator's pulse timer down, and leaves its next start (R167). -/
theorem runTo_gens_next (s : State) (p : Nat) (i : Fin 4) :
    ((s.runTo p).gen.gens.get i).next = (s.gen.gens.get i).next := by
  match i with
  | 0 | 1 | 2 | 3 => rfl

theorem toStart_running {s : State} {i : Fin 4} {n : NextStart} (hr : (s.gen.gens.get i).run = .running)
    (hn : (s.gen.gens.get i).next = some n) (here : n.nextEpoch = false) (once : s.ts.replay = false) :
    s.toStart i = some (ns n.phase.toNat - s.ts.sitePhase) := by
  simp [State.toStart, hr, hn, here, once]

theorem startPulse_some {s : State} {i : Fin 4} {n : NextStart} (h : (s.gen.gens.get i).next = some n) :
    s.startPulse i = { s with
      gen.gens := s.gen.gens.set i ((s.gen.gens.get i).start (s.cfg.gens.get i) s.gen.inForce n.phase) } := by
  simp [State.startPulse, h]

/-- A RUNNING generator reaches its next start (R167). -/
theorem exec_generatorStart_due {s : State} {i : Fin 4} {n : NextStart} (hr : (s.gen.gens.get i).run = .running)
    (hn : (s.gen.gens.get i).next = some n) (here : n.nextEpoch = false) (once : s.ts.replay = false)
    (due : s.dueWithin (ns n.phase.toNat - s.ts.sitePhase) = true) :
    let u := s.runTo (s.ts.sitePhase + (ns n.phase.toNat - s.ts.sitePhase))
    exec (.generatorStart i) s = .next { u with
      gen.gens := u.gen.gens.set i ((u.gen.gens.get i).start (s.cfg.gens.get i) s.gen.inForce n.phase) } := by
  intro u
  show Host.Outcome.next (s.atExpiry (s.toStart i) (State.startPulse i)) = _
  rw [toStart_running hr hn here once, atExpiry_due _ _ _ due, startPulse_some ((runTo_gens_next _ _ i).trans hn)]
  rfl

/-- A pulse has lasted the width (R167). -/
theorem exec_pulseEnd_due {s : State} {i : Fin 4} {p : Pulse} (hp : (s.gen.gens.get i).pulse = some p)
    (due : s.dueWithin p.remaining = true) :
    let u := s.runTo (s.ts.sitePhase + p.remaining)
    exec (.pulseEnd i) s = .next { u with gen.gens := u.gen.gens.set i { u.gen.gens.get i with pulse := none } } := by
  intro u
  show execPulseEnd i s = _
  rw [execPulseEnd, hp, Option.map_some, atExpiry_due _ _ _ due]

/-! ## The statement -/

/-- Settles O45: the search by `searchStart_spec`, the pulse by its start and its end. -/
theorem pulsesStartOnTheGridAndLastTheWidth : Obligations.PulsesStartOnTheGridAndLastTheWidth := by
  refine ⟨fun t g taken lo hi => ?search, fun s i n hr hn here once due => exec_generatorStart_due hr hn here once due,
    fun s i p hp due => exec_pulseEnd_due hp due⟩
  case search =>
    intro n offset onGrid ahead
    have still : ahead = fun q => (t.leastAhead taken : Int) ≤ q :=
      funext fun q => propext (leastAhead_le_iff t taken q).symm
    rw [still]
    exact searchStart_spec t g taken lo hi

end Sys2Proof.Machine

/-! # INHIBIT, its filter, and the inhibit state (R171 to R173, R188) -/

namespace Sys2Proof.Machine

open Sys2Proof

/-! ## The pin (R171) -/

/-- The pin's change with the clock running: the level is synchronised at once. -/
theorem exec_inhibitPinChange {s : State} (h : s.pins.oscRunning = true) (dt : Nat) (level : Bool) :
    exec (.inhibitPinChange dt level) s =
      .next ({ s.advance dt with pins.inhibitPin := level }.inhibitTaken level) := by
  show execInhibitPinChange dt level s = _
  rw [execInhibitPinChange_eq, if_pos h]

/-- What a change of the pin makes of the part, by the level it stood at and by BEGIN (R171). -/
theorem inhibitPinChange_spec (s : State) (dt : Nat) (level : Bool) (h : s.pins.oscRunning = true) :
    let u : State := { s.advance dt with pins.inhibitPin := level }
    (s.pins.inhibit = level → exec (.inhibitPinChange dt level) s = .next u) ∧
    (s.pins.inhibit ≠ level → s.begun = false →
      exec (.inhibitPinChange dt level) s = .next { u with pins.inhibit := level }) ∧
    (s.pins.inhibit ≠ level → s.begun = true →
      exec (.inhibitPinChange dt level) s = .next { u with
        pins.inhibit := level
        gen.filterTimer := if level = s.gen.filtered then none else some 0 }) := by
  intro u
  have pin : u.pins.inhibit = s.pins.inhibit :=
    (congrArg Pins.inhibit (advance_pins s dt) : (s.advance dt).pins.inhibit = _)
  have begun : u.begun = s.begun := advance_begun s dt
  have filtered : u.gen.filtered = s.gen.filtered := advance_gen_filtered s dt
  rw [exec_inhibitPinChange h, ← pin, ← begun, ← filtered]
  refine ⟨fun same => ?_, fun other hb => ?_, fun other hb => ?_⟩
  · rw [inhibitTaken_same u _ same]
  · rw [inhibitTaken_other u _ other, if_pos hb]
  · rw [inhibitTaken_other u _ other, if_neg (by simp [hb])]

/-! ## The filtered level (R171) -/

/-- The filtered level of the pin, once the filter time has passed. -/
def State.filteredAt (level : Bool) (s : State) : State :=
  { s with gen := { s.gen with filtered := level, filterTimer := none } }

section Filtered

variable {s : State}

theorem filteredBecomes_eq (level : Bool) : s.filteredBecomes level =
    if level then (if s.gen.inForce then s.filteredAt true else (s.filteredAt true).inhibitBegins)
    else if s.gen.inForce && decide (s.cfg.inhibitMode = .follow) then (s.filteredAt false).inhibitEnds
    else s.filteredAt false := by
  cases level <;> rfl

/-- A filtered level asserted brings inhibit into force (R171). -/
theorem filteredBecomes_begins (h : s.gen.inForce = false) :
    s.filteredBecomes true = (s.filteredAt true).inhibitBegins := by
  simp [filteredBecomes_eq, h]

/-- A filtered level deasserted ends inhibit in FOLLOW mode (R171). -/
theorem filteredBecomes_ends (h : s.gen.inForce = true) (follow : s.cfg.inhibitMode = .follow) :
    s.filteredBecomes false = (s.filteredAt false).inhibitEnds := by
  simp [filteredBecomes_eq, h, follow]

/-- A level that accords with the inhibit state moves nothing more, nor does any while inhibit is latched (R171). -/
theorem filteredBecomes_stays {level : Bool}
    (h : level = s.gen.inForce ∨ (s.gen.inForce = true ∧ s.cfg.inhibitMode = .latched)) :
    s.filteredBecomes level = s.filteredAt level := by
  rw [filteredBecomes_eq]
  cases level with
  | true =>
    have force : s.gen.inForce = true := h.elim Eq.symm And.left
    simp [force]
  | false =>
    obtain clear | ⟨force, latched⟩ := h
    · simp [← clear]
    · simp [force, latched]

/-! ## The inhibit state and its event (R171, R189) -/

theorem inhibitBegins_settle (h : s.port.outbox = []) : s.inhibitBegins.settle =
    { s with gen := { s.gen.hidePulses with inForce := true } }.stored .inhibit none (some 1) :=
  settle_post { s with gen := { s.gen.hidePulses with inForce := true } } _ _ _ _ h

theorem inhibitEnds_settle (h : s.port.outbox = []) :
    s.inhibitEnds.settle = { s with gen.inForce := false }.stored .inhibit none (some 0) :=
  settle_post { s with gen.inForce := false } _ _ _ _ h

/-- The pin has held a new level for 1,000 ns (R171). -/
theorem exec_filteredLevelChange_due {n : Nat} (timer : s.gen.filterTimer = some n)
    (due : s.dueWithin (ns 1000 - n) = true) :
    exec .filteredLevelChange s =
      .next ((s.runTo (s.ts.sitePhase + (ns 1000 - n))).filteredBecomes s.pins.inhibit).settle := by
  show execFilteredLevelChange s = _
  rw [execFilteredLevelChange, timer, toLimit, Option.map_some, atExpiry_due _ _ _ due, runTo_pins]

/-- What the change of the filtered level makes of the inhibit state (R171, R173). -/
theorem filteredLevelChange_spec {n : Nat} (timer : s.gen.filterTimer = some n)
    (due : s.dueWithin (ns 1000 - n) = true) (empty : s.port.outbox = []) :
    let u := s.runTo (s.ts.sitePhase + (ns 1000 - n))
    let v : State := { u with gen := { u.gen with filtered := s.pins.inhibit, filterTimer := none } }
    (s.pins.inhibit = true → s.gen.inForce = false → exec .filteredLevelChange s = .next
      ({ v with gen := { v.gen.hidePulses with inForce := true } }.stored .inhibit none (some 1))) ∧
    (s.pins.inhibit = false → s.gen.inForce = true → s.cfg.inhibitMode = .follow →
      exec .filteredLevelChange s = .next ({ v with gen.inForce := false }.stored .inhibit none (some 0))) ∧
    (s.pins.inhibit = s.gen.inForce ∨ (s.gen.inForce = true ∧ s.cfg.inhibitMode = .latched) →
      exec .filteredLevelChange s = .next v) := by
  intro u v
  have waits : v.port.outbox = [] := empty
  have filtered : v = u.filteredAt s.pins.inhibit := rfl
  rw [exec_filteredLevelChange_due timer due, filtered]
  rw [filtered] at waits
  refine ⟨fun level clear => ?_, fun level force follow => ?_, fun stays => ?_⟩
  · rw [level] at waits ⊢
    rw [filteredBecomes_begins (s := u) clear, inhibitBegins_settle waits]
  · rw [level] at waits ⊢
    rw [filteredBecomes_ends (s := u) force follow, inhibitEnds_settle waits]
  · rw [filteredBecomes_stays (s := u) stays, settle_nil _ waits]

end Filtered

/-! ## CLEAR INHIBIT (R172, R188) -/

theorem exec_clearInhibit {s : State} {x : Slot} (ht : s.port.transaction = some x) (dt : Nat) :
    exec (.clearInhibit dt) s =
      .next (State.clearInhibit { s.advance dt with port.transaction := none, port.sdo := none }).settle := by
  show Host.Outcome.next (s.atRise dt State.clearInhibit).settle = _
  rw [atRise_some _ _ _ x ht]

/-- Inhibit is latched with the pin deasserted: CLEAR INHIBIT may end it (R172). -/
def State.ClearsInhibit (s : State) : Prop :=
  s.begun = true ∧ s.gen.inForce = true ∧ s.cfg.inhibitMode = .latched ∧ s.gen.filtered = false

section Cleared

variable {s : State} (empty : s.port.outbox = [])
include empty

theorem clearInhibit_taken (h : s.ClearsInhibit) : s.clearInhibit.settle =
    { s with gen.inForce := false, port.slot := .pending ⟨0x0B, .ok, 0, []⟩ }.stored .inhibit none (some 0) := by
  rw [show s.clearInhibit = s.inhibitEnds.accept 0x0B [] from if_pos h]
  exact settle_post { s with gen.inForce := false, port.slot := .pending ⟨0x0B, .ok, 0, []⟩ } _ _ _ _ empty

theorem clearInhibit_refused (h : ¬ s.ClearsInhibit) :
    s.clearInhibit.settle = { s with port.slot := .pending ⟨0x0B, .refusedState, 0, []⟩ } := by
  rw [show s.clearInhibit = s.refuseState 0x0B from if_neg h]
  exact settle_nil _ empty

end Cleared

/-- CLEAR INHIBIT taken or refused, in a transaction (R172, R188). -/
theorem clearInhibit_spec (s : State) (dt : Nat) (x : Slot) (ht : s.port.transaction = some x)
    (empty : s.port.outbox = []) :
    let u : State := { s.advance dt with port.transaction := none, port.sdo := none }
    (s.ClearsInhibit → exec (.clearInhibit dt) s = .next
      ({ u with gen.inForce := false, port.slot := .pending ⟨0x0B, .ok, 0, []⟩ }.stored .inhibit none (some 0))) ∧
    (¬ s.ClearsInhibit → exec (.clearInhibit dt) s = .next { u with
      port.slot := .pending ⟨0x0B, .refusedState, 0, []⟩ }) := by
  intro u
  have waits : u.port.outbox = [] :=
    (congrArg Port.outbox (advance_port s dt) : (s.advance dt).port.outbox = _).trans empty
  have clears : u.ClearsInhibit ↔ s.ClearsInhibit := by
    show (s.advance dt).begun = true ∧ (s.advance dt).gen.inForce = true ∧
      (s.advance dt).cfg.inhibitMode = .latched ∧ (s.advance dt).gen.filtered = false ↔ _
    rw [advance_begun, advance_gen_inForce, advance_cfg, advance_gen_filtered, State.ClearsInhibit]
  rw [exec_clearInhibit ht, ← clears]
  exact ⟨fun h => congrArg _ (clearInhibit_taken waits h), fun h => congrArg _ (clearInhibit_refused waits h)⟩

/-! ## The statement -/

/-- Settles O47: the pin, the filtered level and CLEAR INHIBIT by their rules, and the pulses cut by
`hidePulses_shows`. -/
theorem inhibitFollowsTheFilteredPin : Obligations.InhibitFollowsTheFilteredPin :=
  ⟨inhibitPinChange_spec, fun _ _ timer due empty => filteredLevelChange_spec timer due empty, clearInhibit_spec,
    hidePulses_shows⟩

end Sys2Proof.Machine

/-! # The event queue keeps its form at every command (R189, R190) -/

namespace Sys2Proof.Machine

open Sys2Proof

/-! ## The form of the queue -/

/-- The stored records and the next sequence number accord (R189). -/
def Numbered (queue : List EventRecord) (next : BitVec 16) : Prop :=
  queue.length ≤ 32 ∧ consecutive queue ∧ ∀ r, queue.getLast? = some r → next = r.seq + 1

theorem queueForm_iff (s : State) : QueueForm s ↔ Numbered s.port.queue s.port.nextSeq ∧ s.port.outbox = [] := by
  unfold QueueForm Numbered
  tauto

theorem consecutive_iff_isChain (q : List EventRecord) : consecutive q ↔ q.IsChain fun a b => b.seq = a.seq + 1 := by
  induction q with
  | nil => simp [consecutive]
  | cons a q ih =>
    cases q with
    | nil => simp [consecutive]
    | cons b q => rw [consecutive, ih, List.isChain_cons_cons]

theorem numbered_nil (next : BitVec 16) : Numbered [] next := ⟨Nat.zero_le _, trivial, nofun⟩

namespace Numbered

variable {q : List EventRecord} {next : BitVec 16} (h : Numbered q next)
include h

/-- A record stored with the next number continues the row (R189). -/
theorem store (room : q.length < 32) {r : EventRecord} (hr : r.seq = next) : Numbered (q ++ [r]) (next + 1) := by
  obtain ⟨-, row, last⟩ := h
  refine ⟨by simpa using Nat.succ_le_of_lt room, ?_, fun x hx => ?_⟩
  · rw [consecutive_iff_isChain] at row ⊢
    refine List.isChain_append.2 ⟨row, List.isChain_singleton r, fun x hx y hy => ?_⟩
    obtain rfl : r = y := by simpa using hy
    rw [hr, last x hx]
  · obtain rfl : r = x := by simpa using hx
    rw [hr]

/-- The records left when the oldest are removed (R190). -/
theorem drop (n : Nat) : Numbered (q.drop n) next := by
  obtain ⟨len, row, last⟩ := h
  refine ⟨(List.drop_sublist n q).length_le.trans len, ?_, fun x hx => last x ?_⟩
  · rw [consecutive_iff_isChain] at row ⊢
    exact row.drop n
  · rw [List.getLast?_drop] at hx
    split at hx
    · cases hx
    · exact hx

end Numbered

/-- An event offered is stored with the next number, or lost (R189, R190). -/
theorem offer_numbered {s : State} (p : Posting) (h : Numbered s.port.queue s.port.nextSeq) :
    Numbered (s.offer p).port.queue (s.offer p).port.nextSeq := by
  by_cases room : s.port.queue.length < 32
  · rw [offer_stores s p room]
    exact h.store room rfl
  · rw [offer_loses s p room]
    exact h

theorem settleLoop_numbered (n : Nat) {s : State} (h : Numbered s.port.queue s.port.nextSeq) :
    Numbered (settleLoop n s).port.queue (settleLoop n s).port.nextSeq := by
  induction n generalizing s with
  | zero => exact h
  | succ n ih =>
    cases ho : s.port.outbox with
    | nil => rw [settleLoop, ho]; exact h
    | cons p ps =>
      rw [settleLoop_cons n s p ps ho]
      exact ih (offer_numbered _ (by simpa using h))

/-- The end of a step brings the form about: every event posted has been offered (R189). -/
theorem settle_queueForm {s : State} (h : Numbered s.port.queue s.port.nextSeq) : QueueForm s.settle :=
  (queueForm_iff _).2 ⟨settleLoop_numbered _ h, settle_outbox s⟩

/-! ## What the blocks leave alone

A block posts events and writes neither the stored records, nor the next sequence number, nor the commands that wait. -/

/-- The stored records, the next sequence number, and the commands that wait. -/
def State.queued (s : State) : List EventRecord × BitVec 16 × List Instr :=
  (s.port.queue, s.port.nextSeq, s.pending)

/-- The same, and the events posted within the step. -/
def State.posted (s : State) : List Posting × List EventRecord × BitVec 16 × List Instr :=
  (s.port.outbox, s.queued)

theorem queued_of_posted {s t : State} (h : t.posted = s.posted) : t.queued = s.queued := congrArg Prod.snd h

theorem posted_of_port {s t : State} (port : t.port = s.port) (pending : t.pending = s.pending) :
    t.posted = s.posted := by
  simp only [State.posted, State.queued, port, pending]

theorem queueForm_congr {s t : State} (h : t.posted = s.posted) : QueueForm t ↔ QueueForm s := by
  obtain ⟨outbox, queue, next, -⟩ :
      t.port.outbox = s.port.outbox ∧ t.port.queue = s.port.queue ∧ t.port.nextSeq = s.port.nextSeq ∧
        t.pending = s.pending := by
    simpa [State.posted, State.queued] using h
  rw [queueForm_iff, queueForm_iff, outbox, queue, next]

@[simp] theorem advance_posted (s : State) (d : Nat) : (s.advance d).posted = s.posted :=
  posted_of_port (advance_port s d) (advance_pending s d)

@[simp] theorem advance_queued (s : State) (d : Nat) : (s.advance d).queued = s.queued :=
  queued_of_posted (advance_posted s d)

/-! The MARK line -/

@[simp] theorem markFalls_posted (s : State) : s.markFalls.posted = s.posted := by
  unfold State.markFalls; dsimp only; split <;> rfl

@[simp] theorem slotTime_posted (s : State) (k : NodeId) : (s.slotTime k).posted = s.posted := by
  unfold State.slotTime State.assertMark; dsimp only; repeat' split
  case h_1 => exact markFalls_posted _
  all_goals rfl

@[simp] theorem report_queued (s : State) (c : Cause) : (s.report c).queued = s.queued := by
  simp [State.queued]

@[simp] theorem strayEdge_queued (s : State) (p : Nat) : (s.strayEdge p).queued = s.queued := by
  unfold State.strayEdge; dsimp only; split <;> rfl

@[simp] theorem acceptMark_queued (s : State) (c : MarkCandidate) : (s.acceptMark c).queued = s.queued :=
  acceptMark_of (P := fun t => t.queued = s.queued) c rfl rfl rfl (fun _ _ => rfl) (fun _ => rfl)
    fun _ => strayEdge_queued _ _

@[simp] theorem acceptHeld_queued (s : State) : s.acceptHeld.queued = s.queued := by
  unfold State.acceptHeld; split <;> simp

@[simp] theorem candidateAtRise_queued (s : State) : s.candidateAtRise.queued = s.queued := by
  unfold State.candidateAtRise; repeat' split
  · exact acceptMark_queued s _
  all_goals rfl

theorem choose_queued {α : Type} (a : α) (as : List α) (s : State) : (s.choose a as).2.queued = s.queued := by
  simp [State.queued]

@[simp] theorem confirmEvidence_queued (s : State) : s.confirmEvidence.queued = s.queued := by
  unfold State.confirmEvidence
  split
  case h_1 => rfl
  case h_2 c cs _ =>
    split
    · rfl
    · exact (report_queued _ _).trans (choose_queued c cs s)

@[simp] theorem markRises_queued (s : State) : s.markRises.queued = s.queued := by
  unfold State.markRises
  dsimp only
  split
  · exact (confirmEvidence_queued _).trans (candidateAtRise_queued s)
  · exact candidateAtRise_queued s

@[simp] theorem markStuck_queued (s : State) : s.markStuck.queued = s.queued := by
  unfold State.markStuck; dsimp only; repeat' split
  all_goals rfl

/-! The WORD line -/

@[simp] theorem tryStart_posted (s : State) : s.tryStart.posted = s.posted :=
  posted_of_port (by simp) (by simp)

@[simp] theorem wordFalls_posted (s : State) : s.wordFalls.posted = s.posted :=
  posted_of_port (by simp) (by simp)

@[simp] theorem startFrame_posted (s : State) (w : InFlight) (f : Frame) : (s.startFrame w f).posted = s.posted :=
  posted_of_port (by simp) (by simp)

@[simp] theorem wordFallSeen_posted (s : State) : s.wordFallSeen.posted = s.posted := by
  unfold State.wordFallSeen; dsimp only; repeat' split
  all_goals simp

@[simp] theorem bitEnds_posted (s : State) : s.bitEnds.posted = s.posted := by
  have pulled (u : State) : u.pullWord.posted = u.posted := posted_of_port (by simp) (by simp)
  unfold State.bitEnds State.driveBit; dsimp only; repeat' split
  case h_2.isFalse.isFalse | h_3.isFalse.isFalse => exact pulled _
  all_goals rfl

@[simp] theorem lineIdle_posted (s : State) : s.lineIdle.posted = s.posted := by
  unfold State.lineIdle; repeat' split
  case h_2 | h_3 | h_4 => exact tryStart_posted _
  all_goals rfl

@[simp] theorem dropInFlight_posted (s : State) : s.dropInFlight.posted = s.posted := by
  unfold State.dropInFlight; split <;> rfl

@[simp] theorem openTalk_posted (s : State) : s.openTalk.posted = s.posted := by
  unfold State.openTalk
  refine (tryStart_posted _).trans ?_
  dsimp only
  split <;> rfl

@[simp] theorem wordRecovered_posted (s : State) : s.wordRecovered.posted = s.posted := tryStart_posted _

@[simp] theorem wordRises_queued (s : State) : s.wordRises.queued = s.queued := by
  unfold State.wordRises
  dsimp only
  split
  · exact report_queued _ _
  · rfl

@[simp] theorem dropUnsent_queued (s : State) (f : Frame) : (s.dropUnsent f).queued = s.queued := by
  simp [State.queued]

@[simp] theorem closeTalk_queued (s : State) : s.closeTalk.queued = s.queued := by
  unfold State.closeTalk; dsimp only; repeat' split
  case h_1.isFalse => exact dropUnsent_queued _ _
  all_goals rfl

@[simp] theorem returnTalk_queued (s : State) : s.returnTalk.queued = s.queued := by
  unfold State.returnTalk; dsimp only; repeat' split
  case h_2.isFalse.isTrue => exact dropUnsent_queued _ _
  all_goals rfl

@[simp] theorem wordStuck_queued (s : State) : s.wordStuck.queued = s.queued := by
  unfold State.wordStuck
  dsimp only
  split
  · rfl
  · exact returnTalk_queued _

@[simp] theorem frameFault_queued (s : State) (k : ErrorKind) (j : Option NodeId) :
    (s.frameFault k j).queued = s.queued := by
  simp [State.queued]

/-! The membership unit -/

@[simp] theorem reportOwnId_queued (s : State) : s.reportOwnId.queued = s.queued := by
  simp [State.queued]

@[simp] theorem changeState_queued (s : State) (n : MembershipState) : (s.changeState n).queued = s.queued := by
  simp [State.queued]

@[simp] theorem enterListen_queued (s : State) : s.enterListen.queued = s.queued := changeState_queued _ _

@[simp] theorem enterAligning_queued (s : State) : s.enterAligning.queued = s.queued := changeState_queued _ _

@[simp] theorem enterWithdrawn_queued (s : State) (r : LeaveReason) : (s.enterWithdrawn r).queued = s.queued := by
  simp [State.queued]

@[simp] theorem reasonsChecked_queued (s : State) : s.reasonsChecked.queued = s.queued := by
  unfold State.reasonsChecked; split <;> simp

@[simp] theorem supplyFell_queued (s : State) : s.supplyFell.queued = s.queued := by
  unfold State.supplyFell
  dsimp only
  split
  case h_6 | h_7 | h_8 => rfl
  all_goals exact enterWithdrawn_queued _ _

@[simp] theorem supplyRose_queued (s : State) : s.supplyRose.queued = s.queued := reasonsChecked_queued _

@[simp] theorem adoptEnsemble_queued (s : State) : s.adoptEnsemble.queued = s.queued := by
  obtain ⟨adopt, out, adopted⟩ := adoptEnsemble_shape s
  rw [adopted]
  rfl

@[simp] theorem freeRequest_queued (s : State) : s.freeRequest.queued = s.queued := by
  simp [State.queued]

@[simp] theorem requestStep_queued (s : State) (x : Int) : (s.requestStep x).queued = s.queued := by
  unfold State.requestStep; split <;> rfl

@[simp] theorem decideAlignment_queued (s : State) (delta : Int) : (s.decideAlignment delta).queued = s.queued := by
  unfold State.decideAlignment; repeat' split
  case isFalse.isTrue.isTrue => exact changeState_queued _ _
  all_goals simp

@[simp] theorem listenDelivery_queued (s : State) (f : Frame) : (s.listenDelivery f).queued = s.queued := by
  unfold State.listenDelivery
  dsimp only
  split
  · exact decideAlignment_queued _ _
  · rfl

@[simp] theorem memberDelivery_queued (s : State) (f : Frame) : (s.memberDelivery f).queued = s.queued := by
  unfold State.memberDelivery
  split
  case h_1 | h_2 => exact listenDelivery_queued s f
  all_goals rfl

@[simp] theorem memberLeave_queued (s : State) : s.memberLeave.queued = s.queued := by
  rw [memberLeave_eq]
  rfl

/-! The roster and the frames that arrive -/

@[simp] theorem noteDifference_queued (s : State) (k : NodeId) (e : Epoch) (t : TimingState) :
    (s.noteDifference k e t).queued = s.queued := by
  unfold State.noteDifference; split <;> rfl

@[simp] theorem offerEntry_queued (s : State) (f : Frame) : (s.offerEntry f).queued = s.queued := by
  unfold State.offerEntry; dsimp only; repeat' split
  all_goals rfl

@[simp] theorem noteFrame_queued (s : State) (f : Frame) : (s.noteFrame f).queued = s.queued := by
  cases f with
  | census => exact noteDifference_queued _ _ _ _
  | join | leave => rfl

@[simp] theorem rosterTakes_queued (s : State) (f : Frame) : (s.rosterTakes f).queued = s.queued := by
  unfold State.rosterTakes
  dsimp only
  split
  · exact noteFrame_queued _ f
  · exact (noteFrame_queued _ f).trans (offerEntry_queued s f)

@[simp] theorem rosterLeave_queued (s : State) (k : NodeId) (r : LeaveReason) :
    (s.rosterLeave k r).queued = s.queued := by
  unfold State.rosterLeave; split <;> rfl

@[simp] theorem rosterNotice_queued (s : State) (k : NodeId) (e : Epoch) (t : TimingState) :
    (s.rosterNotice k e t).queued = s.queued := by
  unfold State.rosterNotice; dsimp only; split <;> exact noteDifference_queued _ _ _ _

@[simp] theorem deliver_queued (s : State) (f : Frame) : (s.deliver f).queued = s.queued :=
  (memberDelivery_queued _ f).trans (rosterTakes_queued s f)

@[simp] theorem censusArrives_queued (s : State) (f : Frame) : (s.censusArrives f).queued = s.queued := by
  unfold State.censusArrives; repeat' split
  all_goals simp

@[simp] theorem joinArrives_queued (s : State) (f : Frame) : (s.joinArrives f).queued = s.queued := by
  unfold State.joinArrives; split <;> simp

@[simp] theorem leaveArrives_queued (s : State) (f : Frame) : (s.leaveArrives f).queued = s.queued := by
  unfold State.leaveArrives; repeat' split
  all_goals simp

/-! The generators and the die samples -/

@[simp] theorem startPulse_posted (s : State) (i : Fin 4) : (s.startPulse i).posted = s.posted := by
  unfold State.startPulse; split <;> rfl

@[simp] theorem inhibitTaken_posted (s : State) (a : Bool) : (s.inhibitTaken a).posted = s.posted := by
  unfold State.inhibitTaken; dsimp only; repeat' split
  all_goals rfl

@[simp] theorem filteredBecomes_queued (s : State) (l : Bool) : (s.filteredBecomes l).queued = s.queued := by
  unfold State.filteredBecomes; dsimp only; repeat' split
  all_goals rfl

@[simp] theorem takeSample_queued (s : State) (die : Int) : (s.takeSample die).queued = s.queued := by
  unfold State.takeSample State.judgeRange; dsimp only; repeat' split
  all_goals rfl

/-! The reference qualifier -/

@[simp] theorem acceptEdge_queued (s : State) (c : RefCandidate) : (s.acceptEdge c).queued = s.queued := by
  simp [State.queued]

@[simp] theorem candidateAccepted_queued (s : State) : s.candidateAccepted.queued = s.queued := by
  unfold State.candidateAccepted; split <;> simp

@[simp] theorem loseRef_queued (s : State) (c : LossCause) : (s.loseRef c).queued = s.queued := by
  simp [State.queued]

@[simp] theorem selectedTransition_queued (s : State) : s.selectedTransition.queued = s.queued := by
  unfold State.selectedTransition; dsimp only; repeat' split
  case isFalse.isTrue => exact acceptEdge_queued s _
  all_goals rfl

@[simp] theorem refinTaken_queued (s : State) (l : Level) : (s.refinTaken l).queued = s.queued := by
  unfold State.refinTaken; dsimp only; repeat' split
  case isFalse.isFalse.isTrue => exact selectedTransition_queued _
  all_goals rfl

@[simp] theorem refvalidTaken_queued (s : State) (a : Bool) : (s.refvalidTaken a).queued = s.queued := by
  unfold State.refvalidTaken State.refvalidLost; dsimp only; repeat' split
  case isFalse.isTrue.isFalse => exact loseRef_queued _ _
  all_goals rfl

@[simp] theorem referenceTaken_queued (s : State) : s.referenceTaken.queued = s.queued := by
  unfold State.referenceTaken; dsimp only; repeat' split
  all_goals simp [choose_queued]

/-! The solve -/

section Solve

variable (s : State) (v : SolveView) (p : PhaseError)

@[simp] theorem enter_queued (l : Option Lane) (t : TimingState) (g : Option Target) (w : Growth) (b : Option Nat) :
    (s.enter l t g w b).queued = s.queued := by
  simp [State.queued]

@[simp] theorem applySource_queued : (s.applySource v).queued = s.queued := by
  simp [State.queued, State.applySource]

@[simp] theorem solveOpens_queued : (s.solveOpens v).queued = s.queued := by
  rw [solveOpens_eq]
  rfl

@[simp] theorem judgeUndispute_queued : (s.judgeUndispute v).queued = s.queued := by
  unfold State.judgeUndispute State.countUndispute State.endDispute State.requestUndisputed
  dsimp only
  repeat' split
  all_goals rfl

@[simp] theorem judgeSplit_queued : (s.judgeSplit v).queued = s.queued := by
  unfold State.judgeSplit; repeat' split
  all_goals rfl

@[simp] theorem requestDisputed_queued : s.requestDisputed.queued = s.queued := by
  unfold State.requestDisputed; split <;> rfl

@[simp] theorem dispute_queued : (s.dispute v).queued = s.queued :=
  (applySource_queued _ v).trans (requestDisputed_queued _)

@[simp] theorem judgeDispute_queued : (s.judgeDispute v).queued = s.queued := by
  unfold State.judgeDispute; repeat' split
  case h_2.isFalse.isTrue => exact dispute_queued s v
  all_goals rfl

@[simp] theorem settleSource_queued : (s.settleSource v).queued = s.queued := by
  have sourced := (applySource_queued _ v).trans (judgeUndispute_queued s v)
  unfold State.settleSource State.judgeAnchors
  split
  · exact ((judgeDispute_queued _ v).trans (judgeSplit_queued _ v)).trans sourced
  · exact sourced

@[simp] theorem judgeSelf_queued : (s.judgeSelf p).queued = s.queued := by
  unfold State.judgeSelf; repeat' split
  all_goals rfl

@[simp] theorem judgeLock_queued (e : Int) : (s.judgeLock v e).queued = s.queued := by
  unfold State.judgeLock State.lock; dsimp only; repeat' split
  case h_1 => exact enter_queued _ _ _ _ _ _
  all_goals rfl

@[simp] theorem correctF_queued (e : Int) : (s.correctF e).queued = s.queued := by
  unfold State.correctF; dsimp only; split <;> rfl

@[simp] theorem steer_queued : (s.steer v p).2.queued = s.queued := by
  unfold State.steer
  split
  next => dsimp only; split <;> rfl
  next e _ =>
    dsimp only
    split
    · exact requestStep_queued _ _
    · split
      · exact (judgeLock_queued _ v e).trans (correctF_queued _ e)
      · exact correctF_queued _ e

@[simp] theorem updateBound_queued : (s.updateBound v p).queued = s.queued := by
  have judged (u : State) : u.judgeBudget.refreshTimeValid.queued = u.queued := by simp [State.queued]
  unfold State.updateBound
  split
  · exact judged { s with solver := s.solver.grow }
  · obtain ⟨bound, set⟩ := setBound_shape s v p
    rw [set]
    rfl

@[simp] theorem handResults_queued (c : Int) (verdicts : NodeId → Verdict) :
    (s.handResults c verdicts).queued = s.queued := by
  obtain ⟨r, lastC, lastA, ps, adopt, completed⟩ := rosterComplete_shape (s.handed c) verdicts
  rw [handResults_shape, completed]
  rfl

@[simp] theorem solvePoint_queued : s.solvePoint.queued = s.queued := by
  have closed : s.closeInterval.2.rosterMarks.queued = s.queued := by
    show s.closeInterval.2.queued = _
    simp [State.queued]
  unfold State.solvePoint State.solve
  simp [closed]

end Solve

/-! The boundary -/

@[simp] theorem boundaryProper_queued (s : State) (step : Option Int) (forward : Option Nat) (discarded : Bool) :
    (s.boundaryProper step forward discarded).queued = s.queued := by
  rw [boundaryProper_eq]
  simp [State.queued, State.opened]

@[simp] theorem decideStep_queued (s : State) : s.decideStep.queued = s.queued := by
  unfold State.decideStep; repeat' split
  case h_2.isFalse.isFalse => rfl
  all_goals exact boundaryProper_queued _ _ _ _

@[simp] theorem endOfMark_queued (s : State) : s.endOfMark.queued = s.queued := by
  simp [State.queued]

/-! The local port; EVENTS alone moves the queue -/

@[simp] theorem setup_posted (s : State) (p : List Byte) : (s.setup p).posted = s.posted := by
  unfold State.setup; repeat' split
  all_goals rfl

@[simp] theorem loadPage_posted (s : State) (p : List Byte) : (s.loadPage p).posted = s.posted := by
  unfold State.loadPage; repeat' split
  all_goals rfl

@[simp] theorem readPage_posted (s : State) (p : List Byte) : (s.readPage p).posted = s.posted := by
  unfold State.readPage; split <;> rfl

@[simp] theorem trim_posted (s : State) (p : List Byte) : (s.trim p).posted = s.posted := by
  unfold State.trim; repeat' split
  all_goals rfl

@[simp] theorem begin_queued (s : State) : s.begin.queued = s.queued := by
  have lines : s.enterListen.beginLines.genBegin.queued = s.queued := by
    refine Eq.trans ?_ (enterListen_queued s)
    unfold State.genBegin
    dsimp only
    split <;> rfl
  unfold State.begin State.tempBegin
  split <;> exact lines

@[simp] theorem takeBegin_queued (s : State) : s.takeBegin.queued = s.queued := by
  unfold State.takeBegin
  split
  · rfl
  · exact begin_queued s

@[simp] theorem withdraw_queued (s : State) : s.withdraw.queued = s.queued := by
  unfold State.withdraw
  split
  case h_6 | h_7 | h_8 => rfl
  all_goals exact enterWithdrawn_queued _ _

@[simp] theorem resume_queued (s : State) : s.resume.queued = s.queued := by
  unfold State.resume
  split
  · exact reasonsChecked_queued _
  · rfl

@[simp] theorem clearInhibit_queued (s : State) : s.clearInhibit.queued = s.queued := by
  unfold State.clearInhibit; split <;> rfl

theorem takeEvents_pending (s : State) (p : List Byte) : (s.takeEvents p).pending = s.pending := by
  unfold State.takeEvents; split <;> rfl

theorem takeEvents_queueForm {s : State} (h : QueueForm s) (p : List Byte) : QueueForm (s.takeEvents p) := by
  unfold State.takeEvents
  split
  · exact h
  · obtain ⟨numbered, empty⟩ := (queueForm_iff s).1 h
    exact (queueForm_iff _).2 ⟨numbered.drop _, empty⟩

/-! ## The commands -/

/-- A command answers a next state: it leaves the commands that wait alone and keeps the form of the event queue. -/
def Answers (s : State) (r : Result) : Prop :=
  ∃ t, r = .next t ∧ t.pending = s.pending ∧ (QueueForm s → QueueForm t)

section Answers

variable {s t : State} {f : State → State}

/-- A command that posts nothing. -/
theorem answers_silent (h : t.posted = s.posted) : Answers s (.next t) := by
  have pending : t.pending = s.pending := congrArg (fun p => p.2.2.2) h
  exact ⟨t, rfl, pending, (queueForm_congr h).2⟩

/-- A command that may post, and offers what it has posted at its end (R189). -/
theorem answers_settled (h : t.queued = s.queued) : Answers s (.next t.settle) := by
  obtain ⟨queue, next, pending⟩ :
      t.port.queue = s.port.queue ∧ t.port.nextSeq = s.port.nextSeq ∧ t.pending = s.pending := by
    simpa [State.queued] using h
  refine ⟨t.settle, rfl, (settle_pending t).trans pending, fun form => settle_queueForm ?_⟩
  rw [queue, next]
  exact ((queueForm_iff s).1 form).1

/-! The work at an expiry, at a point, and at the rise of CSN -/

theorem answers_expiry (r : Option Nat) (hf : ∀ u, (f u).posted = u.posted) : Answers s (.next (s.atExpiry r f)) :=
  answers_silent (atExpiry_of (P := fun t => t.posted = s.posted) r rfl fun _ => hf _)

theorem answers_expiry_settled (r : Option Nat) (hf : ∀ u, (f u).queued = u.queued) :
    Answers s (.next (s.atExpiry r f).settle) :=
  answers_settled (atExpiry_of (P := fun t => t.queued = s.queued) r rfl fun _ => hf _)

theorem answers_point (p : PhasePoint) (hf : ∀ u, (f u).posted = u.posted) : Answers s (.next (s.atPoint p f)) :=
  answers_silent (atPoint_of (P := fun t => t.posted = s.posted) p rfl (hf _))

theorem answers_point_settled (p : PhasePoint) (hf : ∀ u, (f u).queued = u.queued) :
    Answers s (.next (s.atPoint p f).settle) :=
  answers_settled (atPoint_of (P := fun t => t.queued = s.queued) p rfl (hf _))

theorem answers_rise (d : Nat) (hf : ∀ u, (f u).posted = u.posted) : Answers s (.next (s.atRise d f)) :=
  answers_silent (atRise_of (P := fun t => t.posted = s.posted) d (advance_posted s d)
    ((hf _).trans (advance_posted s d)))

theorem answers_rise_settled (d : Nat) (hf : ∀ u, (f u).queued = u.queued) :
    Answers s (.next (s.atRise d f).settle) :=
  answers_settled (atRise_of (P := fun t => t.queued = s.queued) d (advance_queued s d)
    ((hf _).trans (advance_queued s d)))

end Answers

section Commands

variable (s : State)

/-- A reset empties the queue, and the commands that wait stand (R18, R194). -/
theorem held_answers (table : Vector TempBin 80) : Answers s (.next (s.held table)) :=
  ⟨_, rfl, rfl, fun _ => (queueForm_iff _).2 ⟨numbered_nil _, rfl⟩⟩

theorem execResetRelease_answers (straps : NodeId) : Answers s (execResetRelease straps s) := by
  unfold execResetRelease; split <;> exact answers_silent rfl

theorem execEndOfEpoch_answers : Answers s (execEndOfEpoch s) := by
  unfold execEndOfEpoch
  split
  · exact answers_settled (decideStep_queued _)
  · exact answers_silent rfl

theorem execReplayEnd_answers : Answers s (execReplayEnd s) := by
  unfold execReplayEnd
  split
  · exact answers_settled (boundaryProper_queued _ _ _ _)
  · exact answers_silent rfl

theorem execRefinTransition_answers (dt : Nat) (rising : Bool) : Answers s (execRefinTransition dt rising s) := by
  have advanced := advance_queued s dt
  rw [execRefinTransition_eq]
  refine answers_settled ?_
  split
  · exact (refinTaken_queued _ _).trans advanced
  · exact advanced

theorem refvalidPinBecomes_answers (dt : Nat) (a : Bool) : Answers s (.next (s.refvalidPinBecomes dt a).settle) := by
  have advanced := advance_queued s dt
  rw [refvalidPinBecomes_eq]
  refine answers_settled ?_
  split
  · exact (refvalidTaken_queued _ _).trans advanced
  · exact advanced

theorem execMarkFall_answers (dt : Nat) : Answers s (execMarkFall dt s) := by
  unfold execMarkFall; dsimp only; split <;> exact answers_silent (by simp)

theorem execMarkRise_answers (dt : Nat) : Answers s (execMarkRise dt s) := by
  have advanced := advance_posted s dt
  unfold execMarkRise
  dsimp only
  split
  · split
    · exact answers_settled (by simp)
    · exact answers_silent advanced
  · exact answers_silent advanced

theorem execWordFall_answers (dt : Nat) : Answers s (execWordFall dt s) := by
  unfold execWordFall; dsimp only; split <;> exact answers_silent (by simp)

theorem execWordRise_answers (dt : Nat) : Answers s (execWordRise dt s) := by
  have advanced := advance_posted s dt
  unfold execWordRise
  dsimp only
  split
  · split
    · exact answers_settled (by simp)
    · exact answers_silent advanced
  · exact answers_silent advanced

theorem execArbitrationLoss_answers : Answers s (execArbitrationLoss s) := by
  unfold execArbitrationLoss; split <;> exact answers_silent rfl

theorem execPayloadCollision_answers : Answers s (execPayloadCollision s) := by
  unfold execPayloadCollision
  split
  · exact answers_silent (dropInFlight_posted s)
  · exact answers_silent rfl

theorem execFrameSent_answers : Answers s (execFrameSent s) := by
  unfold execFrameSent; split <;> exact answers_silent rfl

theorem execFrameError_answers : Answers s (execFrameError s) := by
  unfold execFrameError
  split
  case h_1 | h_2 => exact answers_settled (frameFault_queued _ _ _)
  case h_3 | h_4 => exact answers_silent rfl

theorem execCensusReceived_answers : Answers s (execCensusReceived s) := by
  unfold execCensusReceived
  split
  · exact answers_settled (censusArrives_queued _ _)
  · exact answers_silent rfl

theorem execJoinReceived_answers : Answers s (execJoinReceived s) := by
  unfold execJoinReceived
  split
  · exact answers_settled (joinArrives_queued _ _)
  · exact answers_silent rfl

theorem execLeaveReceived_answers : Answers s (execLeaveReceived s) := by
  unfold execLeaveReceived
  split
  · exact answers_settled (leaveArrives_queued _ _)
  · exact answers_silent rfl

theorem execSupplySenseCrossing_answers (dt mV : Nat) : Answers s (execSupplySenseCrossing dt mV s) := by
  unfold execSupplySenseCrossing; dsimp only; split <;> exact answers_silent (advance_posted s dt)

theorem execInhibitPinChange_answers (dt : Nat) (a : Bool) : Answers s (execInhibitPinChange dt a s) := by
  have advanced := advance_posted s dt
  rw [execInhibitPinChange_eq]
  refine answers_silent ?_
  split
  · exact (inhibitTaken_posted _ _).trans advanced
  · exact advanced

theorem execOscinReturn_answers : Answers s (execOscinReturn s) :=
  answers_settled ((referenceTaken_queued _).trans (queued_of_posted (inhibitTaken_posted _ _)))

theorem execTransactionStart_answers (dt : Nat) : Answers s (execTransactionStart dt s) := by
  unfold execTransactionStart; dsimp only; split <;> exact answers_silent (advance_posted s dt)

theorem execReadResponse_answers (dt count : Nat) : Answers s (execReadResponse dt count s) := by
  unfold execReadResponse; split <;> exact answers_rise dt fun _ => rfl

theorem execUnknownCommand_answers (dt : Nat) (code : Byte) : Answers s (execUnknownCommand dt code s) := by
  unfold execUnknownCommand
  split
  · exact answers_silent rfl
  · exact answers_rise dt fun _ => rfl

theorem execResponseCompletion_answers (dt : Nat) : Answers s (execResponseCompletion dt s) := by
  unfold execResponseCompletion; dsimp only; split <;> exact answers_silent (advance_posted s dt)

/-- EVENTS removes records from the front, where the row stays without a gap (R190). -/
theorem execEvents_answers (dt : Nat) (payload : List Byte) : Answers s (execEvents dt payload s) := by
  refine atRise_of (P := fun t => Answers s (.next t)) dt (answers_silent (advance_posted s dt)) ?_
  refine ⟨_, rfl, (takeEvents_pending _ _).trans (advance_pending s dt), fun form => takeEvents_queueForm ?_ _⟩
  exact (queueForm_congr (advance_posted s dt)).2 form

/-- Every command answers. -/
theorem exec_answers (c : Instr) : Answers s (exec c s) := by
  match c with
  | .powerOnReset => exact held_answers s _
  | .resetPin => exact held_answers s _
  | .resetRelease straps => exact execResetRelease_answers s straps
  | .endOfEpoch => exact execEndOfEpoch_answers s
  | .replayEnd => exact execReplayEnd_answers s
  | .slotTime k => exact answers_point _ (slotTime_posted · k)
  | .markRelease | .heldLowTest | .markRecovery | .blankingEnd | .pulseEnd _ | .wordSamplePoint =>
    exact answers_expiry _ fun _ => rfl
  | .endOfMarkRegion => exact answers_point_settled _ endOfMark_queued
  | .temperatureSample die => exact answers_point_settled _ (takeSample_queued · die)
  | .talkWindowOpening => exact answers_point _ fun u => by split <;> simp
  | .talkWindowClosing => exact answers_point_settled _ closeTalk_queued
  | .solvePoint => exact answers_point_settled _ fun u => by split <;> simp
  | .refinTransition dt rising => exact execRefinTransition_answers s dt rising
  | .refinEdgeAccepted => exact answers_expiry_settled _ candidateAccepted_queued
  | .refvalidDeassert dt => exact refvalidPinBecomes_answers s dt false
  | .refvalidAssert dt => exact refvalidPinBecomes_answers s dt true
  | .markFall dt => exact execMarkFall_answers s dt
  | .markEdgeAccept => exact answers_expiry_settled _ acceptHeld_queued
  | .markRise dt => exact execMarkRise_answers s dt
  | .markStuck => exact answers_expiry_settled _ markStuck_queued
  | .wordFall dt => exact execWordFall_answers s dt
  | .wordRise dt => exact execWordRise_answers s dt
  | .lineIdle => exact answers_expiry _ lineIdle_posted
  | .arbitrationLoss => exact execArbitrationLoss_answers s
  | .payloadCollision => exact execPayloadCollision_answers s
  | .frameSent => exact execFrameSent_answers s
  | .frameError => exact execFrameError_answers s
  | .censusReceived => exact execCensusReceived_answers s
  | .joinReceived => exact execJoinReceived_answers s
  | .leaveReceived => exact execLeaveReceived_answers s
  | .wordStuck => exact answers_expiry_settled _ wordStuck_queued
  | .wordRecovery => exact answers_expiry _ wordRecovered_posted
  | .supplySenseCrossing dt mV => exact execSupplySenseCrossing_answers s dt mV
  | .supplyLow => exact answers_expiry_settled _ supplyFell_queued
  | .supplyRestored => exact answers_expiry_settled _ supplyRose_queued
  | .generatorStart g => exact answers_expiry _ (startPulse_posted · g)
  | .inhibitPinChange dt a => exact execInhibitPinChange_answers s dt a
  | .filteredLevelChange => exact answers_expiry_settled _ fun u => filteredBecomes_queued u _
  | .transactionStart dt => exact execTransactionStart_answers s dt
  | .shortTransaction dt _ => exact answers_rise dt fun _ => rfl
  | .readResponse dt count => exact execReadResponse_answers s dt count
  | .setup dt payload => exact answers_rise dt (setup_posted · payload)
  | .loadTablePage dt payload => exact answers_rise dt (loadPage_posted · payload)
  | .begin dt => exact answers_rise_settled dt takeBegin_queued
  | .status dt => exact answers_rise dt fun _ => rfl
  | .roster dt => exact answers_rise dt fun _ => rfl
  | .tablePage dt payload => exact answers_rise dt (readPage_posted · payload)
  | .events dt payload => exact execEvents_answers s dt payload
  | .withdraw dt => exact answers_rise_settled dt withdraw_queued
  | .resume dt => exact answers_rise_settled dt resume_queued
  | .trimGroup dt payload => exact answers_rise dt (trim_posted · payload)
  | .clearInhibit dt => exact answers_rise_settled dt clearInhibit_queued
  | .unknownCommand dt code => exact execUnknownCommand_answers s dt code
  | .responseCompletion dt => exact execResponseCompletion_answers s dt
  | .wordBitStart => exact answers_expiry _ bitEnds_posted
  | .oscinStop dt => exact answers_silent (advance_posted s dt)
  | .oscinReturn => exact execOscinReturn_answers s

end Commands

/-! ## The statements -/

/-- Settles O56: `exec_answers`, command by command; an idle step changes nothing. -/
theorem stepKeepsTheQueueForm : Obligations.StepKeepsTheQueueForm := by
  intro s t form e
  unfold step at e
  split at e
  · rwa [← Host.Outcome.next.inj e]
  · next c cs _ =>
    obtain ⟨u, answer, -, keeps⟩ := exec_answers { s with pending := cs } c
    rw [← Host.Outcome.next.inj (answer.symm.trans e)]
    exact keeps form

/-- Settles O2: `exec_answers` names the next state, and says that the commands that wait still wait. -/
theorem everyCommandAnswersANextState : Obligations.EveryCommandAnswersANextState := by
  intro c s
  obtain ⟨t, answer, pending, -⟩ := exec_answers s c
  exact ⟨t, answer, pending⟩

end Sys2Proof.Machine

/-! # EVENTS, and an event stored or lost (R189, R190, R192) -/

namespace Sys2Proof.Machine

open Sys2Proof

/-! ## A payload of one byte (R177, R180) -/

section OneByte

variable {f : FieldSpec} (one : f.width = 1) {b : Byte} (rest : List Byte)
include one

theorem parseByte_accepted {v : Nat} (h : f.check [] b.toNat = some v) :
    parseFields [f] 1 [] (b :: rest) = .accepted [v] :=
  parseFields_taken (by simp [one]) (by rw [one, natBE_take_one]; exact h)

theorem parseByte_refused (h : f.check [] b.toNat = none) : parseFields [f] 1 [] (b :: rest) = .refused 1 :=
  parseFields_refused (by simp [one]) (by rw [one, natBE_take_one]; exact h)

end OneByte

/-! ## EVENTS taken and refused (R190, R192) -/

section Taken

variable {s : State} {b : Byte} (rest : List Byte)

theorem takeEvents_accepted (lo : 1 ≤ b.toNat) (hi : b.toNat ≤ 8) :
    s.takeEvents (b :: rest) = { s with port := { s.port with
      queue := s.port.queue.drop b.toNat
      lost := 0
      slot := .pending ⟨0x07, .ok, 0, BitVec.ofNat 8 s.port.lost ::
        BitVec.ofNat 8 (s.port.queue.take b.toNat).length ::
          (s.port.queue.take b.toNat).flatMap EventRecord.bytes⟩ } } := by
  rw [State.takeEvents, parseByte_accepted (f := countField) rfl rest (if_pos ⟨lo, hi⟩)]
  rfl

theorem takeEvents_refused (h : b.toNat = 0 ∨ 8 < b.toNat) : s.takeEvents (b :: rest) = s.refuseField 0x07 1 := by
  rw [State.takeEvents, parseByte_refused (f := countField) rfl rest (if_neg (by omega))]

theorem takeEvents_nil : s.takeEvents [] = s.refuseField 0x07 1 := by
  rw [State.takeEvents, parseFields_short (by decide)]

end Taken

theorem exec_events {s : State} {x : Slot} (ht : s.port.transaction = some x) (dt : Nat) (payload : List Byte) :
    exec (.events dt payload) s =
      .next (State.takeEvents payload { s.advance dt with port.transaction := none, port.sdo := none }) := by
  show Host.Outcome.next (s.atRise dt (State.takeEvents payload)) = _
  rw [atRise_some _ _ _ x ht]

/-- EVENTS by its count (R190, R192). -/
theorem events_spec (s : State) (dt : Nat) (x : Slot) (b : Byte) (rest : List Byte)
    (ht : s.port.transaction = some x) :
    let u : State := { s.advance dt with port.transaction := none, port.sdo := none }
    (1 ≤ b.toNat → b.toNat ≤ 8 → exec (.events dt (b :: rest)) s = .next { u with
      port := { u.port with
        queue := s.port.queue.drop b.toNat
        lost := 0
        slot := .pending ⟨0x07, .ok, 0, BitVec.ofNat 8 s.port.lost ::
          BitVec.ofNat 8 (s.port.queue.take b.toNat).length ::
            (s.port.queue.take b.toNat).flatMap EventRecord.bytes⟩ } }) ∧
    (b.toNat = 0 ∨ 8 < b.toNat → exec (.events dt (b :: rest)) s = .next { u with
      port.slot := .pending ⟨0x07, .refusedValue, 1, []⟩ }) ∧
    exec (.events dt []) s = .next { u with port.slot := .pending ⟨0x07, .refusedValue, 1, []⟩ } := by
  intro u
  have queue : u.port.queue = s.port.queue := (congrArg Port.queue (advance_port s dt) : (s.advance dt).port.queue = _)
  have lost : u.port.lost = s.port.lost := (congrArg Port.lost (advance_port s dt) : (s.advance dt).port.lost = _)
  rw [exec_events ht, exec_events ht, ← queue, ← lost]
  refine ⟨fun lo hi => ?_, fun h => ?_, ?_⟩
  · rw [takeEvents_accepted rest lo hi]
  · rw [takeEvents_refused rest h]; rfl
  · rw [takeEvents_nil]; rfl

/-- Settles O54: EVENTS by `events_spec`, an event offered by `offer_stores` and `offer_loses`. -/
theorem eventsAreStoredRemovedOrLost : Obligations.EventsAreStoredRemovedOrLost :=
  ⟨events_spec, fun s p => ⟨offer_stores s p, fun full => offer_loses s p (Nat.not_lt.2 full)⟩⟩

end Sys2Proof.Machine

/-! # The fields of SETUP and the settings they become (R177, R180 to R183, R198) -/

namespace Sys2Proof.Machine

open Sys2Proof

/-! ## The fields in their places (R182, R183) -/

/-- A code field refuses all but its codes (R182). -/
theorem codeField_check (n : Nat) (acc : List Nat) (v : Nat) :
    (codeField n).check acc v = if v < n then some v else none := rfl

/-- A numeric field is clamped (R182). -/
theorem clampField_check (width lo hi : Nat) (acc : List Nat) (v : Nat) :
    (clampField width lo hi).check acc v = some (max lo (min hi v)) := rfl

/-- The node's code fields. -/
theorem setupFields_code : ∀ x ∈ [(1, 2), (2, 2), (3, 4), (4, 2), (9, 4), (23, 2)],
    setupFields.getD (x.1 - 1) (anyField 0) = codeField x.2 := by
  simp only [List.forall_mem_cons]
  exact ⟨rfl, rfl, rfl, rfl, rfl, rfl, nofun⟩

/-- The node's clamped fields, with their ranges; their widths stand in the list of all widths. -/
theorem setupFields_clamp : ∀ x ∈ [(5, 4, 64), (6, 1, 16), (7, 1, 100), (10, 1, 2000), (11, 1, 2000), (12, 1, 2000),
      (13, 50, 5000), (14, 1000, 20000), (15, 20, 1000), (16, 200, 20000), (17, 0, 1000), (18, 4, 64), (20, 0, 3300),
      (22, 1, 16), (24, 1, 16)],
    ∃ width, setupFields.getD (x.1 - 1) (anyField 0) = clampField width x.2.1 x.2.2 := by
  simp only [List.forall_mem_cons]
  exact ⟨⟨1, rfl⟩, ⟨1, rfl⟩, ⟨1, rfl⟩, ⟨2, rfl⟩, ⟨2, rfl⟩, ⟨2, rfl⟩, ⟨2, rfl⟩, ⟨2, rfl⟩, ⟨2, rfl⟩, ⟨2, rfl⟩, ⟨2, rfl⟩,
    ⟨1, rfl⟩, ⟨2, rfl⟩, ⟨1, rfl⟩, ⟨1, rfl⟩, nofun⟩

/-- A four-byte pattern carries a signed number within its range (R198). -/
theorem signedOf_patternOf {x : Int} (lo : -2147483648 ≤ x) (hi : x ≤ 2147483647) : signedOf (patternOf x) = x := by
  rw [signedOf, patternOf, BitVec.ofNat_toNat, BitVec.setWidth_eq, BitVec.toInt_ofInt]
  exact Int.bmod_eq_of_le (by omega) (by omega)

/-- Field 8, the reference offset, is clamped as a signed number (R182). -/
theorem refOffsetField_check (acc : List Nat) (v : Nat) :
    ∃ w, (setupFields.getD 7 (anyField 0)).check acc v = some w ∧
      signedOf w = max (-100000) (min 100000 (signedOf v)) := by
  have ⟨lo, hi⟩ := clampInt_within 100000 (signedOf v) (by decide)
  exact ⟨_, rfl, signedOf_patternOf (by omega) (by omega)⟩

/-- The fields of the generators follow one another, eight to each. -/
theorem flatten_genFields_getD {k g j : Nat} (hg : g < k) (hj : j < 8) (other : FieldSpec) :
    (List.replicate k genFields).flatten.getD (8 * g + j) other = genFields.getD j other := by
  have eight : genFields.length = 8 := rfl
  induction k generalizing g with
  | zero => exact absurd hg (Nat.not_lt_zero g)
  | succ k ih =>
    rw [List.replicate_succ, List.flatten_cons]
    cases g with
    | zero => rw [List.getD_append _ _ _ _ (by omega), Nat.mul_zero, Nat.zero_add]
    | succ g =>
      rw [List.getD_append_right _ _ _ _ (by omega), eight, show 8 * (g + 1) + j - 8 = 8 * g + j by omega]
      exact ih (Nat.lt_of_succ_lt_succ hg)

theorem setupFields_eq : setupFields = nodeFields ++ (List.replicate 4 genFields).flatten := rfl

/-- Field `j` of generator `g` in the record (R183). -/
theorem genField_check {g j : Nat} (hg : g < 4) (hj : j < 8) (acc : List Nat) (v : Nat) :
    (setupFields.getD (26 + j + 8 * g - 1) (anyField 0)).check acc v = (genFields.getD j (anyField 0)).check acc v := by
  have node : nodeFields.length = 25 := rfl
  rw [setupFields_eq, List.getD_append_right _ _ _ _ (by omega), node,
    show 26 + j + 8 * g - 1 - 25 = 8 * g + j by omega, flatten_genFields_getD hg hj]

/-! ## The settings (R182, R183, R198) -/

/-- The codes of the debounce times (R198). -/
theorem debounce_ticks (v : Nat) :
    (Debounce.ofCode v).ticks = match v with | 1 => 1600 | 2 => 16000 | 3 => 160000 | _ => 0 := by
  match v with
  | 0 | 1 | 2 | 3 => rfl
  | n + 4 => rfl

/-- A generator's settings from its eight values (R183, R198). -/
theorem genSettingsOf_spec (vs : List Nat) (start : Nat) :
    let g := genSettingsOf vs start
    let w := fun j => vs.getD (start + j) 0
    [g.enable, g.inverted] = [w 0 == 1, w 4 == 1] ∧ [g.period, g.offset, g.width, g.skip] = [w 1, w 2, w 3, w 7] ∧
    (g.group = .b ↔ w 5 = 1) ∧ (g.invalid = .high ↔ w 6 = 1) ∧ (g.invalid = .run ↔ w 6 = 2) := by
  intro g w
  have group : g.group = if w 5 = 1 then .b else .a := rfl
  have invalid : g.invalid = if w 6 = 1 then .high else if w 6 = 2 then .run else .low := rfl
  refine ⟨rfl, rfl, ?_, ?_, ?_⟩
  · rw [group]; exact Ne.ite_eq_left_iff (by decide)
  · rw [invalid]
    split
    · simp [*]
    · split <;> simp [*]
  · rw [invalid]
    split
    · simp [*]
    · split <;> simp [*]

/-- The settings of generator `i` stand from value 26 + 8 `i` of the record on. -/
theorem settingsOf_gen (vs : List Nat) (i : Fin 4) :
    let g := (settingsOf vs).gens.get i
    let w := fun j => vs.getD (26 + 8 * i.val + j - 1) 0
    [g.enable, g.inverted] = [w 0 == 1, w 4 == 1] ∧ [g.period, g.offset, g.width, g.skip] = [w 1, w 2, w 3, w 7] ∧
    (g.group = .b ↔ w 5 = 1) ∧ (g.invalid = .high ↔ w 6 = 1) ∧ (g.invalid = .run ↔ w 6 = 2) := by
  match i with
  | 0 => exact genSettingsOf_spec vs 25
  | 1 => exact genSettingsOf_spec vs 33
  | 2 => exact genSettingsOf_spec vs 41
  | 3 => exact genSettingsOf_spec vs 49

theorem settingsOf_inhibitMode (vs : List Nat) : (settingsOf vs).inhibitMode = .follow ↔ vs.getD 22 0 = 1 := by
  have mode : (settingsOf vs).inhibitMode = if vs.getD 22 0 = 1 then .follow else .latched := rfl
  rw [mode]
  exact Ne.ite_eq_left_iff (by decide)

/-! ## The statement -/

/-- Settles O51: the parse by `parseFields_short`, `parseFields_refused` and `parseFields_taken`; the checks field by
field, the generators' by `genField_check`; the settings by the laws of `settingsOf`. -/
theorem setupFieldsAreCheckedAndClamped : Obligations.SetupFieldsAreCheckedAndClamped := by
  refine ⟨fun f fs i acc bytes => ⟨parseFields_short, parseFields_refused, fun v => parseFields_taken, rfl⟩, rfl,
    ?fields, fun vs => ⟨rfl, debounce_ticks _, rfl, rfl, rfl, BitVec.toNat_ofNat _ _, settingsOf_inhibitMode vs,
      settingsOf_gen vs⟩⟩
  case fields =>
    refine ⟨fun x hx acc v => ?_, fun x hx acc v => ?_, fun acc v => ⟨rfl, rfl⟩, refOffsetField_check,
      fun low acc v => rfl, fun g hg acc v => ?_⟩
    · exact (congrArg (·.check acc v) (setupFields_code x hx)).trans (codeField_check _ acc v)
    · obtain ⟨width, field⟩ := setupFields_clamp x hx
      exact (congrArg (·.check acc v) field).trans (clampField_check width _ _ acc v)
    · exact ⟨genField_check (j := 0) hg (by decide) acc v, genField_check (j := 1) hg (by decide) acc v,
        fun period => genField_check (j := 2) hg (by decide) (period :: acc) v,
        fun offset period => genField_check (j := 3) hg (by decide) (offset :: period :: acc) v,
        genField_check (j := 4) hg (by decide) acc v, genField_check (j := 5) hg (by decide) acc v,
        genField_check (j := 6) hg (by decide) acc v, genField_check (j := 7) hg (by decide) acc v⟩

end Sys2Proof.Machine

/-! # Transactions and their answers (R177 to R180, R186, R194, R197) -/

namespace Sys2Proof.Machine

open Sys2Proof

/-! ## The fall of CSN, and the completion of a response (R177 to R179) -/

section Start

variable {s : State} (dt : Nat)

theorem exec_transactionStart_taken (held : s.pins.resetHeld = false) (ht : s.port.transaction = none) :
    exec (.transactionStart dt) s =
      .next { s.advance dt with port.transaction := some s.port.slot, port.sdo := none } := by
  show execTransactionStart dt s = _
  simp [execTransactionStart, held, ht]

theorem exec_transactionStart_ignored (h : s.pins.resetHeld = true ∨ s.port.transaction.isSome = true) :
    exec (.transactionStart dt) s = .next (s.advance dt) := by
  show execTransactionStart dt s = _
  simp [execTransactionStart, h]

theorem exec_responseCompletion_pending {r : Response} (h : s.port.slot = .pending r) :
    exec (.responseCompletion dt) s = .next { s.advance dt with port.slot := .ready r } := by
  show execResponseCompletion dt s = _
  simp [execResponseCompletion, h]

end Start

/-! ## The rise of CSN (R177 to R180, R186) -/

section Rise

variable {s : State} {x : Slot} (ht : s.port.transaction = some x) (dt : Nat)
include ht

theorem exec_shortTransaction (bits : Nat) : exec (.shortTransaction dt bits) s =
    .next { s.advance dt with port.transaction := none, port.sdo := none } := by
  show Host.Outcome.next (s.atRise dt id) = _
  rw [atRise_some _ _ _ x ht]
  rfl

/-- READ RESPONSE clocks out the slot condition fixed at the fall of CSN (R179). -/
theorem exec_readResponse (n : Nat) : exec (.readResponse dt n) s =
    .next { s.advance dt with port.transaction := none, port.sdo := some (x.clockOut n) } := by
  show execReadResponse dt n s = _
  rw [execReadResponse, ht]
  dsimp only
  rw [atRise_some _ _ _ x ht]

theorem exec_status : exec (.status dt) s = .next (State.accept 0x04 (s.advance dt).statusRecord
    { s.advance dt with port.transaction := none, port.sdo := none }) := by
  show Host.Outcome.next (s.atRise dt _) = _
  rw [atRise_some _ _ _ x ht]
  rfl

theorem exec_roster : exec (.roster dt) s = .next (State.accept 0x05 s.roster.record
    { s.advance dt with port.transaction := none, port.sdo := none }) := by
  show Host.Outcome.next (s.atRise dt _) = _
  rw [atRise_some _ _ _ x ht, ← advance_roster s dt]

theorem exec_tablePage (payload : List Byte) : exec (.tablePage dt payload) s =
    .next (State.readPage payload { s.advance dt with port.transaction := none, port.sdo := none }) := by
  show Host.Outcome.next (s.atRise dt (State.readPage payload)) = _
  rw [atRise_some _ _ _ x ht]

theorem exec_unknownCommand {code : Byte} (h : 0x0C ≤ code.toNat) : exec (.unknownCommand dt code) s =
    .next (State.respond code .unknown 0 [] { s.advance dt with port.transaction := none, port.sdo := none }) := by
  have unnamed : namesCommand code = false := decide_eq_false (by omega)
  show execUnknownCommand dt code s = _
  rw [execUnknownCommand, unnamed, atRise_some _ _ _ x ht]
  rfl

end Rise

/-- A byte that names a command selects that command, not this one (R197, log entry 1). -/
theorem exec_unknownCommand_named (s : State) (dt : Nat) {code : Byte} (h : code.toNat < 0x0C) :
    exec (.unknownCommand dt code) s = .next s := by
  have named : namesCommand code = true := decide_eq_true (Nat.le_of_lt_succ h)
  show execUnknownCommand dt code s = _
  rw [execUnknownCommand, named]
  rfl

/-! ## TABLE PAGE taken and refused (R186) -/

section Page

variable {s : State} {b : Byte} (rest : List Byte)

theorem readPage_taken (h : b.toNat < 5) : s.readPage (b :: rest) = s.accept 0x06 (s.temp.page b.toNat) := by
  rw [State.readPage, parseByte_accepted (f := pageField) rfl rest (if_pos h)]
  rfl

theorem readPage_refused (h : 5 ≤ b.toNat) : s.readPage (b :: rest) = s.refuseField 0x06 1 := by
  rw [State.readPage, parseByte_refused (f := pageField) rfl rest (if_neg (Nat.not_lt.2 h))]

theorem readPage_nil : s.readPage [] = s.refuseField 0x06 1 := by
  rw [State.readPage, parseFields_short (by decide)]

end Page

theorem drivesSdo_iff (s : State) :
    s.drivesSdo = true ↔ s.port.transaction.isSome = true ∧ s.port.sdo.isSome = true := by
  simp [State.drivesSdo]

/-! ## The command that a byte names (R197) -/

/-- A code from 0C on names no command. -/
theorem ofCommand_unknown (dt : Nat) {code : Byte} (payload : List Byte) (h : 0x0C ≤ code.toNat) :
    Instr.ofCommand dt code payload = .unknownCommand dt code := by
  unfold Instr.ofCommand
  split
  case h_13 => rfl
  all_goals omega

/-! ## The word of a transaction's bytes (R177, R197) -/

/-- The word that holds bytes, the first in the least significant bits. -/
def wordOfBytes (bytes : List Byte) : Nat := bytes.foldr (fun b n => b.toNat + 256 * n) 0

theorem wordOfBytes_cons (b : Byte) (bytes : List Byte) :
    wordOfBytes (b :: bytes) = b.toNat + 256 * wordOfBytes bytes := rfl

/-- The bytes are read back from their word. -/
theorem bytesOfWord_wordOfBytes (bytes : List Byte) :
    bytesOfWord (8 * bytes.length) (wordOfBytes bytes) = bytes := by
  unfold bytesOfWord
  rw [Nat.mul_div_cancel_left _ (by decide)]
  induction bytes with
  | nil => rfl
  | cons b bytes ih =>
    have first : BitVec.ofNat 8 (wordOfBytes (b :: bytes) / 256 ^ 0) = b := by
      apply BitVec.eq_of_toNat_eq
      rw [wordOfBytes_cons, BitVec.toNat_ofNat]
      have := b.isLt
      omega
    have later (i : Nat) : wordOfBytes (b :: bytes) / 256 ^ (i + 1) = wordOfBytes bytes / 256 ^ i := by
      have := b.isLt
      rw [Nat.pow_succ', ← Nat.div_div_eq_div_mul, wordOfBytes_cons]
      congr 1
      omega
    rw [List.length_cons, List.range_succ_eq_map, List.map_cons, List.map_map, first]
    simp only [Function.comp_def, later]
    rw [ih]

theorem decodeTableWord_wordOfBytes {bytes : List Byte} (h : bytes ≠ []) :
    decodeTableWord (8 * bytes.length) (wordOfBytes bytes) = some (Instr.ofTransaction 0 bytes 0) := by
  have some_bits : 8 * bytes.length ≠ 0 := by simpa using h
  have whole : Fin.ofNat 8 (8 * bytes.length) = 0 := Fin.ext (Nat.mul_mod_right 8 _)
  rw [decodeTableWord, if_neg some_bits, bytesOfWord_wordOfBytes, whole]

/-- A word puts the command it spells at the front of the queue. -/
theorem withFetchWord_wordOfBytes (s : State) {bytes : List Byte} (h : bytes ≠ []) :
    s.withFetchWord (8 * bytes.length) (wordOfBytes bytes) =
      { s with pending := Instr.ofTransaction 0 bytes 0 :: s.pending } := by
  rw [State.withFetchWord, decodeTableWord_wordOfBytes h]

/-! ## The statement -/

/-- Settles O49: the fall and the rise of CSN command by command, SDO by `drivesSdo_iff`, the command byte by
`ofCommand_unknown`, and the word by `decodeTableWord_wordOfBytes`. -/
theorem transactionsAreAnsweredThroughTheSlot : Obligations.TransactionsAreAnsweredThroughTheSlot := by
  refine ⟨⟨fun s dt => ⟨exec_transactionStart_taken dt, exec_transactionStart_ignored dt,
    fun r => exec_responseCompletion_pending dt⟩, fun s dt x ht => ?rise⟩, drivesSdo_iff,
    fun dt code payload rest => ⟨rfl, ofCommand_unknown dt payload, rfl⟩,
    fun bytes s => ⟨fun h => ⟨decodeTableWord_wordOfBytes h, withFetchWord_wordOfBytes s h⟩, ?none⟩⟩
  case rise =>
    intro u answered
    have temp : u.temp = s.temp := advance_temp s dt
    rw [exec_status ht, exec_roster ht, exec_tablePage ht, ← temp]
    refine ⟨exec_shortTransaction ht dt, fun n => ?_, fun code h => exec_unknownCommand ht dt h,
      fun code h => exec_unknownCommand_named s dt h, rfl, rfl, fun b rest h => ?_, fun b rest h => ?_, ?_⟩
    · rw [exec_readResponse ht]; cases x <;> rfl
    · rw [exec_tablePage ht, readPage_taken rest h]; rfl
    · rw [exec_tablePage ht, readPage_refused rest h]; rfl
    · rw [readPage_nil]; rfl
  case none =>
    rintro rfl
    rfl

end Sys2Proof.Machine

/-! # The step and the front of the queue (log entry 2) -/

namespace Sys2Proof.Machine

theorem step_of_pending_nil {s : State} (h : s.pending = []) : step s = .next s := by
  rw [step, h]

theorem step_of_pending_cons {c : Instr} {cs : List Instr} {s : State} (h : s.pending = c :: cs) :
    step s = exec c { s with pending := cs } := by
  rw [step, h]

/-- Settles O1, by the two forms of the queue. A command put in front leaves the state it was put on as the rest,
so that is the state on which the command runs. -/
theorem stepTakesTheFrontCommand : Obligations.StepTakesTheFrontCommand := by
  refine ⟨fun c s => ?front, fun _ => step_of_pending_nil⟩
  case front =>
    have rest : { { s with pending := c :: s.pending } with pending := s.pending } = s := rfl
    rw [step_of_pending_cons (cs := s.pending) rfl, rest]

end Sys2Proof.Machine
